-- ==== Sys2Proof/Word.lean ====
section
/-! DEFINITION. The word types of the K648A's interfaces and the sparse table every block of state is kept in. -/

namespace Sys2Proof

/-- One byte. -/
abbrev Byte := BitVec 8
/-- A 16-bit field, such as an L-code (R164). -/
abbrev Half := BitVec 16
/-- A register (R5). -/
abbrev Word := BitVec 32
/-- A 64-bit value kept in two registers (R511) or in a descriptor. -/
abbrev DWord := BitVec 64

/-- A sparse table: (key, value) pairs, keys strictly rising, no entry equal to the key's default. -/
abbrev Tab (α : Type) := List (Nat × α)

/-- One nanosecond in the unit of module time, 2^-16 ns (R376). -/
abbrev nsU : Nat := 65536
/-- One microsecond in units of 2^-16 ns. -/
abbrev usU : Nat := 65536000
/-- One millisecond in units of 2^-16 ns. -/
abbrev msU : Nat := 65536000000
/-- One second in units of 2^-16 ns. -/
abbrev secU : Nat := 65536000000000

end Sys2Proof
end

