-- ==== Sys2Proof/Config.lean ====
section
/-! DEFINITION. What one module fixes and the manual does not give: fuses, flash images, unpublished filters, and the free values. No constant here has a body. -/

namespace Sys2Proof.Config

/-- Free values: output of the entropy source, one per draw (R504, R311, R507). -/
opaque entropy : Nat → DWord
/-- Free values: what the servo firmware asks of RATE after an exchange, before the bounds of R386 (R556). -/
opaque servoRate : Nat → Int
/-- Free values: the servo's filtered offset in ns (R387, R556). -/
opaque servoOffset : Nat → Int
/-- Free values: the frequency estimate over the 16 exchanges of the single step, before the clamp of R385. -/
opaque stepRate : Nat → Int
/-- Free values: whether 16 exchanges span less than 1 µs after the trend is removed (Table 11-1); the removal is firmware. -/
opaque trendRemovedSpan : List Int → Nat
/-- Free values: randomisation of the Delay_Req interval (R381), in 2^-16 ns, cut to twice the interval. -/
opaque delayReqJitter : Nat → Nat
/-- Free values: a word written into a host buffer that a failed result write left (R55). -/
opaque failedWriteByte : Nat → Byte

/-- Free values: whether the write of a result into a host buffer fails (R55). -/
opaque resultWriteFails : Nat → Bool
/-- Igyeri's PCI Express Vendor ID (R2). -/
opaque vendorId : Half

/-- Free values within the tolerance of R132: what a module's arithmetic adds to the exact colour of a sample, in units of 2^-23, from the colour parameters, the component and the scaled sample; the use cuts it to the tolerance. -/
opaque colourError : List Int → Int
/-- Free values: the light of a PQ or HLG signal outside 0 to 1, for which ST 2084 and BT.2100 state none, from the transfer function and the signal. -/
opaque signalLight : Nat → Int → Int
/-- The windowed-sinc filters of R130 and R554: half the common denominator of a filter's coefficients less 1, from its taps; and a coefficient's numerator, from its taps, the phase (1 to 32) and the tap. -/
opaque sincDen : Nat → Nat
opaque sincCoef : Nat → Nat → Nat → Int
/-- Free values: the word of a surface pixel that nothing has written, from the surface or version and the pixel's place (R123 gives its age, no rule its value). -/
opaque blankPixel : Nat → Nat → Word
/-- Free values: what the module keeps of a sheet it sent on a direction of a quire with a SEQ (R356): its digest and how long ago it was sent in 2^-16 ns, or none when it sent no such sheet. The model does not lay packets out in sheets. -/
opaque sentSheet : Nat → Nat → Nat → Nat → Option (Word × Nat)
/-- Free values: the SEQ of the sheet in which a TIME packet starts (Table 11-3), below 65,520; the model does not lay packets out in sheets. -/
opaque sheetSeq : Nat → Nat
/-- Free values: how many requests a pseudo-channel still holds when it is RETIRED (R435), from the draw; the model serves a request in one step. -/
opaque heldRequests : Nat → Nat
/-- Free values: how many slugs a slug encoder holds when it leaves service (R485), from the draw; the model completes a slug in one step. -/
opaque heldSlugs : Nat → Nat
/-- Free values: a tap of a lane's receiver as its adaptation leaves it, in 1/64 of the main tap (R277), from the draw, the lane and the tap; cut to the limits of the entry. -/
opaque rxTap : Nat → Nat → Nat → Int
/-- Free values: codewords a lane's receiver corrected (R294), and test body bits it found in error (R284), since the last mean of its margin, from the draw and the lane. -/
opaque corrected : Nat → Nat → Nat
opaque bodyErrors : Nat → Nat → Nat
/-- Free values: the error e of a lane's ADC slice at a calibration, in 1/16 LSB (R471), from the draw, the lane and the slice; cut to 8 bits. -/
opaque sliceError : Nat → Nat → Nat → Nat
/-- The oscillator's factory temperature curve (R408): compensation in 0.001 ppm from the temperature in 1/16 °C. -/
opaque tcxoCurve : Int → Int

/-- The module identity in fuses (Table 14-6). -/
opaque calId : DWord
/-- The reference TRIM in fuses (R474), 7 bits. -/
opaque refTrim : BitVec 7
/-- The factory residual of the reference in µV (Table 14-6). -/
opaque refResid : Int
/-- The offset leg code of each sensor in fuses (R474), 4 bits. -/
opaque sensTrim : Nat → BitVec 4
/-- The factory residual of each sensor in 1/16 °C (Table 14-6). -/
opaque sensResid : Nat → Int
/-- The vendor key hash in fuses (R489). -/
opaque vendorKeyHash : BitVec 384
/-- The fused security-version floor at the factory (R489). -/
opaque svnFloor : BitVec 6
/-- VERSION of the image in bank A at the factory. -/
opaque factoryVersion : Word
/-- SVN of the image in bank A at the factory. -/
opaque factorySvn : BitVec 6
/-- SHA-384 of the manifest of the image in bank A at the factory (R494). -/
opaque factoryManifest : BitVec 384
/-- Hash of the owner key that co-signs the image in bank A at the factory, if one does. -/
opaque factoryCoSigner : Option (BitVec 384)
/-- Taps measured at training (R473): most skipped, smallest usable count minus 128, mean step in 0.001 ps, by pseudo-channel. -/
opaque pcTaps : Nat → Nat × Nat × Nat

/-- Free values: an eye width measured at a training (R417), in ps, from the draw, the pseudo-channel and the eye (0 to 4 read, 5 to 9 write); cut to 255. -/
opaque eyeWidth : Nat → Nat → Nat → Nat
/-- Free values: the taps a training selects (R417, Table 14-4), from the draw, the pseudo-channel and the lane (0 to 4 read, 5 to 9 write); below 160. -/
opaque trainedTap : Nat → Nat → Nat → Nat
/-- Free values: what CALREF reads, in µV, at a CALREF run started by a plain register write (R474), from the draw. -/
opaque calrefVolts : Nat → Nat

end Sys2Proof.Config
end

