-- ==== Sys2Proof/Syntax.lean ====
section
/-! DEFINITION. The commands and events of the module, one constructor per row of spec/opcode_table.json, and the data they carry. Every command carries dt, the registration-clock time elapsed since the command before it, in units of 2^-16 ns (log entry 2). -/

namespace Sys2Proof

/-- A 64-byte descriptor slot (Table 2-10), byte k in bits [8k+7:8k] (little-endian, R5). -/
abbrev Slot := BitVec 512

/-- A sample of a source pixel: Y, Cb, Cr or R, G, B (Table 3-7). On odd pixels of 4:2:2 the chroma components are absent and are 0. -/
structure Smp where
  a : Nat
  b : Nat
  c : Nat
  deriving DecidableEq, Repr

/-- One sample row data segment of an ST 2110-20 packet (R104). -/
structure RtpRow where
  line : Nat
  x : Nat
  px : List Smp
  deriving DecidableEq, Repr

/-- What the parser gives of a UDP media packet (R104, R107). -/
structure MediaPkt where
  ipv6 : Bool
  src : BitVec 128
  dst : BitVec 128
  /-- IPv4 fragment, IPv4 options or IPv6 extension header (R90) -/
  odd : Bool
  udpPort : Nat
  rtpVersion : Nat
  pt : Nat
  ssrc : Word
  ts : Word
  seq : Word
  marker : Bool
  rows : List RtpRow
  deriving DecidableEq, Repr

/-- What an Ethernet frame holds, as the ports of R91 and R105 tell them apart. -/
inductive FrameBody where
  | media (p : MediaPkt)
  /-- an ARP message: sender and target IPv4 addresses, sender MAC, request or not -/
  | arp (sender target : Word) (mac : BitVec 48) (request : Bool)
  /-- an IPv6 neighbour message for `target`: solicitation or advertisement, `probe` when sent by duplicate-address detection -/
  | nd (target : BitVec 128) (advert probe : Bool)
  /-- a PTP or ESMC packet that the time section takes -/
  | timing
  /-- a frame of any other protocol -/
  | other
  deriving DecidableEq, Repr

/-- A received Ethernet frame (R90). -/
structure EthFrame where
  len : Nat
  fcsOk : Bool
  vlan : Option Nat
  /-- a non-zero UDP checksum that is bad -/
  udpBad : Bool
  body : FrameBody
  deriving DecidableEq, Repr

/-- The common part of a packet a leaf inserted (Table 9-2): direction 0 is A, 1 is B. -/
structure Ins where
  quire : Nat
  dir : Nat
  leaf : Nat
  session : DWord
  /-- CHECK as received (R307) -/
  check : Word
  /-- a byte CHECK covers arrived marked errored -/
  errored : Bool
  deriving DecidableEq, Repr

/-- One entry of an ACK packet (Table 9-9). -/
structure AckEntry where
  imp : Half
  gen : Nat
  batch : Nat
  bitmap : DWord
  deriving DecidableEq, Repr

/-- The body of an ENROLL report (Table 9-13). -/
structure Enroll where
  proto : Nat
  maker : Half
  model : Half
  serial : DWord
  fw : Word
  lamps : Nat
  n : Nat
  weights : Word
  budget : Nat
  driveBits : Nat
  hopA : Nat
  hopB : Nat
  deriving DecidableEq, Repr

/-- The body of a FLIP report (Table 9-13). -/
structure FlipRep where
  sched : Nat
  shown : Nat
  gens : Half
  flags : Byte
  missed : Nat
  frisket : Word
  range : Word
  rangeNo : Nat
  temp : Int
  rejected : Nat
  deriving DecidableEq, Repr

/-- The body of a RESULT report (Table 9-13). -/
structure ResultRep where
  seq : Nat
  status : Word
  applied : Nat
  data : List Byte
  deriving DecidableEq, Repr

/-- The body of a BREAK packet (Table 9-14). -/
structure BreakRep where
  port : Nat
  epoch : Word
  lostS : Nat
  lostNs : Nat
  deriving DecidableEq, Repr

/-- A received link sheet (Tables 8-2 and 11-2) with the arrival the port timed: rtt is t4 - t1 when it echoes an own sheet (R395). asym, turn, cum and rtt in 1/16 ns. -/
structure LinkSheet where
  crcOk : Bool
  rxFom : Int
  loop : Nat
  eqLimit : Bool
  fecCorr : Nat
  fecUnc : Nat
  echoValid : Bool
  cumValid : Bool
  turn : Nat
  asym : Int
  cum : Nat
  rtt : Nat
  deriving DecidableEq, Repr

/-- Where a PTP message came from (R381, R382). -/
structure PtpSrc where
  port : Nat
  ipv6 : Bool
  addr : BitVec 128
  domain : Nat
  clockId : DWord
  portNo : Nat
  deriving DecidableEq, Repr

/-- The data set of an Announce message (R383). -/
structure Announce where
  prio1 : Nat
  clkClass : Nat
  accuracy : Nat
  variance : Nat
  prio2 : Nat
  gm : DWord
  steps : Nat
  utcOffset : Int
  utcValid : Bool
  logInt : Int
  deriving DecidableEq, Repr

/-- A Sync with its time (one-step), a Sync to be followed, or a Follow_Up (R380). -/
inductive SyncKind where
  | oneStep (origin : Nat)
  | twoStep
  | followUp (origin : Nat)
  deriving DecidableEq, Repr

/-- What the SEC-DED code saw in a DRAM or SRAM word (R425). -/
inductive EccSeen where
  | clean
  | single (checkBit : Bool) (syndrome : Nat)
  | double (syndrome : Nat)
  deriving DecidableEq, Repr

/-- Whose word a DRAM word is (Tables 12-1 and 12-2). -/
inductive DramOwner where
  | surface (key ver block : Nat)
  | frame (stream : Nat) (ts : Word) (line : Nat)
  | canvas (tile : Nat)
  | refImage (leaf slug : Nat)
  | staged (leaf slug gen : Nat)
  | page (leaf page : Nat)
  | tableStaging (item : Nat)
  /-- the records of a pixel engine (0 to 17) or a slug encoder (32 to 40), as CAL_UNIT_SEL numbers them -/
  | unitRecords (unit : Nat)
  /-- trace records -/
  | records
  | other
  deriving DecidableEq, Repr

/-- The address of a DRAM word (R415). -/
structure DramAddr where
  pc : Nat
  bank : Nat
  row : Nat
  col : Nat
  deriving DecidableEq, Repr

/-- What asked an on-die SRAM for the word it read (R481). -/
inductive SramUser where
  | engine (e : Nat)
  | encoder (e : Nat)
  | pageCache (leaf page : Nat)
  | lane (i : Nat)
  | other
  deriving DecidableEq, Repr

/-- Why the host link was lost (R44). -/
inductive LinkLossCause where
  | hotReset
  | linkDisable
  | d3hot
  | linkFailure
  deriving DecidableEq, Repr

/-- The straps of Table 17-2, as sampled: bankForce 0 open, 1 low (bank A), 2 high (bank B). -/
structure Straps where
  pcieX4 : Bool
  bankForce : Nat
  testLock : Bool
  deriving DecidableEq, Repr

/-- A membership query (R92): old for IGMPv1, IGMPv2 and MLDv1; the group and sources asked for, if any. -/
structure McQuery where
  old : Bool
  ipv6 : Bool
  group : Option (BitVec 128)
  sources : List (BitVec 128)
  deriving DecidableEq, Repr

/-- One read eye and one write eye in ps, for each of 5 lanes of a pseudo-channel (R416, R417). -/
structure Eyes where
  rd : List Nat
  wr : List Nat
  deriving DecidableEq, Repr

/-- Bus mastering and MSI-X as the host has enabled them when the link returns (R80, R42). -/
structure LinkEnables where
  busMaster : Bool
  msix : Bool
  deriving DecidableEq, Repr

/-- A read by its offset and its size in bytes (R46). -/
structure RegRead where
  off : Nat
  size : Nat
  deriving DecidableEq, Repr

/-- The end of a table.verify (R181): the command, and the first page whose stored words could not be read. -/
structure VerifyEnd where
  item : Nat
  bad : Option Nat
  deriving DecidableEq, Repr

/-- A receiver tap at a limit (R277): the upper one or the lower. -/
structure TapLimit where
  lane : Nat
  tap : Nat
  high : Bool
  deriving DecidableEq, Repr

/-- A sheet's place in the stream of its direction (R269, R274): its distance from the last sheet given, in sheets, and its SEQ. -/
structure SheetPlace where
  pos : Nat
  seq : Nat
  deriving DecidableEq, Repr

/-- What an eye check finds (R420): the eyes, and for each lane how its read and write delay lie from the centre. -/
structure EyeDrift where
  eyes : Eyes
  drift : List (Int × Int)
  deriving DecidableEq, Repr

/-- What training and test of the stacks find (R417, R419): pseudo-channels that failed, and rows that did (pseudo-channel, bank, row). -/
structure StackTest where
  pcs : List Nat
  rows : List (Nat × Nat × Nat)
  deriving DecidableEq, Repr

/-- What training and test of one pseudo-channel find: its eyes, and rows that failed (bank, row). -/
structure PcTest where
  eyes : Eyes
  rows : List (Nat × Nat)
  deriving DecidableEq, Repr

/-- The rows of spec/opcode_table.json, in its order. -/
inductive Instr where
  | layerDefine (dt q : Nat) (desc auth : Slot)
  | layerUpdate (dt q : Nat) (desc auth : Slot)
  | layerRemove (dt q : Nat) (desc auth : Slot)
  | surfaceWrite (dt q : Nat) (desc auth : Slot)
  | fenceSignal (dt q : Nat) (desc auth : Slot)
  | sceneCommit (dt q : Nat) (desc auth : Slot)
  | streamAdmit (dt q : Nat) (desc auth : Slot)
  | streamRelease (dt q : Nat) (desc auth : Slot)
  | tableLoad (dt q : Nat) (desc auth : Slot)
  | tableVerify (dt q : Nat) (desc auth : Slot)
  | dimSet (dt q : Nat) (desc auth : Slot)
  | colourReference (dt q : Nat) (desc auth : Slot)
  | leafAdmit (dt q : Nat) (desc auth : Slot)
  | leafCommand (dt q : Nat) (desc auth : Slot)
  | quireRebalance (dt q : Nat) (desc auth : Slot)
  | leafRetire (dt q : Nat) (desc auth : Slot)
  | pulseRealign (dt q : Nat) (desc auth : Slot)
  | updateBlock (dt q : Nat) (desc auth : Slot)
  | updateActivate (dt q : Nat) (desc auth : Slot)
  | faultAck (dt q : Nat) (desc auth : Slot)
  | saveCalibration (dt q : Nat) (desc auth : Slot)
  | restoreCalibration (dt q : Nat) (desc auth : Slot)
  | opcodeRefused (dt q : Nat) (desc auth : Slot)
  /-- the bytes at 0x000 to 0x087 of the doorbell page and the fence words read (number, 8 bytes) -/
  | sweep (dt : Nat) (page : List Byte) (fences : List (Nat × List Byte))
  | doorbellStall (dt : Nat)
  /-- the buffer read of an item ended: its bytes, or none for an error completion or poisoned data -/
  | bufferStaged (dt item : Nat) (data : Option (List Byte))
  /-- queue numbers as in kind 14 of Table 13-3 -/
  | holdoffExpiry (dt queue : Nat)
  | overflowRecordWrite (dt queue : Nat)
  | hostLinkLoss (dt : Nat) (cause : LinkLossCause)
  | hostLinkReturn (dt : Nat) (enables : LinkEnables)
  | hifEnable (dt : Nat) (v : Word)
  | hifQuiesce (dt : Nat) (v : Word)
  | queueEnable (dt queue : Nat) (v : Word)
  | windowCommit (dt : Nat) (v : Word)
  | windowCommitApply (dt : Nat)
  | fkeyLock (dt : Nat) (v : Word)
  /-- a write of `size` bytes, and a read, at a BAR0 offset (R46), or at 0x1_0000 and up at a BAR2 offset (log entry 29) -/
  | registerWrite (dt off size : Nat) (v : Word)
  | rolRead (dt : Nat) (read : RegRead)
  | macEnable (dt m : Nat) (v : Word)
  | portEnable (dt p : Nat) (v : Word)
  | packetReceive (dt p : Nat) (f : EthFrame)
  | membershipQuery (dt p : Nat) (qy : McQuery)
  | stateChangeReportRepeat (dt p : Nat)
  | joinGraceExpiry (dt stream : Nat)
  | streamAbsenceExpiry (dt stream : Nat)
  | frameHoldExpiry (dt stream : Nat)
  | streamBuffersReturn (dt stream : Nat)
  | commitPoint (dt : Nat)
  | tileComplete (dt engine tile : Nat)
  | pressCutoff (dt : Nat)
  | walkerCutoff (dt : Nat)
  | slugEncoded (dt encoder leaf slug gen : Nat)
  | proofDecodeDone (dt encoder leaf slug gen : Nat) (ok : Bool)
  /-- a Makeready page arrives from DRAM; readOk is false when a word of it was uncorrectable -/
  | pageFetch (dt leaf page : Nat) (readOk : Bool)
  | tableLoadStaged (dt item : Nat)
  | tableVerifyDone (dt : Nat) (end_ : VerifyEnd)
  | commitDeadline (dt : Nat)
  | tick (dt : Nat)
  | recordGroupClose (dt : Nat)
  | lmpLeafSelect (dt : Nat) (v : Word)
  | toneMapCommit (dt : Nat) (v : Word)
  | soffsetWrite (dt : Nat) (v : Word)
  | impCommit (dt : Nat) (v : Word)
  | impCheckDone (dt : Nat)
  | liveWrite (dt : Nat) (v : Word)
  | quadEnable (dt quad : Nat) (v : Word)
  | quireEnable (dt quire : Nat) (v : Word)
  | eqEntryWrite (dt : Nat) (v : Word)
  | laneLoopWrite (dt lane : Nat) (v : Word)
  | laneRestore (dt lane : Nat) (v : Word)
  | laneAligned (dt lane : Nat)
  | laneAlignmentLoss (dt lane : Nat)
  | acquireTimeout (dt lane : Nat)
  | realignTimeout (dt lane : Nat)
  | idleNickReceive (dt lane seq : Nat)
  /-- a burst and then a nick of sequence seq; confirmed tells whether the next 3 nicks were valid -/
  | idleWakeReceive (dt lane seq : Nat) (confirmed : Bool)
  | idleBurstTimeout (dt lane : Nat)
  | transmitterIdle (dt lane : Nat)
  | transmitterWake (dt lane : Nat)
  | linkSheetReceive (dt lane : Nat) (sheet : LinkSheet)
  | codewordUncorrectable (dt lane : Nat)
  /-- the SNRs of the FOM windows of the last 1 ms, in 0.001 dB (log entry 102) -/
  | laneFomUpdate (dt lane : Nat) (snrs : List Int)
  | eqLimit (dt : Nat) (at_ : TapLimit)
  /-- the errors measured for the used slice u and the unused slice x -/
  | sliceCheck (dt lane u eu x ex : Nat)
  /-- a sheet of direction dir arrives at its receiving lane-end -/
  | sheetReceive (dt quire dir : Nat) (place : SheetPlace) (digest : Word) (errored : Bool)
  | sheetMissing (dt quire dir seq : Nat)
  /-- onSheet: it came in a break sheet of direction ins.dir -/
  | breakReceive (dt : Nat) (ins : Ins) (b : BreakRep) (onSheet : Bool)
  | replan (dt quire : Nat)
  | healComplete (dt quire dir : Nat)
  | rebalanceLaneCheck (dt quire : Nat)
  | replayTimeout (dt leaf slug gen : Nat)
  | ackReceive (dt : Nat) (ins : Ins) (entries : List AckEntry)
  | enrollReport (dt : Nat) (ins : Ins) (r : Enroll)
  | flipReport (dt : Nat) (ins : Ins) (r : FlipRep)
  | sensorReport (dt : Nat) (ins : Ins) (q : List Word)
  | resultReport (dt : Nat) (ins : Ins) (r : ResultRep)
  | checkwordReport (dt : Nat) (ins : Ins) (imp : Half) (gen slug : Nat)
  | mirrorReport (dt : Nat) (ins : Ins) (type part slug : Nat) (which : DWord)
  | quireAdoptStart (dt quire : Nat)
  | adoptSend (dt quire : Nat)
  | adoptingTimeout (dt quire : Nat)
  | badCountTimeout (dt quire : Nat)
  | leafLost (dt leaf : Nat)
  | leafFlipLate (dt leaf : Nat)
  | timePacketSend (dt quire : Nat)
  | ptpAnnounce (dt : Nat) (src : PtpSrc) (a : Announce)
  | ptpSync (dt : Nat) (src : PtpSrc) (k : SyncKind)
  | ptpDelayResp (dt : Nat) (src : PtpSrc) (t4 : Nat) (logInt : Int)
  | delayReqSend (dt : Nat)
  | announceReceiptTimeout (dt master : Nat)
  | timeSnap (dt : Nat) (v : Word)
  | hostStart (dt : Nat) (v : Word)
  | pCommit (dt : Nat) (v : Word)
  | generatorStart (dt : Nat)
  | pulseModeWrite (dt o : Nat) (v : Word)
  | pulseTargetCommit (dt o : Nat) (v : Word)
  | pulseDue (dt o : Nat)
  | esmcPdu (dt m ssm : Nat) (event : Bool)
  | refqlFrame (dt i : Nat) (bytes : List Byte)
  | qlTimeout (dt c : Nat)
  /-- the frequency offset over the window in 0.001 ppm; fin is 0 none, 1 10 MHz, 2 25 MHz -/
  | candidateWindow (dt c : Nat) (signal : Bool) (freq : Int) (fin : Nat)
  | candidateEligible (dt c : Nat)
  | candidateSignalLoss (dt c : Nat)
  | tcxoCompensation (dt : Nat) (temp : Int)
  | dramRead (dt : Nat) (a : DramAddr) (e : EccSeen) (o : DramOwner) (twinOk : Bool)
  | dramActivate (dt pc bank row : Nat)
  | refreshWindowEnd (dt stack : Nat)
  | eyeCheck (dt pc : Nat) (found : EyeDrift)
  | scrubRead (dt : Nat) (a : DramAddr) (e : EccSeen) (o : DramOwner) (twinOk : Bool)
  | trainingTempRecheck (dt : Nat)
  | migrationDone (dt pc : Nat)
  | pcRestore (dt : Nat) (v : Word)
  | sramReadError (dt macroNo row : Nat) (e : EccSeen) (user : SramUser)
  /-- 20 readings in 1/16 °C -/
  | thermalSample (dt : Nat) (r : List Int)
  /-- SUP48 in 10 mV, input current in mA, input power in 0.1 W -/
  | supplySample (dt v i p : Nat)
  | darkRepeat (dt : Nat)
  | orderlyStopEnd (dt : Nat)
  | resume (dt : Nat) (v : Word)
  | supervisorWatchdog (dt : Nat)
  | supervisorRestart (dt : Nat)
  /-- uv is what CALREF reads, in µV -/
  | calrefRun (dt : Nat) (v : Word) (uv : Nat)
  /-- the code whose measurement lay nearest 1.2000 V and its residual in µV -/
  | calrefRunDone (dt code : Nat) (resid : Int)
  | unitRestore (dt : Nat) (v : Word)
  | engineBringInDone (dt e : Nat) (pass : Bool)
  | encoderBringInDone (dt : Nat) (pass : Bool)
  | spareRecordWrite (dt : Nat)
  | packageVerifyDone (dt : Nat)
  | activateWriteDone (dt : Nat) (readbackOk : Bool)
  | activateConditionTimeout (dt : Nat)
  | warmRestart (dt : Nat)
  | imageConfirm (dt : Nat)
  | confirmationDeadline (dt : Nat)
  | ownerProgram (dt : Nat) (v : Word)
  | ownerLock (dt : Nat) (v : Word)
  | nonceIssue (dt : Nat)
  | entropyReady (dt : Nat)
  /-- the failing test: 1 repetition count, 2 adaptive proportion, 3 start-up -/
  | entropyHealth (dt test : Nat)
  | ingestTrace (dt : Nat)
  | supplyValid (dt : Nat)
  | perstRelease (dt : Nat)
  | perstAssert (dt : Nat)
  /-- the straps as they stand, and what HBM training and test found at their end -/
  | startupStageDone (dt : Nat) (st : Straps) (found : StackTest)
  | endpointReady (dt : Nat)
  | prereadyShutdownRestart (dt : Nat)
  | duplicateAddressDetection (dt p : Nat)
  | pcRestoreDone (dt pc : Nat) (ok : Bool) (found : PcTest)
  | unitRestoreSelftestDone (dt : Nat) (pass : Bool)
  /-- trained: the retraining succeeded; auxLost: the auxiliary rail was lost -/
  | resumeComplete (dt : Nat) (trained auxLost : Bool)
  | phaseBuildOutDone (dt : Nat)
  deriving DecidableEq, Repr

end Sys2Proof
end

