-- ==== Sys2Proof/Machine/State.lean ====
section
/-! DEFINITION. The state of the K648A as plain data. A field's docstring gives its width, the rule of spec/ that names it and, after "reset", its value at power-on reset. Sizes in bits; "n" is a natural number the manual bounds where it says so. -/

namespace Sys2Proof.Machine

open Sys2Proof

/-- A fault stops the block. No rule of the manual stops it: faults of the manual are effects on State.flt. Nothing raises this one; safe. -/
inductive Fault where
  | none
  deriving DecidableEq, Repr

/-- A refusal: the block has no meaning for the command. notModelled stands for a row without a meaning yet (raised by exec's arms only; safe). -/
inductive Refusal where
  | notModelled (mnemonic : String)
  deriving DecidableEq, Repr

/-- The status codes of Table 2-12; RETRY_ELSEWHERE never reaches a completion queue. -/
inductive Status where
  | done
  | doneLate
  | delayed
  | retryElsewhere
  | refusedCapacity
  | refusedBounds
  | refusedState
  | refusedMalformed
  | refusedAuth
  | refusedScale
  | failedUnit
  | failedNoResponse
  | failedDeadline
  | superseded
  | notReady
  deriving DecidableEq, Repr

/-- The fault sources of Table 13-4, in its order. -/
inductive Src where
  | laneFomLow | laneLos | laneRetired | laneSpareExhausted
  | quireBreak | quireClosureMismatch | leafLost | leafForeign | leafFlipLate | slugDeliveryFailed
  | unitStateConflict | leafCheckwordFault | mirrorMismatch
  | streamLoss | streamAbsent | streamFrozen | streamStranger | pathDiffExceeded | streamCollision
  | layerRefused | pressBudgetExceeded | fenceLate | engineRetired | outputFrozen
  | frisketAgeExceeded | frisketProofMismatch | leafOverTemp | leafPowerSaturated | colourTrimLimit
  | tablePageMalformed | proofDecodeMismatch
  | memCe | memUe | memRowSpared | memPcRetired | memTrainMargin
  | refSwitch | refFreerun | timeMasterChange | timeFreerun
  | tempWarn | tempThrottle | tempShutdown | supplyLow | supplyFail
  | hifBounds | hifDoorbellStall | hifLinkDown
  | updateRejected | updateFallback | authFailed | entropyHealth
  | supervisorWatchdog | sramCe | sramSpared
  deriving DecidableEq, Repr

/-- Unit states (R17): 0 SPARE, 1 IN_SERVICE, 2 DEGRADED, 3 RETIRED. -/
inductive Unit4 where
  | spare | inService | degraded | retired
  deriving DecidableEq, Repr

/-- A capture time (R34): none (no content contributes), never (its age is 16,777,215 µs), or an instant of module time in 2^-16 ns. -/
inductive Cap where
  | none
  | never
  | at (t : Nat)
  deriving DecidableEq, Repr

/-- A canvas pixel: three components, U1.23 (R119). -/
structure Rgb where
  r : Nat := 0
  g : Nat := 0
  b : Nat := 0
  deriving DecidableEq, Repr

/-! ### What leaves the module -/

/-- A completion (Table 2-11) without its PHASE. -/
structure Completion where
  tag : Word
  sq : Nat
  slot : Nat
  opcode : Half
  status : Status
  detail : Word
  imp : DWord
  result : Word
  final : Bool
  unknown : Bool
  clamped : Bool
  deriving DecidableEq, Repr

/-- A record of EVQ (Tables 13-5, 13-7, 13-8, R455) without its PHASE. -/
inductive Rec where
  | fault (src : Src) (inst : Nat) (level flags : Nat) (seq : Word) (count : Nat) (imp : Nat) (time : Nat) (detail : List Word)
  | summary (parts gen : Nat) (flags : Word) (imp flip : Nat) (regionsInvalid : Half) (level engines : Nat) (shed delayed overAge : DWord) (ageMax proofBad : Nat)
  | quire (imp : Nat) (q : Nat) (status : Status) (slugs acked failed replayed ageMissing : Nat) (failedLeaves proofLeaves : DWord)
  | overflow (lost : Nat)
  deriving DecidableEq, Repr

/-- A trace record (Table 16-2) without its PHASE; DATA as a number, byte k at bits [8k+7:8k]. -/
structure Trace where
  kind : Nat
  arg : Nat
  imp : Nat
  time : Nat
  data : Nat
  deriving DecidableEq, Repr

/-- A packet the module queues on the lane-ends of a quire (Table 9-3), by what its BODY holds. -/
inductive QPkt where
  | opening (imp : Nat) (flip : Nat) (pNum pDen pAge friskAge hold : Nat) (invA invB regions : Half) (mask : List (Nat × Nat × Nat × Nat))
  | age (imp : Nat) (ages : List Nat)
  | announce (imp gen leaf : Nat) (regionAges : List Nat) (genAge first count : Nat) (map : List Nat)
  | slug (leaf slug imp gen : Nat) (method level : Nat) (ageIx len : Nat) (flags : Nat) (crc : Word) (payload : List Bool)
  | command (leaf : Nat) (seq : Nat) (opcode : Half) (target : Nat) (data : List Byte)
  | adopt (tag : DWord) (leaves endNo quire : Nat)
  | claim (epoch : Word) (endNo first last : Nat)
  | time (seq dep : Nat) (flags : Nat) (rate : Int)
  deriving DecidableEq, Repr

/-- A frame the module sends on an Ethernet port (R91). -/
inductive NetOut where
  | arpProbe (ip : Word)
  | arpAnnounce (ip : Word)
  | arpReply (ip : Word) (dst : BitVec 48)
  | nsProbe (ip : BitVec 128)
  | na (ip : BitVec 128)
  | report (ipv6 join : Bool) (group src : BitVec 128)
  /-- to the group or to an address, with the clockIdentity and portNumber of the port (R381) -/
  | delayReq (dst : Option (BitVec 128)) (clockId : DWord) (portNo : Nat)
  deriving DecidableEq, Repr

/-- What the module has sent out, in the order of State.out (newest first; the model's own, log entry 5). -/
inductive Output where
  | cqEntry (q index : Nat) (phase : Bool) (c : Completion)
  | evqEntry (index : Nat) (phase : Bool) (r : Rec)
  | trqEntry (index : Nat) (phase : Bool) (t : Option Trace) (lost : Nat)
  | msix (vector : Nat) (addr : DWord) (data : Word)
  | bufWrite (addr : DWord) (bytes : List Byte)
  /-- dirs 0 A, 1 B, 2 both (MIRROR); session: the packet's SESSION -/
  | packet (quire dirs : Nat) (session : DWord) (p : QPkt)
  | net (port : Nat) (p : NetOut)
  | pulse (o : Nat) (at_ : Nat) (width : Nat)
  /-- the pulse that began at an instant ends sooner, for another due before its end (R409) -/
  | pulseCut (o : Nat) (at_ : Nat) (width : Nat)
  deriving DecidableEq, Repr

/-! ### Host interface -/

/-- A DMA window in force (R52). -/
structure Win where
  en : Bool := false
  rd : Bool := false
  wr : Bool := false
  base : Nat := 0
  lim : Nat := 0
  deriving DecidableEq, Repr

/-- A submission queue (Table 2-6). -/
structure Sq where
  /-- HEAD; 16; Table 2-6; reset 0 -/
  head : Nat := 0
  /-- producer index last read from the doorbell page; 16; R60; reset 0 -/
  pi : Nat := 0
  /-- ERR, halted by an index error; 1; R63; reset 0 -/
  err : Bool := false
  /-- latest impression at which a command of the queue that has completed takes effect; n; R57; reset 0 -/
  floor : Nat := 0
  deriving DecidableEq, Repr

/-- A completion queue, EVQ or TRQ (R64, R67, R76, R79). -/
structure Cq where
  /-- producer index of the module; 16; R51; reset 0 -/
  pi : Nat := 0
  /-- consumer index last read; 16; R60; reset 0 -/
  ci : Nat := 0
  /-- PHASE of the next entry; 1; R76; reset 1 -/
  phase : Bool := true
  /-- halted by an index error; 1; R63; reset 0 -/
  halted : Bool := false
  /-- entries written since the last message; n; R79; reset 0 -/
  unsig : Nat := 0
  /-- instant of the first entry not yet signalled; State.clk; R79; reset none -/
  firstAt : Option Nat := none
  /-- records lost since the last overflow record; n; R67; reset 0 -/
  lostNew : Nat := 0
  deriving DecidableEq, Repr

/-- An entry kept until it can be written: a completion of CQc, or records for EVQ that go together (R64, R80, R81, R454, R523). -/
inductive Kept where
  | cpl (c : Nat) (e : Completion)
  | rcds (l : List Rec)
  deriving DecidableEq, Repr

/-- Where a descriptor taken and not yet FINAL stands. -/
inductive Phase where
  /-- its buffer is being read (R55) -/
  | staging
  /-- its buffer is read and checked, and it waits for a surface version (R125) -/
  | waiting
  /-- a fenced write waits for its fence (R140) -/
  | fencing
  /-- a member of a group, staged or with nothing to stage, held for its scene.commit (R145) -/
  | held
  /-- accepted, lands at a commit point -/
  | landing
  /-- landed at an impression; ends at that impression's deadline -/
  | landed
  /-- staged and checked, waiting for the module's own work: table staging, verify, activation, verification of a package -/
  | working
  /-- waits for answers of leaves (R188, R335) -/
  | leaves
  deriving DecidableEq, Repr

/-- A descriptor taken and not yet FINAL (R66). -/
structure Item where
  id : Nat
  sq : Nat
  slot : Nat
  cq : Nat
  opcode : Half
  desc : Slot
  auth : Slot
  /-- the impression the command targets: TARGET, or "next" resolved at take (R27) -/
  target : Nat
  /-- it takes effect no earlier than this impression, for the commands taken before it from its queue (R57) -/
  floor : Nat := 0
  /-- TARGET named an impression whose window had opened (R553) -/
  late : Bool := false
  /-- the impression current at take -/
  takenImp : Nat := 0
  takenAt : Nat := 0
  /-- priority class of R58 and whether the queue lowered it -/
  cls : Nat := 0
  clamped : Bool := false
  phase : Phase := .landing
  buf : List Byte := []
  /-- module time at which staging ended -/
  stagedAt : Nat := 0
  /-- fence misses so far (R141) -/
  misses : Nat := 0
  /-- the scene.commit's item for a grouped member; its group is being landed -/
  commitId : Option Nat := none
  /-- the impression it landed in -/
  landedAt : Nat := 0
  /-- last impression for which DELAYED was written (R78) -/
  delayedFor : Nat := 0
  /-- surface version staged for it -/
  ver : Nat := 0
  /-- late join: generation of the impression joined, 0 for none (R156) -/
  gen : Nat := 0
  /-- set when it reaches a FAILED slug (R258) -/
  hitFailed : Bool := false
  /-- SQ15 checks of R85 passed -/
  authed : Bool := true
  /-- answers outstanding: (leaf, SEQ) -/
  waits : List (Nat × Nat) := []
  /-- the impression at whose flip the last leaf to acknowledge it applied it (R188) -/
  applied : Nat := 0
  aux : Nat := 0
  deriving DecidableEq, Repr

/-- Host section. -/
structure Hif where
  /-- READY; 1; Table 2-2; reset 0 -/
  ready : Bool := false
  /-- the host link is up; 1; R44; reset 0: it is down from a module reset until HOST_LINK_RETURN (R531, log entry 6) -/
  linkUp : Bool := false
  /-- bus mastering is enabled in the command register; 1; R80, R531; reset 0 (PRESUMED, PCI Express; log entry 6) -/
  busMaster : Bool := false
  /-- MSI-X is enabled in configuration space; 1; R42, R531; reset 0 (PRESUMED, PCI Express; log entry 6) -/
  msixEn : Bool := false
  /-- MSI-X table of BAR2, by 32-bit word: 4v + 0 and 1 address, 2 data, 3 vector control; 32 each; R45; reset 0, vector control 1 (PRESUMED, PCI Express; log entry 29) -/
  msixTab : Tab Word := []
  /-- pending-bit array of BAR2; 32; R45; reset 0 -/
  msixPend : Word := 0
  /-- LINK_LOST; 1; Table 2-2; reset 0 -/
  linkLost : Bool := false
  /-- KEY_LOCKED, and LOCK of HIF_FKEY_CTRL; 1; R83; reset 0 -/
  keyLocked : Bool := false
  /-- KEY_ERR; 1; Table 2-2; reset 0 -/
  keyErr : Bool := false
  /-- HIF_ERR; 32; Table 2-4; reset 0 -/
  err : Word := 0
  /-- locked Frisket key, key byte 0 in bits 7 to 0; 256; R83; reset 0 (DESIGN CHOICE 0, no key is locked; log entry 3) -/
  key : BitVec 256 := 0
  /-- key words written; 256; R83; reset 0 (DESIGN CHOICE 0; log entry 3) -/
  keyWords : BitVec 256 := 0
  /-- HIF_FKEY_CHECK as written; 32; R83; reset 0 (DESIGN CHOICE 0; log entry 3) -/
  keyCheck : Word := 0
  /-- HIF_FSEQ; 64; R85; reset 0 -/
  fseq : DWord := 0
  /-- DMA windows in force; 8 entries; R53; reset all empty -/
  wins : List Win := [{}, {}, {}, {}, {}, {}, {}, {}]
  /-- window change waiting (WIN_PENDING); R53; reset none -/
  winPend : Option (List Win) := none
  /-- SQ0 to SQ15; Table 2-6; reset all 0 -/
  sqs : Tab Sq := []
  /-- CQ0 to CQ15 at 16 to 31, EVQ at 32, TRQ at 33 (kind 14 of Table 13-3); reset all 0 -/
  cqs : Tab Cq := []
  /-- EVQ records lost; 32; Table 2-1; reset 0 -/
  evqLost : Nat := 0
  /-- TRQ records lost; 32; Table 2-1; reset 0 -/
  trqLost : Nat := 0
  /-- completions and EVQ records kept, in the order they were produced; R64, R80, R81, R523; reset empty -/
  kept : List Kept := []
  /-- EVQ has been enabled since module reset; 1; R523; reset 0 -/
  evqOnce : Bool := false
  /-- State.clk at which the sweep in hand starts: one interval after the one before it; R60, R62; reset 0 -/
  sweepAt : Nat := 0
  /-- position of the sweep in the order SQ15, SQ0 to SQ14 (0 to 15); R60; reset 0 -/
  sweepPos : Nat := 0
  /-- CLASS, CQ and IRQ registers in force since the last sweep, by BAR0 offset; 32 each; R49; reset the registers' reset values -/
  force : Tab Word := []
  /-- descriptors taken and not yet FINAL, in take order; at most 4,096; R66; reset empty -/
  items : List Item := []
  deriving DecidableEq, Repr

/-! ### Ingest -/

/-- A state-change report still to be repeated (R92). -/
structure Report where
  ipv6 : Bool
  join : Bool
  group : BitVec 128
  src : BitVec 128
  left : Nat
  /-- State.clk of its last copy -/
  sentAt : Nat := 0
  deriving DecidableEq, Repr

/-- An Ethernet port (Table 3-5). -/
structure Port where
  /-- PCS aligned; 1; Table 3-5; reset 0 -/
  link : Bool := false
  /-- V4_CONFLICT; 1; Table 3-5; reset 0 -/
  v4Conf : Bool := false
  /-- V6_CONFLICT; 1; Table 3-5; reset 0 -/
  v6Conf : Bool := false
  /-- V6_TENTATIVE; 1; Table 3-5; reset 0 -/
  tentative : Bool := false
  /-- OLD_QUERIER; 1; Table 3-5; reset 0 -/
  oldQuerier : Bool := false
  /-- ARP probes and announcements sent since EN; n; R94; reset 0 -/
  probes : Nat := 0
  /-- older-version queries counted; n; R92; reset 0 -/
  oldQueries : Nat := 0
  /-- last STREAM_STRANGER; State.clk; R105; reset none -/
  strangerAt : Option Nat := none
  /-- state-change reports to repeat; R92; reset empty -/
  reports : List Report := []
  /-- neighbour solicitations sent since EN; n; R94; reset 0 -/
  nsSent : Nat := 0
  deriving DecidableEq, Repr

/-- A leg of a stream (Table 3-8, R103). -/
structure Leg where
  port : Nat
  ipv6 : Bool
  group : BitVec 128
  udp : Nat
  src : BitVec 128
  /-- SSRC locked from the first matching packet (R104) -/
  ssrc : Option Word := none
  up : Bool := false
  /-- State.clk of its admission and of the last packet passing the filter -/
  admAt : Nat := 0
  lastAt : Option Nat := none
  /-- a STREAM_LOSS condition of the leg is open (R448) -/
  lossOpen : Bool := false
  deriving DecidableEq, Repr

/-- An open frame (R109). -/
structure OpenFrame where
  ts : Word
  /-- ingest timestamp of its first packet: module time to 1 ns (R111, R112) -/
  first : Nat
  /-- State.clk of its first packet -/
  firstAt : Nat := 0
  /-- keys written and, for each, leg and ingest time in ns -/
  keys : List (Word × Nat × Nat) := []
  rows : List RtpRow := []
  marker : Bool := false
  /-- State.clk of the first packet of a newer frame (R110) -/
  newerAt : Option Nat := none
  maxDiff : Nat := 0
  diffRaised : Bool := false
  deriving DecidableEq, Repr

/-- What is kept of a frame that has closed, to tell duplicates from late packets, to measure path differences and to time the hold of older frames (R107, R108, R110). -/
structure GoneFrame where
  ts : Word
  /-- State.clk of its first packet and of its closing -/
  firstAt : Nat := 0
  goneAt : Nat := 0
  keys : List (Word × Nat × Nat) := []
  /-- keys that came after it had closed, with leg and ingest time in ns -/
  lateKeys : List (Word × Nat × Nat) := []
  maxDiff : Nat := 0
  diffRaised : Bool := false
  deriving DecidableEq, Repr

/-- A closed frame (R110): incomplete ones hold the fill result of R113 and R115. -/
structure Frame where
  ts : Word
  cap : Nat
  /-- completion or closing time: module time to 1 ns (R111) -/
  doneAt : Nat
  complete : Bool
  sig : Word := 0
  rows : List RtpRow := []
  frozenSince : Option Nat := none
  deriving DecidableEq, Repr

/-- Stream states of Table 3-9. -/
inductive StreamSt where
  | free | defined | joining | receiving | absent | releasing
  deriving DecidableEq, Repr

/-- A stream slot (Tables 3-6 to 3-9). -/
structure Stream where
  /-- STATE; 3; Table 3-6; reset FREE -/
  st : StreamSt := .free
  /-- FRISKET; 1; Table 3-6; reset 0 -/
  frisket : Bool := false
  /-- form 0 PARAMS as taken; 256; Table 3-7; reset 0 -/
  fmt : BitVec 256 := 0
  /-- the impression from which layers may sample it; n; R99; reset 0 -/
  visibleFrom : Nat := 0
  red : Option Leg := none
  blue : Option Leg := none
  /-- State.clk of the last packet that passed a leg's filter; R103, Table 3-9; reset 0 -/
  lastAt : Nat := 0
  /-- start of the join grace; State.clk; Table 3-9; reset 0 -/
  joinAt : Nat := 0
  opens : List OpenFrame := []
  /-- closed frames that a commit point may still offer, last closed first; R113; reset empty -/
  closed : List Frame := []
  /-- frames that have closed, last closed first, while their timestamp stands for them; R107; reset empty (log entry 8) -/
  gone : List GoneFrame := []
  /-- the previous result for fill; R115; reset none -/
  lastFill : Option Frame := none
  /-- SIG of the last complete frame; 32; Table 3-2; reset 0 -/
  sig : Word := 0
  /-- HAS_FRAME; 1; Table 3-6; reset 0 -/
  hasFrame : Bool := false
  /-- FROZEN; 1; R117; reset 0 -/
  frozen : Bool := false
  /-- length of the run of identical signatures; n; R117; reset 0 -/
  run : Nat := 0
  /-- capture times of the first and last frame of the run; module time; R117, R118; reset 0 -/
  runFirst : Nat := 0
  runLast : Nat := 0
  /-- PDIFF; 24; Table 3-2; reset 0 -/
  pdiff : Nat := 0
  /-- FRAMES: closed complete and incomplete; 16 and 16; Table 3-2; reset 0 -/
  nComplete : Nat := 0
  nIncomplete : Nat := 0
  /-- counts of the current second for the INGEST trace record; R515; reset 0 -/
  secRed : Nat := 0
  secBlue : Nat := 0
  secDone : Nat := 0
  secBad : Nat := 0
  secDiff : Nat := 0
  absentOpen : Bool := false
  /-- the allocation of its six buffers; R99; reset 0 -/
  alloc : Nat := 0
  deriving DecidableEq, Repr

/-- Ingest section. -/
structure Ing where
  ports : Tab Port := []
  streams : Tab Stream := []
  /-- State.clk of the last INGEST trace second; R515; reset 0 -/
  traceAt : Nat := 0
  deriving DecidableEq, Repr

/-! ### Composition -/

/-- A version of a host surface (R125, R140). -/
structure SurfVer where
  id : Nat
  /-- the write's item and queue -/
  item : Nat
  sq : Nat := 0
  /-- module time at which staging ended -/
  stagedAt : Nat
  /-- the impression from which it may be sampled; none until known -/
  from_ : Nat
  /-- the write's rectangle: X, Y, W, H -/
  rect : Nat × Nat × Nat × Nat
  /-- the words of the write's rectangle, raster order -/
  own : List Word
  /-- the words of the whole surface, raster order -/
  px : List Word
  /-- capture time of each 64 x 64 block, raster order (R123) -/
  blocks : List Cap
  landed : Bool := false
  discarded : Bool := false
  deriving DecidableEq, Repr

/-- What a layer samples (R135). -/
inductive Sample where
  | none
  | frame (f : Frame)
  | surf (v : SurfVer)
  deriving DecidableEq, Repr

/-- Layer states of Table 4-4. -/
inductive LayerSt where
  | free | defined | placed | removing
  deriving DecidableEq, Repr

/-- A layer (keys 0 to 62) or a Frisket region (keys 64 + r). -/
structure Layer where
  /-- STATE; 2; Table 4-12; reset FREE -/
  st : LayerSt := .free
  surface : Bool := false
  nearest : Bool := false
  pixAlpha : Bool := false
  tone : Nat := 0
  /-- effective class; 2; R58; reset 0 -/
  cls : Nat := 0
  z : Nat := 0
  agePol : Nat := 0
  fill : Bool := false
  freezePol : Nat := 0
  /-- stream slot or surface format; 8; Table 4-2; reset 0 -/
  source : Nat := 0
  colour : Nat := 0
  /-- maximum age as set, µs; 24; R38; reset 0 -/
  maxAge : Nat := 0
  surfW : Nat := 0
  surfH : Nat := 0
  srcX : Nat := 0
  srcY : Nat := 0
  srcW : Nat := 0
  srcH : Nat := 0
  dstX : Int := 0
  dstY : Int := 0
  dstW : Nat := 0
  dstH : Nat := 0
  /-- global alpha; 16; R124; reset 0xFFFF -/
  alpha : Nat := 65535
  /-- surface versions, oldest first; at most 3; R125; reset empty -/
  vers : List SurfVer := []
  /-- allocations of the versions; R125; reset empty -/
  allocs : List Nat := []
  /-- content sampled for the last commit point; R152; reset none -/
  sample : Sample := .none
  /-- OVER_AGE, FROZEN, SHED and HELD; 1 each; Table 4-12; reset 0 -/
  overAge : Bool := false
  frozen : Bool := false
  shed : Bool := false
  held : Bool := false
  /-- a FRISKET_AGE_EXCEEDED episode is open; 1; R161; reset 0 -/
  ageEp : Bool := false
  /-- capture time it carries for the impression in hand; R135; reset none -/
  cap : Cap := .none
  /-- capture time it carried for the impression before; R30; reset none -/
  capWas : Cap := .none
  /-- policy in force: 0 content, 1 INVALID, 2 black; R136; reset 0 -/
  show_ : Nat := 0
  /-- output freeze check: last output signature, run of equal ones, engines of each check of the run (newest first, at most 255), whether the run raised OUTPUT_FROZEN, last source signature; R226, R227; reset none -/
  outSig : Option Word := none
  outRun : Nat := 0
  outEngines : List (List Nat) := []
  outSaid : Bool := false
  srcSig : Option Word := none
  deriving DecidableEq, Repr

/-- A canvas tile (R120). -/
structure Tile where
  px : List Rgb := []
  cap : Cap := .none
  /-- layer marked INVALID over each pixel, in the pixels' order (R136, R224) -/
  inv : List Bool := []
  deriving DecidableEq, Repr

/-- A tile's work for the impression in hand (R151, R153). -/
structure Job where
  tile : Nat
  /-- layers changing in it (keys) -/
  layers : List Nat
  /-- class and z-order of each of them, for those that are FREE by the time the tile is charged again: (key, class, z); R152 -/
  ranks : List (Nat × Nat × Nat) := []
  /-- ordinary layers shown as at m-1: those of a group that resolves apart from the Frisket work of the tile; R154, R162 -/
  was : List Nat := []
  /-- the group it belongs to: the scene.commit's item -/
  group : Option Nat := none
  gen : Nat := 0
  /-- composed only because of NO_SKIP (R150) -/
  extra : Bool := false
  /-- items whose change it shows -/
  items : List Nat := []
  /-- engine it is dispatched to -/
  engine : Option Nat := none
  deriving DecidableEq, Repr

/-- A late join (R156, R157): a generation of the impression in hand. -/
structure LateJoin where
  gen : Nat
  items : List Nat
  /-- the layers and regions as generation gen shows them -/
  layers : Tab Layer
  /-- T of R156 and the tiles of it finished -/
  tiles : List Nat
  done : Tab Tile := []
  /-- its work regions: leaf and slugs (R157) -/
  regions : List (Nat × List Nat)
  /-- engine cycles reserved -/
  cycles : Nat
  /-- regions absorbed by a later join -/
  absorbed : List Nat := []
  deriving DecidableEq, Repr

/-- Composition section. -/
structure Cmp where
  /-- layers 0 to 62 and regions 64 to 79; reset all FREE -/
  layers : Tab Layer := []
  /-- wall settings in force: Frisket limit in µs, INVALID_A, INVALID_B, H; Table 4-10; reset 250000, 0, 57343, 2 -/
  friskAge : Nat := 250000
  invA : Half := 0
  invB : Half := 0xDFFF
  hold : Nat := 2
  /-- CMP_WALL and the tone sets in force, by BAR0 offset; R163; reset the registers' reset values -/
  tone : Tab Word := []
  /-- TM_COMMIT written and not yet applied; 1; R163; reset 0 -/
  toneCommit : Bool := false
  /-- S in force, µs; 16; R138; reset 0 -/
  sUs : Nat := 0
  /-- a CMP_SOFFSET write waits; (value, ticks seen since); R138; reset none -/
  sPend : Option (Nat × Bool) := none
  /-- SOFF_REFUSED; 1; Table 4-11; reset 0 -/
  soffRefused : Bool := false
  /-- highest generation of the current window; 4; CMP_GEN; reset 0 -/
  gen : Nat := 0
  /-- cap and used at the last commit point, cycles; R151; reset 0 -/
  cap : Nat := 0
  used : Nat := 0
  /-- canvas tiles, by tile number in raster order; R120; reset empty -/
  tiles : Tab Tile := []
  /-- side canvas: tiles finished for groups not yet whole, (group item, tile number, tile); R154; reset empty -/
  side : List (Nat × Nat × Tile) := []
  /-- the layers of the impression before, for the tiles of groups not yet whole; R154, R162; reset empty -/
  prev : Tab Layer := []
  /-- work not yet finished, in dispatch order; R153; reset empty -/
  jobs : List Job := []
  /-- tiles held at an earlier cutoff with the layers whose change they hold; R150; reset empty -/
  heldTiles : List Job := []
  /-- groups spoiled by a refused member: (submission queue, group); R147; reset empty -/
  spoiled : List (Nat × Nat) := []
  /-- fences' signalled values; 64 each, 480; R143; reset 0 -/
  fenceSig : Tab DWord := []
  /-- fence words as last read; 64 each; R70; reset 0 -/
  fenceRead : Tab DWord := []
  /-- last fence read, for the rotation of R70; 9; reset 447 (DESIGN CHOICE 447: the first sweep starts at fence 0; log entry 3) -/
  fenceLast : Nat := 447
  /-- tiles each item's change touches in the impression in hand, by item; R150, R258; reset empty -/
  touch : Tab (List Nat) := []
  /-- canvas tiles with an uncorrectable word: not walked in the impression in hand, composed again at the next commit point; Table 12-2; reset empty -/
  poisoned : List Nat := []
  /-- late joins of the impression in hand; R156; reset empty -/
  late : List LateJoin := []
  /-- the engine that composed a tile in the impression in hand, plus 1; R227; reset empty -/
  byEngine : Tab Nat := []
  /-- next surface version number; the model's own; reset 1 -/
  nextVer : Nat := 1
  deriving DecidableEq, Repr

/-! ### Leaf data of the lamp, imposition and quire sections -/

/-- A run of IMP_LEAF_RUNr_ (Tables 6-8, 6-10). -/
structure RunG where
  u : Nat := 0
  v : Nat := 0
  dir : Nat := 0
  line : Nat := 0
  lines : Nat := 0
  stride : Nat := 0
  deriving DecidableEq, Repr

/-- A leaf descriptor (Tables 6-8 and 6-10). -/
structure Geom where
  /-- IMP_LEAF_CFG; 32; Table 6-10; reset 0 -/
  cfg : Word := 0
  /-- IMP_LEAF_ORIGIN; 32; Table 6-8; reset 0 -/
  origin : Word := 0
  /-- IMP_LEAF_SIZE; 32; Table 6-8; reset 0 -/
  size : Word := 0
  /-- IMP_LEAF_RUNr_START, _LEN and _STRIDE, r = 0 to 15, key 4r + j; 32 each; Table 6-8; reset 0 -/
  runs : Tab Word := []
  deriving DecidableEq, Repr

/-- A set-up: canvas and leaf descriptors (R211). -/
structure Setup where
  canvas : Word := 0
  leaves : Tab Geom := []
  deriving DecidableEq, Repr

/-- An admission record (R322). -/
structure Admission where
  any : Bool
  maker : Half
  model : Half
  serial : DWord
  deriving DecidableEq, Repr

/-- A command sent to a leaf and not yet answered (R331). -/
structure LCmd where
  seq : Nat
  opcode : Half
  target : Nat
  data : List Byte
  /-- the impression in which it was first sent -/
  firstImp : Nat
  /-- the descriptor that caused it -/
  item : Option Nat
  sent : Bool := true
  /-- its session has ended: never sent again, it ends under R333 -/
  dead : Bool := false
  deriving DecidableEq, Repr

/-- A Makeready table (R174, R178): compressed pages as loaded. -/
structure Table where
  id : Word
  crc : Word
  pages : List (List Byte)
  lost : Bool := false
  /-- pages failed at their first fetch, to be fetched once more (R183) -/
  retry : List Nat := []
  /-- pages that failed twice (R181, R183) -/
  bad : List Nat := []
  alloc : Nat := 0
  deriving DecidableEq, Repr

/-- What the module keeps of a leaf, key 64q + i. -/
structure Leaf where
  /-- unit state; 2; Table 9-21; reset SPARE -/
  unit : Unit4 := .spare
  /-- ENROLLED; 1; Table 9-21; reset 0 -/
  enrolled : Bool := false
  /-- FOREIGN: enrolled, and the admission record does not match; 1; R322, Table 9-21; reset 0 -/
  foreign : Bool := false
  /-- LEAF_FOREIGN was raised for this enrollment; 1; R322; reset 0 -/
  foreignSaid : Bool := false
  /-- admission record; R322; reset none -/
  adm : Option Admission := none
  /-- admitted SPARE leaf enters service at the next commit point; 1; R322; reset 0 -/
  entering : Bool := false
  /-- identity and capabilities of the last ENROLL; Table 9-13; reset 0 -/
  maker : Half := 0
  model : Half := 0
  serial : DWord := 0
  proto : Nat := 0
  fw : Word := 0
  lamps : Nat := 0
  nLamp : Nat := 0
  weights : Word := 0
  budget : Nat := 0
  driveBits : Nat := 0
  hopA : Nat := 255
  hopB : Nat := 255
  /-- State.clk and direction of the last ENROLL taken; R306, R313; reset 0 -/
  enrAt : Nat := 0
  enrDir : Nat := 0
  /-- enrolled again while in use: references uncertain; R313; reset 0 -/
  newSession : Bool := true
  /-- impression from which it is in use, for R239 and R346; n; reset 0 -/
  inUseFrom : Nat := 0
  /-- next command SEQ; 32; R331; reset 1 -/
  nextSeq : Nat := 1
  /-- commands not yet answered, oldest first; at most 8 sent; R331; reset empty -/
  cmds : List LCmd := []
  /-- highest SEQ answered; 32; QPR_LEAF_CMDSEQ; reset 0 -/
  answered : Nat := 0
  /-- impression in which the last inserted packet came; n; R346; reset 0 -/
  lastHeard : Nat := 0
  /-- LEAF_LOST and LEAF_FLIP_LATE episodes; 1 each; R346; reset 0 -/
  lostEp : Bool := false
  lateEp : Bool := false
  /-- the last scheduled impression whose FLIP report came in time; n; R346; reset 0 -/
  lastFlip : Nat := 0
  /-- REJECTED and CHECKWORD reports; 16 each; Table 9-19; reset 0 -/
  rejected : Nat := 0
  checkwords : Nat := 0
  /-- packets taken in the last millisecond whose second copy has not come: direction, State.clk, bytes; R306; reset empty -/
  copies : List (Nat × Nat × List Byte) := []
  /-- feed the plan gives the position: 0 none, 1 A, 2 B; 2; R347; reset 0. It counts while the leaf is in use (log entry 19) -/
  feed : Nat := 0
  /-- BREAK_U, BREAK_D; 1 each; Table 10-6; reset 0 -/
  breakU : Bool := false
  breakD : Bool := false
  /-- sink settings recorded GLOBAL, CH0 to CH3; 8 each; R185; reset 128. Those the leaf acknowledged; R191; reset none, read as 128 -/
  sink : List Nat := [128, 128, 128, 128, 128]
  sinkAck : List Nat := []
  /-- the settings acknowledged with the impression at whose flip they apply, newest first, as far back as the last 16 impressions need; R196, R332; reset empty -/
  sinkLog : List (Nat × List Nat) := []
  /-- the settings are to be sent whole at the next commit point; 1; R185, R333, R533; reset 0 -/
  sinkOwed : Bool := false
  /-- newest temperature in 1/16 °C, its arrival (State.clk) and whether one came; 16; R189; reset 0 -/
  temp : Int := 0
  tempAt : Nat := 0
  tempSeen : Bool := false
  /-- d_th and d_pw; 14 each; R189, R193; reset 0 -/
  dTh : Nat := 0
  dThPrev : Nat := 0
  dPw : Nat := 0
  overTempEp : Bool := false
  /-- est of the last closed impression, SATURATED, over budget; 40, 1, 1; R191; reset 0 -/
  est : Nat := 0
  saturated : Bool := false
  overBudget : Bool := false
  satAt : Option Nat := none
  /-- partial sums by slug, (generation, value); R192; reset empty -/
  parts : Tab (List (Nat × Nat)) := []
  /-- sums of lin32 and lamp counts by channel for each of the last 16 impressions: (impression, sums, counts); R195; reset empty -/
  drive : List (Nat × List Nat × List Nat) := []
  /-- trim of channels 0 to 3; 10 signed each; R198; reset 0 -/
  trim : List Int := [0, 0, 0, 0]
  /-- trim in force since the last commit point; 10 signed each; R172; reset 0 -/
  trimF : List Int := [0, 0, 0, 0]
  /-- the newest non-zero readings Q_c with the State.clk of each; 32 each; R195; reset 0 -/
  q : List (Nat × Nat) := [(0, 0), (0, 0), (0, 0), (0, 0)]
  /-- captured channels and targets e0; R196; reset none -/
  e0 : List (Option Int) := [none, none, none, none]
  /-- readings of channels 0 to 3 since CAPTURE; n; R198; reset 0 -/
  reports : List Nat := [0, 0, 0, 0]
  trimEp : List Bool := [false, false, false, false]
  /-- reference leaf; 1; R196; reset 0 -/
  refLeaf : Bool := false
  /-- kappa_r by channel; R196; reset none -/
  kappaR : List (Option Int) := [none, none, none, none]
  /-- the loaded table; R180; reset none -/
  table : Option Table := none
  /-- the leaf uses its table; 1; R176; reset 0 -/
  tableUsed : Bool := false
  /-- MISMATCH, FPROOF_BAD, RANGE_BAD; 1 each; Table 6-11; reset 0 -/
  mismatch : Bool := false
  /-- UNIT_STATE_CONFLICT was raised for the mismatch under the set-up in force; 1; R210; reset 0 -/
  mismatchSaid : Bool := false
  fproofBad : Bool := false
  rangeBad : Bool := false
  /-- the impression the last FLIP report gave as SHOWN: what the module sent of it is kept for the proofs; n; R231; reset 0 -/
  shows : Nat := 0
  /-- consecutive flips with the Frisket proof missing; n; R229; reset 0 -/
  fproofMissing : Nat := 0
  /-- slugs whose proof mismatched since the window of the impression in hand opened; R239; reset empty -/
  proofBad : List Nat := []
  /-- slugs to send non-standing with RESEND at the next impression; R229, R230; reset empty -/
  resend : List Nat := []
  /-- geometry last sent as a leaf command; R209; reset none -/
  geomSent : Option Geom := none
  deriving DecidableEq, Repr

/-! ### Lamp, imposition, slugs -/

/-- Lamp section. -/
structure Lmp where
  /-- DIM in force; 16; R184; reset 0 -/
  dim : Nat := 0
  /-- LMP_CTRL, DIM_FLOOR, THERM, PWR, KEEP and PAGE in force since the last commit point, by BAR0 offset; R201; reset the registers' reset values -/
  force : Tab Word := []
  /-- kappa_c and kappa0_c for c = 0 to 3; R196; reset 0 -/
  kappa : List Int := [0, 0, 0, 0]
  kappa0 : List Int := [0, 0, 0, 0]
  /-- CAPTURED; 1; Table 5-9; reset 0 -/
  captured : Bool := false
  /-- Makeready cache: pages held, key 256 × leaf + page; R182; reset empty -/
  cache : List Nat := []
  /-- PINNED, STALLS and stalls of the impression in hand; 1, 16; R182; reset 0 -/
  pinned : Bool := false
  stalls : Nat := 0
  stallsNow : Nat := 0
  /-- the latched LMP_LEAF_ registers, by BAR0 offset; R201; reset the registers' reset values -/
  latched : Tab Word := []
  /-- the LMP_LEAF_ registers of every leaf for the last closed impression, from LMP_LEAF_STATE on; R201; reset the registers' reset values -/
  closed : Tab (List Word) := []
  deriving DecidableEq, Repr

/-- Imposition section. -/
structure Imp where
  /-- shadow copy, R211: leaf descriptors (the canvas shadow is CMP_CANVAS); reset all 0 -/
  shadow : Tab Geom := []
  /-- set-up in force; R211; reset no leaf enabled -/
  setup : Setup := {}
  /-- the set-up in force has been applied once; 1; R212; reset 0 -/
  applied : Bool := false
  /-- snapshot of IMP_COMMIT; R212; reset none -/
  snap : Option Setup := none
  /-- CHECKING and PENDING; 1 each; Table 6-9; reset 0 -/
  checking : Bool := false
  pend : Bool := false
  /-- LIVE, LIVE_REFUSED; 1 each; Table 6-9; reset 0 -/
  live : Bool := false
  liveRefused : Bool := false
  /-- IMP_RESULT; 32; Table 6-8; reset 0 -/
  result : Word := 0
  /-- impression counter; 64; R215; reset 0 -/
  counter : Nat := 0
  /-- last flip time in ns of module time; R215; reset 0 -/
  flip : Nat := 0
  /-- IMP_PROOF, IMP_DECODE and IMP_AGE; 16 each and 9; Table 6-8; reset 0 -/
  proofMissing : Nat := 0
  proofBad : Nat := 0
  decoded : Nat := 0
  decodeBad : Nat := 0
  ageUsed : Nat := 0
  merged : Bool := false
  decodedNow : Nat := 0
  /-- allocations of the set-up in force: rings and pool; R256, R257; reset empty -/
  allocs : List Nat := []
  /-- allocations of the set-up before, released with its impressions; Table 6-4; reset empty -/
  oldAllocs : List Nat := []
  deriving DecidableEq, Repr

/-- A slug of the window in hand or of the impressions before it (Table 7-1). -/
structure Slug where
  leaf : Nat
  slug : Nat
  imp : Nat
  gen : Nat
  method : Nat
  level : Nat
  len : Nat
  /-- FLAGS of Table 7-2 -/
  flags : Nat
  ageIx : Nat
  age : Nat
  cap : Cap
  crc : Word
  codes : List Half
  payload : List Bool
  encoder : Nat
  /-- held back for the proof decoder (R232) -/
  checking : Bool := false
  /-- direction of the last copy: 0 A, 1 B, 2 both; none when not yet sent -/
  sentOn : Option Nat := none
  sentAt : Nat := 0
  /-- order of the first copy -/
  order : Nat := 0
  copies : Nat := 0
  acked : Bool := false
  failed : Bool := false
  /-- it holds a Frisket lamp: mirrored (R349) -/
  frisk : Bool := false
  /-- ring (true) or overflow page of its staged copy, and bytes -/
  inRing : Bool := true
  bytes : Nat := 0
  deriving DecidableEq, Repr

/-- An entry of the reference image (R240): codes and capture time of the last production. -/
structure RefEntry where
  codes : List Half := []
  cap : Cap := .never
  /-- impression of that production -/
  imp : Nat := 0
  /-- the codes before the first production of that impression: what the leaf holds as reference during it (R238) -/
  prev : List Half := []
  /-- the stored entry is poisoned (Table 12-2) -/
  bad : Bool := false
  deriving DecidableEq, Repr

/-- The staging of a quire (R256). -/
structure Ring where
  /-- ring pages; 16; SLG_Qq_RING; reset 0 -/
  pages : Nat := 0
  /-- pages in use: (impression, bytes used), oldest first, ring then overflow -/
  used : List (Nat × Nat) := []
  spill : List (Nat × Nat) := []
  /-- largest number of overflow pages held; 16; SLG_Qq_RING; reset 0 -/
  overMax : Nat := 0
  /-- the impression failed for the quire under R258; n; reset none -/
  failedFor : Option Nat := none
  /-- age table of the impression in hand: entries 16 to 239 in order; R218; reset empty -/
  ages : List Nat := []
  merged : Bool := false
  /-- oldest age by generation; R218; reset empty -/
  genAges : Tab Nat := []
  /-- the age part of the impression was sent; 1; R220; reset 0 -/
  ageSent : Bool := false
  deriving DecidableEq, Repr

/-- Slug section. -/
structure Slg where
  /-- SLG_CTRL in force since the last commit point; 32; R259; reset 0x0000_0005 -/
  ctrl : Word := 5
  /-- level fixed at the last commit point; 3; R254; reset 0 -/
  level : Nat := 0
  /-- levels by which each encoder has lowered its own in the impression in hand; 3 each; R255; reset empty -/
  encLevel : Tab Nat := []
  /-- non-standing slugs completed by each encoder; n; R232; reset 0 -/
  encCount : Tab Nat := []
  /-- slugs of the window in hand and of impressions not yet released; R365; reset empty -/
  slugs : List Slug := []
  /-- reference image, key 4096 × leaf + slug; R240; reset empty -/
  refs : Tab RefEntry := []
  /-- acknowledged identities of the impression before, key 4096 × leaf + slug; R239; reset empty -/
  certain : List Nat := []
  /-- leaves in service under one session with unchanged lamp count for the impression before; R239; reset empty -/
  certainLeaves : List Nat := []
  rings : Tab Ring := []
  /-- pool pages, free now, fewest free; 16 each; SLG_POOL_FREE; reset 0 -/
  poolPages : Nat := 0
  poolFree : Nat := 0
  poolMin : Nat := 0
  /-- POOL_EMPTY, OVERFLOW; 1 each; Table 7-8; reset 0 -/
  poolEmpty : Bool := false
  overflow : Bool := false
  /-- counts of the impression in hand: literal, standing, predictive, run, intra; R259; reset 0 -/
  now : List Nat := [0, 0, 0, 0, 0]
  /-- counts of the last closed impression; 32 each; Table 7-7; reset 0 -/
  last : List Nat := [0, 0, 0, 0, 0]
  reenc : Nat := 0
  /-- stored bits of first copies: in hand, and of the last closed impression; 64; Table 7-7; reset 0 -/
  bitsNow : Nat := 0
  bits : Nat := 0
  /-- next send order; the model's own; reset 0 -/
  order : Nat := 0
  deriving DecidableEq, Repr

/-- The impression being prepared (Table 1-5). -/
structure Window where
  /-- a window is open: from its commit point to its tick -/
  open_ : Bool := false
  imp : Nat := 0
  /-- the tick before, the tick it is for; 2^-16 ns of module time -/
  t0 : Nat := 0
  tFlip : Nat := 0
  /-- P in 2^-16 ns rounded down, and S in 2^-16 ns -/
  p : Nat := 0
  s : Nat := 0
  pressCut : Bool := false
  walkCut : Bool := false
  deadline : Bool := false
  throttle : Bool := false
  engines : Nat := 0
  held : Bool := false
  late : Bool := false
  shed : DWord := 0
  delayed : DWord := 0
  overAge : DWord := 0
  /-- region ages at the flip, µs, regions defined -/
  regionAges : List Nat := []
  regions : Half := 0
  deriving DecidableEq, Repr

/-- A closed delivery entry (Table 9-17). -/
structure Delivery where
  quire : Nat
  status : Status
  slugs : Nat
  acked : Nat
  failed : Nat
  replayed : Nat
  ageMissing : Nat
  failedLeaves : DWord
  deriving DecidableEq, Repr

/-- An impression whose record group is not yet written (R454). -/
structure RecGroup where
  w : Window
  gen : Nat
  merged : Bool
  level : Nat
  deliveries : List Delivery
  /-- leaves whose proof mismatched or was missing -/
  proofLeaves : List Nat := []
  /-- leaves whose FLIP report for it was compared -/
  reported : List Nat := []
  stopped : Bool := false
  /-- what the registers show of it once it is the last closed impression: slugs by method and intra, stored bits, slugs decoded, age entries used, page stalls, proofs missing, the LMP_LEAF_ registers (R201, R233, R259) -/
  counts : List Nat := []
  bits : Nat := 0
  decoded : Nat := 0
  ageUsed : Nat := 0
  stalls : Nat := 0
  missing : Nat := 0
  lamps : Tab (List Word) := []
  deriving DecidableEq, Repr

/-- What the module expects a leaf to show of an impression (R229 to R231): the codes of every generation. -/
structure Shown where
  imp : Nat
  leaf : Nat
  gen : Nat
  slug : Nat
  codes : List Half
  deriving DecidableEq, Repr

/-- Header data of an impression kept for expected proofs (R229). -/
structure Hdr where
  imp : Nat
  friskAge : Nat
  invA : Half
  invB : Half
  pAge : Nat
  hold : Nat
  mask : List (Nat × Nat × Nat × Nat × Nat)
  ages : List Nat
  /-- entries 0 to 15 by generation -/
  genAges : List (Nat × List Nat)
  /-- the set-up it was sent under -/
  setup : Setup
  deriving DecidableEq, Repr

/-! ### Lanes and quires -/

/-- Link states of Table 8-4. -/
inductive Link where
  | off | acquire | up | realign | idle | down
  deriving DecidableEq, Repr

/-- A lane (Tables 8-8, 8-9). -/
structure Lane where
  /-- UNIT; 2; Table 8-9; reset IN_SERVICE (SPARE for the quad's spare) -/
  unit : Unit4 := .inService
  /-- LINK; 3; Table 8-9; reset OFF -/
  link : Link := .off
  /-- State.clk at which the link state was entered; R287; reset 0 -/
  since : Nat := 0
  eqLimit : Bool := false
  loopRefused : Bool := false
  /-- the partner reports LOOP = 2 in its link sheets; 1; R285; reset 0 -/
  loopActive : Bool := false
  /-- FUNCTION: 0 none, 1 Ethernet, 2 A-end, 3 B-end, 4 test; 3; Table 8-9; reset 0 -/
  func : Nat := 0
  quire : Nat := 0
  /-- FOR and SUBST of a spare; 2 and 1; Table 8-9; reset 0 -/
  for_ : Nat := 0
  subst : Bool := false
  /-- a retired lane that was restored and stands by for its function; 1; R291; reset 0 -/
  standby : Bool := false
  /-- State.clk of the starts of recent transient events, newest first; R288, R289; reset empty -/
  trans : List Nat := []
  /-- State.clk of the end of the last transient event; R288; reset none -/
  transEnd : Option Nat := none
  /-- FOM 1 ms mean and lowest in the last second; 12 signed each; R278; reset -2048 -/
  fom : Int := -2048
  /-- (State.clk, mean) of the last second; R278, Table 8-5; reset empty -/
  foms : List (Nat × Int) := []
  /-- State.clk since which the mean is below LOW_FOM, at or above LOW_FOM + 16, below RETIRE_FOM; R289, R290; reset none -/
  lowSince : Option Nat := none
  highSince : Option Nat := none
  retSince : Option Nat := none
  /-- LANE_FOM_LOW episode open; LANE_LOS condition open; 1 each; reset 0 -/
  lowEp : Bool := false
  losRaised : Bool := false
  /-- State.clk since which the mean has been below RETIRE_FOM, whatever R289 has judged of it; R288; reset none -/
  dipSince : Option Nat := none
  /-- SEQ of the last nick taken; 16; R274; reset none -/
  rxSeq : Option Nat := none
  /-- receiver taps as adapted, in 1/64 of the main tap: 16 of the feed-forward equaliser (the main tap is number 4) and the feedback tap; R277; reset empty, read as 0 -/
  taps : List Int := []
  /-- State.clk before which transient events no longer count toward retirement; R289; reset 0 -/
  judged : Nat := 0
  /-- State.clk of the uncorrectable codewords of the last two seconds, newest first; Table 8-5; reset empty -/
  uncAt : List Nat := []
  /-- (State.clk, codewords) of the codewords corrected in the last two seconds, newest first; Table 8-5; reset empty -/
  corrAt : List (Nat × Nat) := []
  /-- test body bit errors since alignment; 32; Table 8-5; reset 0 -/
  terr : Nat := 0
  /-- idle nick taken: its SEQ; 16; R281; reset none -/
  idleSeq : Option Nat := none
  /-- the transmitter is in electrical idle since State.clk; R280; reset none -/
  txIdle : Option Nat := none
  /-- sheets the transmitter must send before it may idle again, until State.clk; R281; reset 0 -/
  txBusyTo : Nat := 0
  /-- equalisation entry LNQ_EQ_TX0, TX1, RX; 32 each; R276; reset 0 -/
  eqTx0 : Word := 0
  eqTx1 : Word := 0
  eqRx : Word := 0
  eqValid : Bool := false
  eqErr : Bool := false
  /-- partner's figures from its link sheets (reporting); R271; reset 0 -/
  partnerFom : Int := -32768
  partnerCorr : Nat := 0
  partnerUnc : Nat := 0
  /-- echo measurements of the current second: sum and count of fwd_in in 1/16 ns, and the value in force; R395; reset 0 -/
  fwdSum : Int := 0
  fwdCount : Nat := 0
  fwdAt : Nat := 0
  fwd : Option Int := none
  /-- CUM of the last link sheet received; R401; reset none -/
  cum : Option Nat := none
  /-- generation of the unit; 8; R485; reset 0 -/
  gen : Nat := 0
  /-- slices in use as calibrated, SLICE_SHORT, SWAPS; 36, 1, 8; R471, Table 14-6; reset slices 0 to 31 -/
  slices : Nat := 0xFFFFFFFF
  /-- starting point of the next calibration; 36; R476; reset slices 0 to 31 -/
  sliceStart : Nat := 0xFFFFFFFF
  /-- error e of each slice as last measured, 1/16 LSB; 8 each, 36; R471, R472; reset empty, read as 0 -/
  sliceE : List Nat := []
  short : Bool := false
  swaps : Nat := 0
  deriving DecidableEq, Repr

/-- Closure state of a direction (Table 10-4). -/
inductive Clos where
  | closed | open_ | healing
  deriving DecidableEq, Repr

/-- One direction of a quire (R356 to R370). -/
structure Dir where
  /-- A_STATE or B_STATE; 2; Table 10-7; reset CLOSED -/
  st : Clos := .closed
  /-- leaves reached: A reaches 0 to stop - 1, B reaches stop + 1 to N - 1; none reaches every leaf; R360; reset none -/
  stop : Option Int := none
  /-- sheets missing or mismatched in a row; n; R357; reset 0 -/
  badRun : Nat := 0
  /-- a leaf has reported a break of the direction since its last matched sheet, so that bad sheets are located; 1; Table 10-1; reset 0 -/
  broken : Bool := false
  /-- matched in a row; n; R370; reset 0 -/
  goodRun : Nat := 0
  /-- State.clk of entry to HEALING; R370; reset 0 -/
  healAt : Nat := 0
  /-- delays of the last 1,024 matched sheets in 2^-16 ns, newest first; R356; reset empty -/
  delays : List Nat := []
  /-- State.clk of the sheets missing or mismatched in the last second, newest first (QPR_Qq_CLOSE); R357; reset empty -/
  badAt : List Nat := []
  /-- a QUIRE_BREAK or QUIRE_CLOSURE_MISMATCH episode; 1 each; R375; reset 0 -/
  breakEp : Bool := false
  mismEp : Bool := false
  /-- ring delay by timing, ns; TIM_Qq_RING; 16; R401; reset 0 -/
  ring : Nat := 0
  ringDiff : Int := 0
  deriving DecidableEq, Repr

/-- Session states of Table 9-15. -/
inductive QSt where
  | off | wait | adopting | running | badCount
  deriving DecidableEq, Repr

/-- Evidence of a closure failure (Table 10-1). -/
inductive Evid where
  | laneLoss (dir : Nat)
  | leafU (i : Nat)
  | leafD (i : Nat)
  | unlocated (dir : Nat)
  deriving DecidableEq, Repr

/-- A quire (Tables 9-15, 9-20, 10-6, 10-7). -/
structure Quire where
  /-- STATE; 3; Table 9-20; reset OFF -/
  st : QSt := .off
  /-- session tag; 64; R311; reset 0 -/
  tag : DWord := 0
  /-- State.clk at which the session state was entered; Table 9-15; reset 0 -/
  since : Nat := 0
  /-- State.clk of the last ADOPT and of the last TIME; R312, R397; reset 0 -/
  adoptAt : Nat := 0
  timeAt : Nat := 0
  /-- first plan of the session made; 1; R352; reset 0 -/
  planned : Bool := false
  /-- feed epoch in force; 32; R352; reset 0 -/
  epoch : Word := 0
  /-- the module starts no slug of the quire before its first commit point after RUNNING (R312) -/
  ready : Bool := false
  dirA : Dir := {}
  dirB : Dir := {}
  /-- evidence gathered and its first instant (State.clk); R360; reset empty -/
  evid : List Evid := []
  evidAt : Nat := 0
  replanning : Bool := false
  /-- re-plans since reset and the time of the last, units of 10 ns; 16 each; Table 10-6; reset 0 -/
  replans : Nat := 0
  replanTime : Nat := 0
  standby : Bool := false
  /-- slugs FAILED in the last closed impression and impressions with FAILED slugs; 16 each; Table 9-19; reset 0 -/
  failed : Nat := 0
  failedImps : Nat := 0
  /-- State.clk of inserted packets accepted and discarded in the last second, newest first (QPR_Qq_INSERT); Table 9-19; reset empty -/
  insOk : List Nat := []
  insBad : List Nat := []
  /-- header parts of the impression in hand acknowledged: (leaf position, bit of BATCH 0xFF); R327; reset empty -/
  hdrAcks : List (Nat × Nat) := []
  /-- header parts sent: (part bit, State.clk of the last copy); R366; reset empty -/
  hdrSent : List (Nat × Nat) := []
  /-- copies sent with REPLAY = 1 in the impression in hand; n; Table 9-17; reset 0 -/
  replayed : Nat := 0
  /-- quire.rebalance in progress: item, bits of DETAIL so far, and 1 + the State.clk at which its ends moved, 0 once that is judged; R372; reset none -/
  rebal : Option (Nat × Nat × Nat) := none
  deriving DecidableEq, Repr

/-! ### Time and references -/

/-- A foreign master (R382, R383): which acceptable-master entry it matches and what its Announce said. -/
structure Master where
  src : PtpSrc
  entry : Nat
  ann : Announce
  /-- State.clk of recent Announce messages, newest first -/
  heard : List Nat
  qualified : Bool := false
  deriving DecidableEq, Repr

/-- Servo states (Table 11-1). -/
inductive Servo where
  | unset | qualify | tracking | locked | holdover
  deriving DecidableEq, Repr

/-- A pulse output (R409 to R412). -/
structure Pout where
  /-- MODE in force; 2; Table 11-6; reset 0 -/
  mode : Nat := 0
  /-- its own copy of A (ns), P, OFFSET, DIV, WIDTH; R410; reset the registers' reset values -/
  align : Nat := 0
  pNum : Nat := 0
  pDen : Nat := 0
  offset : Int := 0
  div : Nat := 1
  width : Nat := 10
  /-- ARMED, PAST, FIRED; 1 each; Table 11-6; reset 0 -/
  armed : Bool := false
  past : Bool := false
  fired : Bool := false
  /-- target in ns of module time; R412; reset 0 -/
  tgt : Nat := 0
  /-- scheduled instant of the last pulse; 2^-16 ns of module time; reset none -/
  lastAt : Option Nat := none
  /-- begin and end of the last pulse driven; 2^-16 ns of module time; R409; reset none -/
  last : Option (Nat × Nat) := none
  deriving DecidableEq, Repr

/-- Time section. -/
structure Tim where
  /-- module time in 2^-16 ns: seconds 64, nanoseconds 32, fraction 16; R376; reset 0 -/
  time : Nat := 0
  /-- remainder of the rate correction in 2^-40 units; the model's own (log entry 2); reset 0 -/
  resid : Nat := 0
  /-- RATE, signed, 2^-40; R376; reset 0 -/
  rate : Int := 0
  /-- State.clk at which RATE last changed; R386; reset 0 -/
  rateAt : Nat := 0
  servo : Servo := .unset
  /-- VALID; 1; R377; reset 0 -/
  valid : Bool := false
  slewing : Bool := false
  pRefused : Bool := false
  setIgnored : Bool := false
  /-- GEN_RUN; 1; R392; reset 0 -/
  genRun : Bool := false
  /-- P accepted and in force: numerator, denominator, alignment ns; R390; reset none -/
  pUse : Option (Nat × Nat × Nat) := none
  /-- pending P and the index of t_c in the schedule in force; R392; reset none -/
  pPend : Option ((Nat × Nat × Nat) × Nat) := none
  /-- instant at which VALID and an accepted P both held; module time; R392; reset none -/
  readyAt : Option Nat := none
  /-- last tick taken, 2^-16 ns of module time; R391; reset 0 -/
  tickAt : Nat := 0
  /-- index of the next tick in the schedule in force, less 1; R390, R392; reset 0 -/
  tickK : Nat := 0
  /-- ticks since the generator started; R215; reset 0 -/
  ticks : Nat := 0
  masters : List Master := []
  /-- the selected master's source; R383; reset none -/
  sel : Option PtpSrc := none
  /-- exchanges collected: offsets in 2^-16 ns; Table 11-1; reset empty -/
  exch : List Int := []
  /-- arrival of a two-step Sync awaiting its Follow_Up; module time; R380; reset none -/
  syncAt : Option Nat := none
  /-- departure of the last Delay_Req, last Sync pair (origin, arrival); module time; R381; reset none -/
  reqAt : Option Nat := none
  lastSync : Option (Nat × Nat) := none
  /-- filtered offset ns, mean path delay 2^-16 ns; R387; reset 0 -/
  offset : Int := 0
  path : Nat := 0
  /-- TIM_PATH, the mean path delay as of the last Sync, 2^-16 ns; R387; reset 0 -/
  pathShown : Nat := 0
  /-- Syncs in a row within ±100 ns, and beyond ±1 µs; Table 11-1; reset 0 -/
  inRow : Nat := 0
  outRow : Nat := 0
  /-- next Delay_Req due (State.clk), log2 interval; R381; reset 0 -/
  nextReq : Nat := 0
  reqLog : Int := 0
  /-- a master already selected at a host start raises TIME_MASTER_CHANGE at its next Sync; 1; R389; reset 0 -/
  atStart : Bool := false
  freerunEp : Bool := false
  /-- TIM_SNAP_ registers; R378; reset 0 -/
  snapS : DWord := 0
  snapNs : Word := 0
  snapFrac : Word := 0
  gm : DWord := 0
  utc : Int := 0
  utcValid : Bool := false
  pouts : Tab Pout := []
  deriving DecidableEq, Repr

/-- A reference candidate (R402 to R405). -/
structure Cand where
  /-- QL code, 0xF when failed; 4; Table 11-8; reset 0xF -/
  ql : Nat := 15
  /-- the quality level has failed for want of PDUs or frames -/
  qlFailed : Bool := true
  signal : Bool := false
  inRange : Bool := false
  qlTimeout : Bool := false
  /-- State.clk of the last PDU or good frame; R403; reset 0 -/
  qlAt : Nat := 0
  eligible : Bool := false
  /-- has been eligible since module reset (R405) -/
  everElig : Bool := false
  /-- State.clk since which it is valid; R405; reset none -/
  validSince : Option Nat := none
  /-- FREQ of REF_Cc_STATUS: 0 none, 1 10 MHz, 2 25 MHz -/
  fin : Nat := 0
  /-- frequency offset, 0.001 ppm; Table 11-8; reset 0 -/
  freq : Int := 0
  deriving DecidableEq, Repr

/-- Registration PLL and its candidates. -/
structure Refs where
  /-- SELECTED, 15 for none; 4; Table 11-8; reset 15 -/
  sel : Nat := 15
  /-- FREERUN; 1; Table 11-8; reset 1 -/
  freerun : Bool := true
  buildout : Bool := false
  locked : Bool := false
  /-- a REF_FREERUN episode is open; 1; R408; reset 0 -/
  freeEp : Bool := false
  /-- compensation in 0.001 ppm and oscillator temperature in 1/16 °C; 16 signed each; Table 11-8; reset 0 -/
  tcxoComp : Int := 0
  tcxoTemp : Int := 0
  /-- frames failing CRC: (State.clk of each in the last second) per REFQL; 16; Table 11-8; reset empty -/
  qlErr0 : List Nat := []
  qlErr1 : List Nat := []
  cands : Tab Cand := []
  deriving DecidableEq, Repr

/-! ### Memory -/

/-- A pseudo-channel (Table 12-5). -/
structure Pc where
  /-- UNIT; 2; Table 12-5; reset IN_SERVICE -/
  unit : Unit4 := .inService
  trainFail : Bool := false
  lowMargin : Bool := false
  restoring : Bool := false
  /-- spare rows used by bank; 2 per bank; R432; reset 0 -/
  sparesUsed : Tab Nat := []
  eyeRd : List Nat := [0, 0, 0, 0, 0]
  eyeWr : List Nat := [0, 0, 0, 0, 0]
  ce : Nat := 0
  ue : Nat := 0
  /-- last raise of MEM_CE and MEM_UE; State.clk; R426; reset none -/
  ceAt : Option Nat := none
  ueAt : Option Nat := none
  /-- distinct rows with uncorrectable words: (bank, row, State.clk); R434; reset empty -/
  ueRows : List (Nat × Nat × Nat) := []
  /-- corrected reads: (bank, row, State.clk); R432; reset empty -/
  corr : List (Nat × Nat × Nat) := []
  /-- rows repaired: (bank, row, hard); R432, R433; reset empty -/
  repairs : List (Nat × Nat × Bool) := []
  gen : Nat := 0
  /-- taps: most skipped, smallest usable count minus 128, mean step; CAL_PC_TAPS; reset 0 -/
  taps : Nat × Nat × Nat := (0, 0, 0)
  /-- starting points of the next training: read and write tap per lane; R476, R478; reset 0 -/
  startTaps : List (Nat × Nat) := []
  /-- taps selected at the last training: read and write, byte lanes 0 to 3, then the check lane; R470, R477; reset empty, read as 0 -/
  sel : List (Nat × Nat) := []
  deriving DecidableEq, Repr

/-- An allocation (R428): extents by pseudo-channel, with the twins of a Frisket allocation (R429). -/
structure Alloc where
  id : Nat
  /-- 0 Frisket, 1 real-time, 2 paging, 3 bulk (R40) -/
  cls : Nat
  /-- extents by pseudo-channel -/
  ext : Tab Nat
  /-- twins by pseudo-channel -/
  twin : Tab Nat := []
  deriving DecidableEq, Repr

/-- Memory section. -/
structure Mem where
  trained : Bool := false
  tempHold : Bool := false
  quiet : Bool := false
  pcs : Tab Pc := []
  allocs : List Alloc := []
  nextAlloc : Nat := 1
  /-- allocation of the module's records and trace buffers; R430; reset none -/
  own : Option Nat := none
  /-- pseudo-channel where the previous allocation ended; 6; R428; reset 63 (DESIGN CHOICE 63: the first allocation starts at 0; log entry 3) -/
  last : Nat := 63
  /-- activate ledgers: key 32 × pc + bank, entries (row, count); 32 each; R422; reset empty -/
  ledgers : Tab (List (Nat × Nat)) := []
  /-- rows whose activates are delayed: (pc, bank, row, State.clk of its previous activate); R423; reset empty -/
  delayed : List (Nat × Nat × Nat × Nat) := []
  /-- neighbour refreshes issued by the last activate: (pc, bank, row); R422; reset empty -/
  refreshed : List (Nat × Nat × Nat) := []
  /-- MEM_HAMMER_MODE and THR in force for stacks 0 and 1; R424; reset 0 and 2048 -/
  mode : List Nat := [0, 0]
  thr : List Nat := [2048, 2048]
  /-- State.clk at which the refresh window of stacks 0 and 1 began; R421; reset 0 -/
  winAt : List Nat := [0, 0]
  /-- the 16 ms window runs, by stack; R421; reset 0 -/
  hot : List Bool := [false, false]
  /-- State.clk of the last delayed request; THROTTLE_ACTIVE; R423; reset none -/
  throttleAt : Option Nat := none
  ceCnt : Nat := 0
  ueCnt : Nat := 0
  /-- MEM_ERR; 64; Table 12-3; reset 0 -/
  err : DWord := 0
  /-- State.clk of the last training check under TEMP_HOLD; R418; reset 0 -/
  holdAt : Nat := 0
  deriving DecidableEq, Repr

/-! ### Faults, temperature, supply -/

/-- One occurrence (R446). -/
structure Occ where
  seq : Word
  level : Nat
  acked : Bool := false
  /-- conditions still to clear -/
  open_ : Nat := 0
  /-- instance attached, for an overflow entry (R449) -/
  inst : Nat := 0
  deriving DecidableEq, Repr

/-- A collector entry (R449): an instance with its outstanding occurrences, oldest first. -/
structure Entry where
  src : Src
  inst : Nat
  occs : List Occ
  deriving DecidableEq, Repr

/-- Fault collector and ALIVE. -/
structure Flt where
  /-- severities written by the host, by source number; 2 each; R442; reset the defaults of Table 13-4 -/
  sev : Tab Nat := []
  /-- raises since reset by source; 16 each; Table 13-12; reset 0 -/
  raises : Tab Nat := []
  /-- SEQ of the last fault record; 32; R446; reset 0 -/
  seq : Word := 0
  /-- entries 0 to 1,087; R449; reset empty -/
  entries : Tab Entry := []
  /-- ALIVE toggles; 1; R456; reset 0 -/
  alive : Bool := false
  /-- level ALIVE holds while stopped, or held at the instant it began to toggle; 1; R456; reset 0 (low) -/
  level : Bool := false
  /-- State.clk at which ALIVE began to toggle; R456; reset 0 -/
  aliveAt : Nat := 0
  /-- the supervisor watchdog has expired and the supervisor has not restarted; 1; R457; reset 0 -/
  wdog : Bool := false
  /-- FLT_RESETS; 16 each; Table 13-12; reset 0 -/
  supResets : Nat := 0
  wdogs : Nat := 0
  deriving DecidableEq, Repr

/-- Temperature and supply. -/
structure Thp where
  /-- last 4 samples of each of 20 sensors, newest first, 1/16 °C; R458; reset empty -/
  samples : Tab (List Int) := []
  failed : List Nat := []
  warn : Bool := false
  throttle : Bool := false
  shut : Bool := false
  /-- sensor that set each condition; R459; reset 0 -/
  warnBy : Nat := 0
  throttleBy : Nat := 0
  shutBy : Nat := 0
  /-- STOPPING, STOPPED, STOP_CAUSE; 1, 1, 2; Table 13-15; reset 0 -/
  stopping : Bool := false
  stopped : Bool := false
  cause : Nat := 0
  /-- T_s and the last DARK, State.clk; R464; reset 0 -/
  stopAt : Nat := 0
  darkAt : Nat := 0
  /-- a trigger was raised after T_s; 1; R467; reset 0 -/
  again : Bool := false
  /-- resume accepted and in progress; 1; R467; reset 0 -/
  resuming : Bool := false
  /-- resumed: conditions clear at the first flip after; 1; R467; reset 0 -/
  resumedFlip : Bool := false
  /-- SUP48 in 10 mV, input current mA, power 0.1 W; 16 each; Table 13-14; reset 0 -/
  supV : Nat := 0
  supI : Nat := 0
  supP : Nat := 0
  /-- (State.clk, V, P) of the last second; Table 13-14; reset empty -/
  hist : List (Nat × Nat × Nat) := []
  /-- consecutive samples below 40.0 V, 33.0 V, 28.0 V and above 100.0 V; R462; reset 0 -/
  n40 : Nat := 0
  n33 : Nat := 0
  n28 : Nat := 0
  n100 : Nat := 0
  /-- State.clk since which SUP48 is above 41.0 V, out of 36.0 to 75.0 V, within 37.0 to 74.0 V, at or above 36.0 V; R462; reset none -/
  hi41 : Option Nat := none
  outLow : Option Nat := none
  inLow : Option Nat := none
  ok36 : Option Nat := none
  /-- the supply is in the write window; 1; R461; reset 0 -/
  writeOk : Bool := false
  /-- SUPPLY_LOW and SUPPLY_FAIL conditions; 1 each; R462; reset 0 -/
  low : Bool := false
  fail : Bool := false
  /-- rails CORE, SERDES, HBM, AUX; 1 each; THP_RAILS; reset 0 -/
  core : Bool := false
  serdes : Bool := false
  hbm : Bool := false
  aux : Bool := false
  /-- THP_THROTTLE: episodes; time in throttle in 2^-16 ns, State.clk of the last count; Table 13-14; reset 0 -/
  episodes : Nat := 0
  thrTime : Nat := 0
  thrAt : Nat := 0
  deriving DecidableEq, Repr

/-! ### Calibration, update, observation, start-up -/

/-- A pixel engine (key e) or a slug encoder (key 32 + e): unit state and generation (R485). -/
structure UnitRec where
  /-- unit state; 2; Tables 4-10 and 7-7; reset IN_SERVICE, SPARE for engines 16 and 17 and encoder 8 -/
  st : Unit4 := .inService
  gen : Nat := 0
  fail : Bool := false
  /-- unit whose place it took, 0x3F for none; 6; Table 14-6; reset 0 (Table 14-6 gives 0 for the whole register until the first bring-in) -/
  placeOf : Nat := 0
  /-- tiles or slugs in the last window and in hand; 16; Tables 4-10, 7-7; reset 0 -/
  last : Nat := 0
  now : Nat := 0
  /-- powered up and in self-test as a bring-in, for the unit it replaces; R482; reset none -/
  bringing : Option Nat := none
  /-- in self-test after RESTORE; 1; R484; reset 0 -/
  testing : Bool := false
  /-- an encoder brought in waits for the first commit point from this State.clk on; 0 once it takes slugs; R483; reset 0 -/
  readyAt : Nat := 0
  deriving DecidableEq, Repr

/-- An on-die SRAM macro (R481). -/
structure Macro where
  rows : Nat := 0
  cols : Nat := 0
  /-- corrected reads (row, State.clk) -/
  corr : List (Nat × Nat) := []
  ceAt : Option Nat := none
  usedUp : Bool := false
  deriving DecidableEq, Repr

/-- The spare manager's record in flash (R479): kept across module resets. -/
structure Record where
  units : Tab Unit4 := []
  lanes : Tab Unit4 := []
  pcs : Tab Unit4 := []
  /-- substitutions: spare lane to the working lane's l -/
  subs : Tab Nat := []
  /-- engine or encoder in place of -/
  places : Tab Nat := []
  repairs : List (Nat × Nat × Nat × Bool) := []
  sram : List (Nat × Nat × Nat) := []
  log : List (Nat × Nat) := []
  deriving DecidableEq, Repr

/-- Calibration and the spare manager. -/
structure Cal where
  /-- TRIM; 7; Table 14-6; reset from fuses -/
  trim : BitVec 7 := Config.refTrim
  /-- residual µV; 16 signed; Table 14-6; reset from fuses -/
  resid : Int := Config.refResid
  /-- CAL_REF_TIME seconds; 64; Table 14-6; reset 0 -/
  refTime : DWord := 0
  refNs : Nat := 0
  trace : Nat := 0
  running : Bool := false
  startAt : Nat := 0
  refFail : Bool := false
  present : Bool := false
  /-- sensors' offset legs and residuals written or restored, by sensor; Table 14-6; reset from fuses -/
  sens : Tab (Nat × Int) := []
  lanesDone : Bool := false
  units : Tab UnitRec := []
  macros : Tab Macro := []
  sramSpared : Nat := 0
  sramUsedUp : Nat := 0
  /-- uncorrectable words in macros whose spares are used up -/
  sramMore : Nat := 0
  retries : Nat := 0
  /-- log of substitutions, newest first, at most 256: (unit replaced, spare) as instances of Table 13-3; R479; reset empty -/
  log : List (Nat × Nat) := []
  /-- a change of the record waits to be written; 1; R479; reset 0 -/
  pend : Bool := false
  /-- LOST and the count of record writes; 1, 16; Table 14-6; reset 0 -/
  lost : Bool := false
  writes : Nat := 0
  /-- the two copies of the record in flash, each with its sequence number; none is not valid; R479; reset none at the factory (DESIGN CHOICE none; log entry 4) -/
  copyA : Option (Nat × Record) := none
  copyB : Option (Nat × Record) := none
  /-- HBM rows replaced in the stacks' fuses: (pseudo-channel, bank, row); R433; reset empty (DESIGN CHOICE empty; log entry 4) -/
  fuses : List (Nat × Nat × Nat) := []
  deriving DecidableEq, Repr

/-- Bank header states (R494). -/
inductive BankSt where
  | empty | written | trial | tried | confirmed
  deriving DecidableEq, Repr

/-- A firmware bank (R494). -/
structure Bank where
  gen : Nat := 0
  st : BankSt := .empty
  version : Word := 0
  svn : Nat := 0
  manifest : BitVec 384 := 0
  raise : Bool := false
  /-- its contents pass steps 3, 4 and 6 of R489 -/
  good : Bool := false
  /-- hash of the owner key that co-signs its contents validly; step 5 of R489 -/
  coSigner : Option (BitVec 384) := none
  deriving DecidableEq, Repr

/-- A staged package (R491). -/
structure Staged where
  total : Nat
  /-- 4 KiB granules: (granule, bytes) -/
  granules : Tab (List Byte)
  alloc : Nat
  version : Word := 0
  svn : Nat := 0
  manifest : BitVec 384 := 0
  raise : Bool := false
  coSigner : Option (BitVec 384) := none
  verified : Bool := false
  /-- the item of the block that completed coverage, under verification -/
  item : Option Nat := none
  deriving DecidableEq, Repr

/-- Update states (Table 15-8). -/
inductive UpdSt where
  | idle | receiving | verified | writing | armed
  deriving DecidableEq, Repr

/-- Update engine, keys and entropy. -/
structure Upd where
  st : UpdSt := .idle
  bankA : Bank := { gen := 1, st := .confirmed, version := Config.factoryVersion, svn := Config.factorySvn.toNat, manifest := Config.factoryManifest, good := true, coSigner := Config.factoryCoSigner }
  bankB : Bank := {}
  /-- RUN_BANK, TRIAL_RUN, FALLBACK, FALLBACK_REASON; Table 15-10; reset at boot; before a boot 0 -/
  runB : Bool := false
  trialRun : Bool := false
  fallback : Bool := false
  reason : Nat := 0
  /-- fallback of R499 to raise once the supervisor runs; the restart was the deadline's; 1; R497; reset 0 -/
  byDeadline : Bool := false
  staged : Option Staged := none
  verr : Nat := 0
  /-- owner key hash in fuses; 384; R500; reset none (DESIGN CHOICE none: empty from the factory; log entry 4) -/
  owner : Option (BitVec 384) := none
  lock : Bool := false
  ownerErr : Bool := false
  ownerCheck : Word := 0
  /-- fused floor; 6; R489; reset from fuses -/
  floor : Nat := Config.svnFloor.toNat
  /-- activation: item, State.clk of take; step 1 ended at; FINAL written at; R494; reset none -/
  act : Option Nat := none
  step1 : Option Nat := none
  armedAt : Nat := 0
  /-- nonce last issued and not yet consumed; UPD_NONCE; 64; R507; reset 0 -/
  nonce : DWord := 0
  nonceLive : Bool := false
  nonceOnce : Bool := false
  /-- UPD_ENT_STATUS and UPD_ENT_CNT; Table 15-11; reset 0 -/
  entReady : Bool := false
  hardFail : Bool := false
  lastTest : Nat := 0
  restarts : Nat := 0
  rctCnt : Nat := 0
  aptCnt : Nat := 0
  entEp : Bool := false
  /-- session tags drawn since module reset; R311; reset empty -/
  tags : List DWord := []
  /-- some impression's record group showed FAILED 0 on every quire record; 1; R498; reset 0 -/
  goodImp : Bool := false
  /-- State.clk of the supervisor's start; R498; reset 0 -/
  supStart : Nat := 0
  /-- a confirmation or floor write waits for writes to be permitted; 1; R498; reset 0 -/
  confirmPend : Bool := false
  deriving DecidableEq, Repr

/-- Observation section. -/
structure Obs where
  /-- counters by index; 64 each; R513; reset 0 -/
  cnt : Tab DWord := []
  /-- trace records waiting for TRQ, oldest first; at most 4,096; R516; reset empty -/
  store : List Trace := []
  deriving DecidableEq, Repr

/-- Start-up and reset. -/
structure Sys where
  /-- last stage of Table 17-1 ended; 3; R520; reset 0 -/
  stage : Nat := 0
  /-- CAUSE of HIF_BOOT; 2; Table 17-6; reset 0 -/
  cause : Nat := 0
  straps : Straps := { pcieX4 := false, bankForce := 0, testLock := true }
  /-- T_v has passed; PERST_N released (T_p) and T_r in State.clk; R519; reset none -/
  supValid : Bool := false
  perstHigh : Bool := false
  tP : Option Nat := none
  tR : Option Nat := none
  endpoint : Bool := false
  startMs : Nat := 0
  strapErr : Bool := false
  /-- HIF_RESETS; 16 each; Table 17-5; reset 0 at power-on -/
  nPerst : Nat := 0
  nWarm : Nat := 0
  /-- the supervisor runs; 1; R528; reset 0 -/
  supRun : Bool := false
  /-- held in reset because no bank passes its checks; 1; R497; reset 0 -/
  noBank : Bool := false
  /-- a shut-down before READY waits for recovery; 1; R522; reset 0 -/
  preShut : Bool := false
  preSrc : List (Src × Nat) := []
  /-- lane transmitters are held off until this State.clk; R532; reset 0 -/
  txOffTo : Nat := 0
  /-- the retention domain holds kept allocations across a PERST_N reset; 1; R529; reset 0 -/
  retained : Bool := false
  deriving DecidableEq, Repr

/-- The state of the module, with the queue of commands that wait. -/
structure State where
  /-- commands waiting, first in first out; the model's own; reset empty -/
  pending : List Instr := []
  /-- registration-clock time since power-on, 2^-16 ns; the model's own (log entry 2); reset 0 -/
  clk : Nat := 0
  /-- values stored in the RW registers of BAR0 that differ from reset, by BAR0 offset; 32 each; R7, R8; reset each register's reset value -/
  regs : Tab Word := []
  /-- shadows of the ROL partners, by BAR0 offset; 32 each; R511; reset 0 -/
  shadows : Tab Word := []
  /-- data returned by the last register read; 32; the model's own (log entry 5); reset 0 (DESIGN CHOICE 0; log entry 5) -/
  rdata : Word := 0
  /-- free values used so far; the model's own (log entry 1); reset 0 (DESIGN CHOICE 0; log entry 1) -/
  fresh : Nat := 0
  /-- what the module has sent, newest first; the model's own (log entry 5); reset empty -/
  out : List Output := []
  /-- next item number; the model's own; reset 1 -/
  nextItem : Nat := 1
  hif : Hif := {}
  ing : Ing := {}
  cmp : Cmp := {}
  leaves : Tab Leaf := []
  lmp : Lmp := {}
  imp : Imp := {}
  slg : Slg := {}
  win : Window := {}
  /-- record groups not yet written, oldest first; R454; reset empty -/
  groups : List RecGroup := []
  /-- codes sent, for the expected proofs; R231; reset empty -/
  shown : List Shown := []
  hdrs : List Hdr := []
  lanes : Tab Lane := []
  quires : Tab Quire := []
  tim : Tim := {}
  refs : Refs := {}
  mem : Mem := {}
  flt : Flt := {}
  thp : Thp := {}
  cal : Cal := {}
  upd : Upd := {}
  obs : Obs := {}
  sys : Sys := {}
  deriving DecidableEq, Repr

/-- The module at power-on reset: every field at the default its declaration gives, from the spec's reset values or the log entries its docstring names. -/
def State.reset : State := {}

end Sys2Proof.Machine
end

