-- ==== Sys2Proof/Decode.lean ====
section
/-! DEFINITION. The words of spec/opcode_table.json. The table gives no row any bits: commands reach the module as descriptors, register accesses, frames and events, which Sys2Proof/Syntax.lean carries field by field; the fields of a descriptor are read in Sys2Proof/Machine/Operands.lean. -/

namespace Sys2Proof

/-- The command a word of nbits bits spells by the table: no row has bits, so no word spells one. -/
def decodeTableWord (_nbits _w : Nat) : Option Instr := none

end Sys2Proof
end

