-- ==== Sys2Proof/Machine/Tab.lean ====
section
/-! DEFINITION. Sparse tables in one canonical form, bit fields, signed and saturating conversions, and small list helpers. -/

namespace Sys2Proof.Machine

open Sys2Proof

/-- The value of a table at key i; d is what an unlisted key holds. -/
def tget {α : Type} (d : α) : Tab α → Nat → α
  | [], _ => d
  | (k, v) :: t, i => if i = k then v else tget d t i

/-- The table with v at key i; d is the default of key i, which is never listed. -/
def tput {α : Type} [DecidableEq α] (d : α) : Tab α → Nat → α → Tab α
  | [], i, v => if v = d then [] else [(i, v)]
  | (k, w) :: t, i, v =>
    if i < k then (if v = d then (k, w) :: t else (i, v) :: (k, w) :: t)
    else if i = k then (if v = d then t else (i, v) :: t)
    else (k, w) :: tput d t i v

/-- The table with the value of key i changed by f. -/
def tmod {α : Type} [DecidableEq α] (d : α) (t : Tab α) (i : Nat) (f : α → α) : Tab α :=
  tput d t i (f (tget d t i))

/-- Keys strictly rising from a bound, and no entry equal to its key's default. -/
def tabWfFrom {α : Type} [DecidableEq α] (dflt : Nat → α) : Nat → Tab α → Bool
  | _, [] => true
  | b, (k, v) :: t => decide (b ≤ k) && decide (v ≠ dflt k) && tabWfFrom dflt (k + 1) t

/-- The canonical form of a table whose key i defaults to dflt i. -/
def tabWf {α : Type} [DecidableEq α] (dflt : Nat → α) (t : Tab α) : Bool := tabWfFrom dflt 0 t

/-- n bits of x from bit lo, as a number. -/
def bits {w : Nat} (x : BitVec w) (lo n : Nat) : Nat := (x >>> lo).toNat % 2 ^ n

/-- Bit i of x. -/
def bit {w : Nat} (x : BitVec w) (i : Nat) : Bool := x.getLsbD i

/-- x with n bits from lo replaced by v. -/
def setBits {w : Nat} (x : BitVec w) (lo n v : Nat) : BitVec w :=
  (x &&& ~~~(BitVec.ofNat w ((2 ^ n - 1) * 2 ^ lo))) ||| BitVec.ofNat w (v % 2 ^ n * 2 ^ lo)

/-- x with bit i set to b. -/
def setBit {w : Nat} (x : BitVec w) (i : Nat) (b : Bool) : BitVec w := setBits x i 1 (if b then 1 else 0)

/-- 1 for true. -/
def b2n (b : Bool) : Nat := if b then 1 else 0

/-- The two's complement value of the low n bits of v. -/
def sgn (n v : Nat) : Int :=
  let u := v % 2 ^ n
  if u < 2 ^ (n - 1) then Int.ofNat u else Int.ofNat u - 2 ^ n

/-- i modulo 2^n. -/
def uns (n : Nat) (i : Int) : Nat := (i % (2 ^ n : Int)).toNat

/-- v, or the largest n-bit number. -/
def satU (n v : Nat) : Nat := min v (2 ^ n - 1)

/-- i cut to a signed range of n bits. -/
def satS (n : Nat) (i : Int) : Int := max (-(2 ^ (n - 1) : Int)) (min i (2 ^ (n - 1) - 1))

/-- a / b rounded up. -/
def ceilDiv (a b : Nat) : Nat := (a + b - 1) / b

/-- i cut to lo..hi. -/
def clampI (lo hi i : Int) : Int := max lo (min hi i)

/-- v cut to lo..hi. -/
def clampN (lo hi v : Nat) : Nat := max lo (min hi v)

/-- A 32-bit word packed from (lowest bit, value) fields. -/
def pack (fs : List (Nat × Nat)) : Word := BitVec.ofNat 32 (fs.foldl (fun a f => a + f.2 * 2 ^ f.1) 0)

/-- The low and high 32 bits of a number. -/
def loW (v : Nat) : Word := BitVec.ofNat 32 v
def hiW (v : Nat) : Word := BitVec.ofNat 32 (v / 2 ^ 32)

/-- a serial-number comparison within 2^31: a is at or before b (R446). -/
def serLe (a b : Word) : Bool := decide ((b - a).toNat < 2 ^ 31)

/-- Field of n bytes at byte offset o of a 64-byte slot, little-endian (R5). -/
def fld (s : BitVec 512) (o n : Nat) : Nat := bits s (8 * o) (8 * n)

/-- The n bytes of a number, least significant first. -/
def leBytes (n v : Nat) : List Byte := (List.range n).map fun k => BitVec.ofNat 8 (v / 256 ^ k)

/-- The n bytes of a number, most significant first. -/
def beBytes (n v : Nat) : List Byte := (leBytes n v).reverse

/-- The number whose bytes are given most significant first. -/
def beNat (l : List Byte) : Nat := l.foldl (fun a b => a * 256 + b.toNat) 0

/-- The number whose bytes are given least significant first. -/
def leNat (l : List Byte) : Nat := l.foldr (fun b a => a * 256 + b.toNat) 0

/-- n bytes at offset o of a buffer. -/
def slice (l : List Byte) (o n : Nat) : List Byte := (l.drop o).take n

/-- Element i of a list, or d. -/
def nthD {α : Type} (d : α) (l : List α) (i : Nat) : α := (l[i]?).getD d

/-- The list with element i replaced. -/
def setNth {α : Type} (l : List α) (i : Nat) (v : α) : List α := l.set i v

/-- The largest of a list, or d. -/
def maxD (d : Nat) (l : List Nat) : Nat := l.foldl max d

/-- The sum of a list. -/
def sumN (l : List Nat) : Nat := l.foldl (· + ·) 0

/-- insertion sort by a key, stable. -/
def insBy {α : Type} (le : α → α → Bool) (x : α) : List α → List α
  | [] => [x]
  | y :: t => if le x y then x :: y :: t else y :: insBy le x t

/-- A list sorted by le; equal elements keep their order. -/
def sortBy {α : Type} (le : α → α → Bool) : List α → List α
  | [] => []
  | x :: t => insBy le x (sortBy le t)

/-- A list with repeats after the first removed. -/
def dedup {α : Type} [DecidableEq α] (l : List α) : List α :=
  l.foldl (fun a x => if x ∈ a then a else a ++ [x]) []

end Sys2Proof.Machine
end

