-- ==== Sys2Proof/Machine/Crypto.lean ====
section
/-! DEFINITION. The checks the manual names by standard: CRC-32C (R83, R116), CRC-16/CCITT (R404), SHA-256 and HMAC (R85), SHA-384 and ECDSA over P-384 (R489). PRESUMED: the algorithms are those of FIPS 180-4, RFC 2104 and FIPS 186-4; the manual names them and does not repeat them (log entry 7). -/

namespace Sys2Proof.Machine

open Sys2Proof

/-- One byte into a reflected CRC-32C register (polynomial 0x1EDC6F41). -/
def crc32cByte (r : Word) (b : Byte) : Word :=
  (List.range 8).foldl (fun c _ => if c.getLsbD 0 then (c >>> 1) ^^^ 0x82F63B78 else c >>> 1) (r ^^^ b.setWidth 32)

/-- CRC-32C with initial value and final exclusive-or 0xFFFF_FFFF. -/
def crc32c (l : List Byte) : Word := (l.foldl crc32cByte 0xFFFFFFFF) ^^^ 0xFFFFFFFF

/-- CRC of polynomial 0x1021, initial value init, most significant bit first, no final exclusive-or. -/
def crc16 (init : Half) (l : List Byte) : Half :=
  l.foldl (fun r b => (List.range 8).foldl (fun c _ => if c.getLsbD 15 then (c <<< 1) ^^^ 0x1021 else c <<< 1) (r ^^^ BitVec.ofNat 16 (b.toNat * 256))) init

/-- A number above 1 without a divisor below its own value, tried up to 20: the primes below 410 are those. -/
def smallPrime (n : Nat) : Bool := decide (2 ≤ n) && (List.range 21).all fun d => decide (d < 2) || decide (n ≤ d) || decide (n % d ≠ 0)

/-- The 80 primes below 410, rising. -/
def primes80 : List Nat := (List.range 410).filter smallPrime

/-- The largest number of at most n bits, above a multiple a of 2^n, whose k-th power does not pass x. -/
def rootFrom (k x : Nat) : Nat → Nat → Nat
  | 0, a => a
  | n + 1, a => rootFrom k x n (if (a + 2 ^ n) ^ k ≤ x then a + 2 ^ n else a)

/-- The first 64 bits of the fraction of the k-th root of p (FIPS 180-4, for roots below 32). -/
def rootFraction (k p : Nat) : DWord := BitVec.ofNat 64 (rootFrom k (p * 2 ^ (64 * k)) 69 0)

/-- The upper half of a constant, as the 32-bit functions take it. -/
def upperHalf (x : DWord) : Word := BitVec.ofNat 32 (x.toNat / 2 ^ 32)

/-- Round constants: fractions of the cube roots of the primes. -/
def k512 : List DWord := primes80.map (rootFraction 3)
def k256 : List Word := (k512.take 64).map upperHalf

/-- Initial hashes: fractions of the square roots of the first eight primes, and of the eight after them. -/
def h256 : List Word := (primes80.take 8).map fun p => upperHalf (rootFraction 2 p)
def h384 : List DWord := ((primes80.drop 8).take 8).map (rootFraction 2)

/-- The message schedule: the words so far, newest first, lengthened n times. -/
def schedule {w : Nat} (s0 s1 : BitVec w → BitVec w) : Nat → List (BitVec w) → List (BitVec w)
  | 0, l => l
  | n + 1, l => schedule s0 s1 n ((s1 (nthD 0 l 1) + nthD 0 l 6 + s0 (nthD 0 l 14) + nthD 0 l 15) :: l)

/-- The eight working words of a compression. -/
structure ShaRegs (w : Nat) where
  wa : BitVec w
  wb : BitVec w
  wc : BitVec w
  wd : BitVec w
  we : BitVec w
  wf : BitVec w
  wg : BitVec w
  wh : BitVec w

/-- One round, on a round constant and a word of the schedule. -/
def ShaRegs.round {w : Nat} (e0 e1 : BitVec w → BitVec w) (v : ShaRegs w) (k m : BitVec w) : ShaRegs w :=
  let choice := v.wg ^^^ (v.we &&& (v.wf ^^^ v.wg))
  let most := (v.wa &&& (v.wb ||| v.wc)) ||| (v.wb &&& v.wc)
  let t := v.wh + e1 v.we + choice + k + m
  { v with wa := t + e0 v.wa + most, wb := v.wa, wc := v.wb, wd := v.wc, we := v.wd + t, wf := v.we, wg := v.wf, wh := v.wg }

/-- One block of SHA-256 or SHA-512: a round for each constant, and the words before them added. -/
def shaBlock {w : Nat} (e0 e1 s0 s1 : BitVec w → BitVec w) (k : List (BitVec w)) (h m : List (BitVec w)) : List (BitVec w) :=
  let ws := (schedule s0 s1 (k.length - 16) m.reverse).reverse
  let n (i : Nat) := nthD 0 h i
  let start : ShaRegs w := ⟨n 0, n 1, n 2, n 3, n 4, n 5, n 6, n 7⟩
  let r := (k.zip ws).foldl (fun v p => v.round e0 e1 p.1 p.2) start
  (h.zip [r.wa, r.wb, r.wc, r.wd, r.we, r.wf, r.wg, r.wh]).map fun p => p.1 + p.2

/-- A byte list cut into groups of n. -/
def groups {α : Type} (n : Nat) : Nat → List α → List (List α)
  | 0, _ => []
  | _ + 1, [] => []
  | k + 1, l => l.take n :: groups n k (l.drop n)

/-- The padding of FIPS 180-4 for blocks of b bytes with a length field of q bytes. -/
def shaPad (b q : Nat) (l : List Byte) : List Byte :=
  let z := (b - (l.length + 1 + q) % b) % b
  l ++ [0x80] ++ List.replicate z 0 ++ beBytes q (8 * l.length)

/-- A word of k bytes from bytes, most significant first. -/
def wordOf (w : Nat) (l : List Byte) : BitVec w := BitVec.ofNat w (beNat l)

/-- SHA-256. -/
def sha256 (l : List Byte) : List Byte :=
  let p := shaPad 64 8 l
  let h := (groups 64 (p.length / 64) p).foldl (fun h blk =>
    shaBlock (fun x => x.rotateRight 2 ^^^ x.rotateRight 13 ^^^ x.rotateRight 22)
      (fun x => x.rotateRight 6 ^^^ x.rotateRight 11 ^^^ x.rotateRight 25)
      (fun x => x.rotateRight 7 ^^^ x.rotateRight 18 ^^^ (x >>> 3))
      (fun x => x.rotateRight 17 ^^^ x.rotateRight 19 ^^^ (x >>> 10)) k256 h
      ((groups 4 16 blk).map (wordOf 32))) h256
  (h.map fun w => beBytes 4 w.toNat).flatten

/-- HMAC-SHA-256 under a 32-byte key (R85). -/
def hmac256 (key msg : List Byte) : List Byte :=
  let k := key ++ List.replicate 32 0
  sha256 (k.map (· ^^^ 0x5C) ++ sha256 (k.map (· ^^^ 0x36) ++ msg))

/-- SHA-384. -/
def sha384 (l : List Byte) : List Byte :=
  let p := shaPad 128 16 l
  let h := (groups 128 (p.length / 128) p).foldl (fun h blk =>
    shaBlock (fun x => x.rotateRight 28 ^^^ x.rotateRight 34 ^^^ x.rotateRight 39)
      (fun x => x.rotateRight 14 ^^^ x.rotateRight 18 ^^^ x.rotateRight 41)
      (fun x => x.rotateRight 1 ^^^ x.rotateRight 8 ^^^ (x >>> 7))
      (fun x => x.rotateRight 19 ^^^ x.rotateRight 61 ^^^ (x >>> 6)) k512 h
      ((groups 8 16 blk).map (wordOf 64))) h384
  ((h.take 6).map fun w => beBytes 8 w.toNat).flatten

/-- b^e modulo m, by k squarings from the most significant of k bits of e. -/
def powMod (m b e : Nat) : Nat → Nat
  | 0 => 1 % m
  | k + 1 =>
    let r := powMod m b (e / 2) k
    if e % 2 = 1 then r * r % m * b % m else r * r % m

/-- The prime, order, coefficient and base point of P-384. -/
def p384P : Nat := 2 ^ 384 - 2 ^ 128 - 2 ^ 96 + 2 ^ 32 - 1
def p384N : Nat := 0xffffffffffffffffffffffffffffffffffffffffffffffffc7634d81f4372ddf581a0db248b0a77aecec196accc52973
def p384B : Nat := 0xb3312fa7e23ee7e4988e056be3f82d19181d9c6efe8141120314088f5013875ac656398d8a2ed19d2a85c8edd3ec2aef
def p384G : Option (Nat × Nat) :=
  some (0xaa87ca22be8b05378eb1c71ef320ad746e1d3b628ba79b9859f741e082542a385502f25dbf55296c3a545e3872760ab7,
    0x3617de4a96262c6f5d9e98bf9292dc29f8f41dbd289a147ce9da3113b5f0b8c00a60b1ce1d7e819d7a431d7c90ea0e5f)

/-- The inverse modulo a prime of 384 bits. -/
def invMod (m a : Nat) : Nat := powMod m a (m - 2) 384

/-- The sum of two points of the curve; none is the point at infinity. -/
def ecAdd (a b : Option (Nat × Nat)) : Option (Nat × Nat) :=
  match a, b with
  | none, q => q
  | q, none => q
  | some (x1, y1), some (x2, y2) =>
    let p := p384P
    if x1 = x2 ∧ (y1 + y2) % p = 0 then none
    else
      let l := if x1 = x2 then (3 * x1 * x1 + (p - 3)) * invMod p (2 * y1 % p) % p
        else (y2 + p - y1) * invMod p ((x2 + p - x1) % p) % p
      let x := (l * l + 2 * p - x1 - x2) % p
      some (x, (l * (x1 + p - x) + p - y1) % p)

/-- e times a point, over k bits of e. -/
def ecMul (e : Nat) (a : Option (Nat × Nat)) : Nat → Option (Nat × Nat)
  | 0 => none
  | k + 1 =>
    let r := ecMul (e / 2) a k
    if e % 2 = 1 then ecAdd (ecAdd r r) a else ecAdd r r

/-- ECDSA over P-384 with SHA-384: key x, y and signature r, s of 48 bytes each, most significant first. -/
def ecdsa384 (key sig msg : List Byte) : Bool :=
  let x := beNat (slice key 0 48); let y := beNat (slice key 48 48)
  let r := beNat (slice sig 0 48); let s := beNat (slice sig 48 48)
  let p := p384P; let n := p384N
  if r = 0 ∨ n ≤ r ∨ s = 0 ∨ n ≤ s ∨ p ≤ x ∨ p ≤ y ∨ y * y % p ≠ (x * x * x + (p - 3) * x + p384B) % p then false
  else
    let z := beNat (sha384 msg)
    let w := invMod n s
    match ecAdd (ecMul (z * w % n) p384G 384) (ecMul (r * w % n) (some (x, y)) 384) with
    | none => false
    | some (vx, _) => decide (vx % n = r)

end Sys2Proof.Machine
end

