-- ==== Sys2Proof/Machine/Codec.lean ====
section
/-! DEFINITION. The slug codec: the methods of R242 to R247, the decoder and its output-limit guard (R248 to R250), the encoder's choice (R251, R252), the slug header (Table 7-1), and Makeready pages (R174, R175). -/

namespace Sys2Proof.Machine

open Sys2Proof

/-- The bytes of L-codes, each most significant byte first. -/
def codeBytes (v : List Half) : List Byte := (v.map fun c => beBytes 2 c.toNat).flatten

/-- CRC of R236, the proof value of R228; 0 over no lamps. -/
def crcCodes (v : List Half) : Word := if v = [] then 0 else crc32c (codeBytes v)

/-- The n bits of a number, most significant first. -/
def natBits (n v : Nat) : List Bool := (List.range n).map fun k => decide (v / 2 ^ (n - 1 - k) % 2 = 1)

/-- The number whose bits are given most significant first. -/
def bitsNat (l : List Bool) : Nat := l.foldl (fun a b => 2 * a + b2n b) 0

/-- The bits of bytes, most significant bit of each first (R6). -/
def byteBits (l : List Byte) : List Bool := (l.map fun b => natBits 8 b.toNat).flatten

/-- Bits as bytes, most significant bit of each first, padded with 0 to a whole byte (R234). -/
def packBits (l : List Bool) : List Byte :=
  (List.range (ceilDiv l.length 8)).map fun k => BitVec.ofNat 8 (sumN ((List.range 8).map fun j => b2n (nthD false l (8 * k + j)) * 2 ^ (7 - j)))

/-! ### Predictors -/

/-- PRED of Table 7-4. -/
inductive Pred where
  | prev
  | left
  | up (d : Nat)
  | none_
  deriving DecidableEq, Repr

/-- The prediction of lamp i from the lamps before it and the reference (R245); n is lamps per pixel. -/
def predict (p : Pred) (n : Nat) (v ref : Array Half) (i : Nat) : Half :=
  match p with
  | .prev => ref.getD i 0
  | .left => if n ≤ i then v.getD (i - n) 0 else 0
  | .up d => if d ≤ i then v.getD (i - d) 0 else 0
  | .none_ => 0

/-- z of a residual (R245). -/
def zOf (r : Half) : Nat := if r.toNat < 32768 then 2 * r.toNat else 2 * (65536 - r.toNat) - 1

/-- The residual of z. -/
def rOf (z : Nat) : Half := if z % 2 = 0 then BitVec.ofNat 16 (z / 2) else BitVec.ofNat 16 (65536 - (z + 1) / 2)

/-- Bits of a residual code (R246). -/
def zLen (k z : Nat) : Nat := if z / 2 ^ k < 16 then z / 2 ^ k + 1 + k else 32

/-- A residual code (R246). -/
def zBits (k z : Nat) : List Bool :=
  if z / 2 ^ k < 16 then List.replicate (z / 2 ^ k) true ++ [false] ++ natBits k (z % 2 ^ k) else List.replicate 16 true ++ natBits 16 z

/-- Candidates of a strip, in order (R252): line is LINE of the run holding the slug's lamp 0. -/
def candidates (refOk : Bool) (n line : Nat) : List Pred :=
  (if refOk then [Pred.prev] else []) ++ [.left] ++ (if line * n < 512 then [.up (line * n)] else []) ++ [.none_] ++
    ((List.range (511 / n + 1)).filter fun k => decide (2 ≤ k) && decide (k * n ≠ line * n)).map fun k => .up (k * n)

/-- The z values of strip j under a predictor. -/
def stripZ (p : Pred) (n : Nat) (v ref : Array Half) (j : Nat) : List Nat :=
  (List.range 32).map fun i => zOf (v.getD (32 * j + i) 0 - predict p n v ref (32 * j + i))

/-- K of a strip and the bits of its codes: 15 when every residual is 0, otherwise the smallest K of fewest bits (R251). -/
def bestK (z : List Nat) : Nat × Nat :=
  if z.all fun x => x == 0 then (15, 0)
  else (List.range 15).foldl (fun b k => let t := sumN (z.map (zLen k)); if t < b.2 then (k, t) else b) (0, sumN (z.map (zLen 0)))

/-- The best candidate of a strip: predictor, K and bits (strip_bits of R251). -/
def bestStrip (cs : List Pred) (n : Nat) (v ref : Array Half) (j : Nat) : Option (Pred × Nat × Nat) :=
  cs.foldl (fun b c =>
    let (k, t) := bestK (stripZ c n v ref j)
    let t := t + 6 + (match c with | .up _ => 9 | _ => 0)
    match b with
    | none => some (c, k, t)
    | some x => if t < x.2.2 then some (c, k, t) else b) none

/-- The bits of one strip (Table 7-4). -/
def stripBits (n : Nat) (v ref : Array Half) (j : Nat) (x : Pred × Nat × Nat) : List Bool :=
  let (p, k, _) := x
  (match p with | .prev => natBits 2 0 | .left => natBits 2 1 | .up d => natBits 2 2 ++ natBits 9 d | .none_ => natBits 2 3) ++ natBits 4 k ++
    (if k = 15 then [] else ((stripZ p n v ref j).map (zBits k)).flatten)

/-- The payload of the predictive method at a level (R251, R252). -/
def predictive (refOk : Bool) (level n line : Nat) (v ref : Array Half) : List Bool :=
  let cs := (candidates refOk n line).take (2 ^ level)
  ((List.range 16).map fun j => match bestStrip cs n v ref j with | some x => stripBits n v ref j x | none => []).flatten

/-! ### Runs -/

/-- Lamps from i on that equal x. -/
def sameRun (x : Half) : List Half → Nat
  | [] => 0
  | y :: t => if y = x then sameRun x t + 1 else 0

/-- Lamps that equal their reference. -/
def prevRun : List Half → List Half → Nat
  | x :: t, y :: u => if x = y then prevRun t u + 1 else 0
  | _, _ => 0

/-- The run method's payload (R247, R251): greedy, PREV on a tie. -/
def runBits (refOk : Bool) : Nat → List Half → List Half → List Bool
  | 0, _, _ => []
  | _ + 1, [], _ => []
  | f + 1, x :: t, ref =>
    let a := sameRun x (x :: t)
    let b := if refOk then prevRun (x :: t) ref else 0
    if a ≤ b then [true] ++ natBits 9 (b - 1) ++ runBits refOk f ((x :: t).drop b) (ref.drop b)
    else [false] ++ natBits 9 (a - 1) ++ natBits 16 x.toNat ++ runBits refOk f ((x :: t).drop a) (ref.drop a)

/-- The literal payload (R242). -/
def literal (v : List Half) : List Bool := (v.map fun c => natBits 16 c.toNat).flatten

/-- A coded slug: METHOD, LENGTH, payload, and whether it uses the reference. -/
structure Coded where
  method : Nat
  payload : List Bool
  usesRef : Bool
  deriving DecidableEq, Repr

/-- Whether a method's payload refers to the reference. -/
def runUsesRef (refOk : Bool) : Nat → List Half → List Half → Bool
  | 0, _, _ => false
  | _ + 1, [], _ => false
  | f + 1, x :: t, ref =>
    let a := sameRun x (x :: t)
    let b := if refOk then prevRun (x :: t) ref else 0
    if a ≤ b then true else runUsesRef refOk f ((x :: t).drop a) (ref.drop a)

/-- The encoder's choice (R251). -/
def encodeSlug (refOk noStanding : Bool) (level n line : Nat) (v ref : List Half) : Coded :=
  if refOk && !noStanding && v == ref then { method := 1, payload := [], usesRef := true }
  else
    let va := v.toArray
    let ra := ref.toArray
    let r := runBits refOk 512 v ref
    let p := predictive refOk level n line va ra
    let bestR := decide (r.length < 8192)
    let limit := if bestR then r.length else 8192
    if p.length < limit then
      let cs := (candidates refOk n line).take (2 ^ level)
      { method := 2, payload := p, usesRef := (List.range 16).any fun j => match bestStrip cs n va ra j with | some (.prev, _, _) => true | _ => false }
    else if bestR then { method := 3, payload := r, usesRef := runUsesRef refOk 512 v ref }
    else { method := 0, payload := literal v, usesRef := false }

/-! ### Decoding with the guard -/

/-- n bits from the front, most significant first. -/
def takeBits (n : Nat) (l : List Bool) : Option (Nat × List Bool) :=
  if n ≤ l.length then some (bitsNat (l.take n), l.drop n) else none

/-- One residual code (R246, R248). -/
def takeZ (k : Nat) (l : List Bool) : Option (Nat × List Bool) :=
  let q := (l.take 16).takeWhile id
  if q.length = 16 then takeBits 16 (l.drop 16)
  else
    match takeBits (k + 1) (l.drop q.length) with
    | some (x, t) => let z := q.length * 2 ^ k + x % 2 ^ k; if z ≤ 65535 then some (z, t) else none
    | none => none

/-- The 32 lamps of a strip. -/
def takeLamps (p : Pred) (k n : Nat) (ref : Array Half) : Nat → Array Half → List Bool → Option (Array Half × List Bool)
  | 0, v, l => some (v, l)
  | m + 1, v, l =>
    let base := predict p n v ref v.size
    if k = 15 then takeLamps p k n ref m (v.push base) l
    else
      match takeZ k l with
      | some (z, t) => takeLamps p k n ref m (v.push (base + rOf z)) t
      | none => none

/-- The predictor a strip names; none when it is not permitted (R248). -/
def takePred (ref : Option (Array Half)) (l : List Bool) : Option (Pred × List Bool) :=
  match takeBits 2 l with
  | none => none
  | some (0, t) => if ref.isSome then some (.prev, t) else none
  | some (1, t) => some (.left, t)
  | some (2, t) =>
    match takeBits 9 t with
    | some (d, u) => if d = 0 then none else some (.up d, u)
    | none => none
  | some (_, t) => some (.none_, t)

/-- The strips of a predictive payload. -/
def takeStrips (n : Nat) (ref : Option (Array Half)) : Nat → Array Half → List Bool → Option (List Half)
  | 0, v, l => if l = [] then some v.toList else none
  | m + 1, v, l =>
    match takePred ref l with
    | none => none
    | some (p, t) =>
      match takeBits 4 t with
      | none => none
      | some (k, u) =>
        match takeLamps p k n (ref.getD #[]) 32 v u with
        | some (v, w) => takeStrips n ref m v w
        | none => none

/-- The entries of a run payload. -/
def takeRuns (ref : Option (List Half)) : Nat → List Half → List Bool → Option (List Half)
  | 0, _, _ => none
  | f + 1, v, l =>
    if 512 ≤ v.length then (if l = [] then some v else none)
    else
      match takeBits 10 l with
      | none => none
      | some (x, t) =>
        let len := x % 512 + 1
        if 512 < v.length + len then none
        else if 512 ≤ x then
          match ref with
          | some r => takeRuns ref f (v ++ (r.drop v.length).take len) t
          | none => none
        else
          match takeBits 16 t with
          | some (y, u) => takeRuns ref f (v ++ List.replicate len (BitVec.ofNat 16 y)) u
          | none => none

/-- A decoded payload of LENGTH bits, or none where R248 rejects it; ref is the reference when one may be used. -/
def decodeSlug (method n : Nat) (payload : List Bool) (ref : Option (List Half)) : Option (List Half) :=
  if method = 0 then (if payload.length = 8192 then some ((groups 16 512 payload).map fun b => BitVec.ofNat 16 (bitsNat b)) else none)
  else if method = 1 then (if payload = [] then ref else none)
  else if 8191 < payload.length then none
  else if method = 2 then takeStrips n (ref.map List.toArray) 16 #[] payload
  else takeRuns ref 513 [] payload

/-! ### Headers and Makeready pages -/

/-- The slug header as a 128-bit number, header bit 127 transmitted first (Table 7-1). -/
def headerBits (leaf slug imp gen method level age len flags : Nat) (crc : Word) : BitVec 128 :=
  BitVec.ofNat 128 (leaf / 64 % 16 * 2 ^ 124 + leaf % 64 * 2 ^ 118 + slug % 4096 * 2 ^ 106 + imp % 65536 * 2 ^ 90 + gen % 16 * 2 ^ 86 + method % 4 * 2 ^ 84 +
    level % 8 * 2 ^ 81 + age % 256 * 2 ^ 73 + len % 16384 * 2 ^ 59 + flags % 128 * 2 ^ 52 + crc.toNat)

/-- One block of a page: its 512 words and the rest of the input, or none where it is malformed (R175, R249, R250). -/
def takeBlock (no : Nat) (l : List Byte) : Option (List Half × List Byte) :=
  if l.length < 16 then none
  else
    let h : BitVec 128 := BitVec.ofNat 128 (beNat (l.take 16))
    let len := bits h 59 14
    let n := (len + 7) / 8
    let body := (l.drop 16).take n
    if bits h 118 10 ≠ 0 ∨ bits h 90 16 ≠ 0 ∨ bits h 73 8 ≠ 0 ∨ bits h 106 12 ≠ no ∨ body.length < n ∨ bits h 84 2 = 1 then none
    else
      match decodeSlug (bits h 84 2) 1 ((byteBits body).take len) none with
      | some v => if crcCodes v = BitVec.ofNat 32 (bits h 0 32) then some (v, l.drop (16 + n)) else none
      | none => none

/-- The blocks of a page from block no on, with nothing after the last. -/
def takePage : Nat → Nat → List Byte → Option (List Half)
  | 0, _, l => if l = [] then some [] else none
  | k + 1, no, l =>
    match takeBlock no l with
    | none => none
    | some (v, t) => (takePage k (no + 1) t).map (v ++ ·)

/-- A page decompressed: 65,536 bytes (R174, R175); a compressed page longer than 66,560 bytes is malformed. -/
def decompressPage (l : List Byte) : Option (List Byte) := if 66560 < l.length then none else (takePage 64 0 l).map codeBytes

/-- A lamp record: c_R, c_G, c_B and the offset (R174). -/
def pageRecord (pg : List Byte) (i : Nat) : Int × Int × Int × Int :=
  let g := beNat (slice pg (64 + 15 * (i / 2)) 15)
  let r := if i % 2 = 0 then g / 2 ^ 60 else g % 2 ^ 60
  (sgn 16 (r / 2 ^ 44), sgn 16 (r / 2 ^ 28), sgn 16 (r / 2 ^ 12), sgn 12 r)

/-- Header fields of a page (Table 5-4). -/
def pageLeaf (pg : List Byte) : Nat := beNat (slice pg 0 2)
def pageNo (pg : List Byte) : Nat := beNat (slice pg 2 2)
def pageLamps (pg : List Byte) : Nat := beNat (slice pg 4 2)
def pageN (pg : List Byte) : Nat := beNat (slice pg 6 1)

/-- A page consistent with its place: LEAF, PAGE, LAMPS, N, reserved bytes and, past LAMPS, records of 0 (R174, R179). -/
def pageOk (leaf p pages n : Nat) (pg : List Byte) : Bool :=
  decide (pageLeaf pg = leaf ∧ pageNo pg = p ∧ pageN pg = n ∧ 1 ≤ n ∧ n ≤ 4) &&
    decide (if p + 1 < pages then pageLamps pg = 8192 else 1 ≤ pageLamps pg ∧ pageLamps pg ≤ 8192) &&
    ((slice pg 7 57).all fun b => b == 0) && ((slice pg 61504 4032).all fun b => b == 0) &&
    (List.range (8192 - pageLamps pg)).all fun k => let g := beNat (slice pg (64 + 15 * ((pageLamps pg + k) / 2)) 15)
      decide ((if (pageLamps pg + k) % 2 = 0 then g / 2 ^ 60 else g % 2 ^ 60) = 0)

end Sys2Proof.Machine
end

