-- ==== Sys2Proof/Machine/Regs.lean ====
section
/-! DEFINITION. The register map of BAR0 (R5, R7, R8, R46 and the register tables of every chapter): offsets, access codes, reset values, implemented bits, and the values a register stores in place of a value out of its range. -/

namespace Sys2Proof.Machine

open Sys2Proof

/-- The access codes of Table 0-3; part is a partner of a ROL register (R511), whose reads return its shadow. -/
inductive Access where
  | ro | rw | wo | w1c | rwl | rol | part
  deriving DecidableEq, Repr

/-- One row of a register table: n registers from lo, step bytes apart, with reset value reset + k·inc for the k-th and mask of the bits software writes. -/
structure RegRow where
  lo : Nat
  n : Nat := 1
  step : Nat := 4
  acc : Access
  reset : Nat := 0
  inc : Nat := 0
  mask : Nat := 0
  deriving DecidableEq, Repr

/-- Tables 2-1 and 17-5; EVQ and TRQ are rows 16 and 17 of the completion queues. -/
def regsHif : List RegRow :=
  [{ lo := 0x000, acc := .ro, reset := 0x4B310648 }, { lo := 0x004, acc := .ro, reset := 0x000100B1 }, { lo := 0x008, acc := .ro },
   { lo := 0x00C, acc := .rw, mask := 3 }, { lo := 0x010, acc := .rw, mask := 0xFFFFF000 }, { lo := 0x014, acc := .rw, mask := 0xFFFFFFFF },
   { lo := 0x018, acc := .rw, reset := 4, mask := 0x1FF }, { lo := 0x01C, acc := .w1c, mask := 0xFF }, { lo := 0x020, acc := .rw, mask := 1 },
   { lo := 0x024, acc := .ro }, { lo := 0x028, acc := .ro }, { lo := 0x030, acc := .ro }, { lo := 0x034, acc := .ro },
   { lo := 0x040, n := 8, acc := .wo, mask := 0xFFFFFFFF }, { lo := 0x060, acc := .wo, mask := 0xFFFFFFFF }, { lo := 0x064, acc := .rwl, mask := 1 },
   { lo := 0x068, acc := .rol }, { lo := 0x06C, acc := .part },
   { lo := 0x100, n := 8, step := 16, acc := .rw, mask := 0xFFFFF007 }, { lo := 0x104, n := 8, step := 16, acc := .rw, mask := 0xFFFFFFFF },
   { lo := 0x108, n := 8, step := 16, acc := .rw, mask := 0xFFFFF000 }, { lo := 0x10C, n := 8, step := 16, acc := .rw, mask := 0xFFFFFFFF },
   { lo := 0x200, n := 16, step := 16, acc := .rw, mask := 0xFFFFF000 }, { lo := 0x204, n := 16, step := 16, acc := .rw, mask := 0xFFFFFFFF },
   { lo := 0x208, n := 16, step := 16, acc := .rw, reset := 0xC0, inc := 0x100, mask := 0xFFF }, { lo := 0x20C, n := 16, step := 16, acc := .ro },
   { lo := 0x300, n := 18, step := 16, acc := .rw, mask := 0xFFFFF000 }, { lo := 0x304, n := 18, step := 16, acc := .rw, mask := 0xFFFFFFFF },
   { lo := 0x308, n := 18, step := 16, acc := .rw, mask := 0x3F }, { lo := 0x30C, n := 18, step := 16, acc := .rw, reset := 0x100, inc := 1, mask := 0xFFFF3F3F }]

/-- Table 3-2. -/
def regsIng : List RegRow :=
  [{ lo := 0x1000, acc := .ro }, { lo := 0x1004, acc := .rw, reset := 0xA02, mask := 0xFF07 }, { lo := 0x1020, n := 8, acc := .rw, mask := 0x13F },
   { lo := 0x1100, n := 64, step := 16, acc := .ro }, { lo := 0x1104, n := 64, step := 16, acc := .ro },
   { lo := 0x1108, n := 64, step := 16, acc := .ro }, { lo := 0x110C, n := 64, step := 16, acc := .ro },
   { lo := 0x1800, n := 32, step := 64, acc := .rw, mask := 0xFFFF }, { lo := 0x1804, n := 32, step := 64, acc := .ro },
   { lo := 0x1808, n := 32, step := 64, acc := .rw, mask := 0xFFFFFFFF }, { lo := 0x180C, n := 32, step := 64, acc := .rw, mask := 0xFFFF },
   { lo := 0x1810, n := 32, step := 64, acc := .rw, mask := 0xFFFFFFFF },
   { lo := 0x1820, n := 32, step := 64, acc := .rw, mask := 0xFFFFFFFF }, { lo := 0x1824, n := 32, step := 64, acc := .rw, mask := 0xFFFFFFFF },
   { lo := 0x1828, n := 32, step := 64, acc := .rw, mask := 0xFFFFFFFF }, { lo := 0x182C, n := 32, step := 64, acc := .rw, mask := 0xFFFFFFFF }]

/-- Table 4-10. -/
def regsCmp : List RegRow :=
  [{ lo := 0x2000, acc := .ro }, { lo := 0x2004, acc := .rw, mask := 1 }, { lo := 0x2008, acc := .rw, mask := 0xFFFFFFFF },
   { lo := 0x200C, acc := .rw, mask := 0xFFFF }, { lo := 0x2010, acc := .rw, reset := 0x00320320, mask := 0xFFFFFFFF }, { lo := 0x2014, acc := .wo, mask := 1 },
   { lo := 0x2018, acc := .ro }, { lo := 0x201C, acc := .ro }, { lo := 0x2020, acc := .ro, reset := 0x3D090 }, { lo := 0x2024, acc := .ro, reset := 0xDFFF0000 },
   { lo := 0x2028, acc := .ro, reset := 2 }, { lo := 0x202C, acc := .ro }, { lo := 0x2040, n := 16, acc := .ro, reset := 1 }, { lo := 0x2080, n := 2, acc := .ro },
   { lo := 0x2100, n := 8, step := 16, acc := .rw, reset := 0x000503E8, mask := 0xFFFFFFFF }, { lo := 0x2104, n := 8, step := 16, acc := .rw, reset := 0x40000, mask := 0xFFFFF },
   { lo := 0x2108, n := 8, step := 16, acc := .rw, reset := 0xCB, mask := 0xFFFF }, { lo := 0x2400, n := 64, acc := .ro }]

/-- Table 5-8. -/
def regsLmp : List RegRow :=
  [{ lo := 0x3000, acc := .ro }, { lo := 0x3004, acc := .rw, reset := 6, mask := 7 }, { lo := 0x3008, acc := .ro },
   { lo := 0x300C, acc := .rw, reset := 0x2000, mask := 0xFFFF }, { lo := 0x3010, acc := .rw, reset := 0x0050293C, mask := 0xFFFFFF },
   { lo := 0x3014, acc := .rw, reset := 0x80, mask := 0xFF }, { lo := 0x3018, acc := .rw, reset := 0x401, mask := 0xFFFF },
   { lo := 0x301C, acc := .rw, reset := 0x100, mask := 0x3FF }, { lo := 0x3020, acc := .ro }, { lo := 0x3024, acc := .ro },
   { lo := 0x3040, n := 4, acc := .ro }, { lo := 0x3050, n := 4, acc := .ro }, { lo := 0x3080, acc := .rw, mask := 0x3FF },
   { lo := 0x3084, n := 3, acc := .ro }, { lo := 0x3090, acc := .rol }, { lo := 0x3094, acc := .part },
   { lo := 0x3098, acc := .ro, reset := 0x80808080 }, { lo := 0x309C, acc := .ro, reset := 0x80 }, { lo := 0x30A0, n := 2, acc := .ro }]

/-- Table 6-8. -/
def regsImp : List RegRow :=
  [{ lo := 0x4000, acc := .ro }, { lo := 0x4004, acc := .rw, mask := 1 }, { lo := 0x4008, acc := .wo, mask := 1 }, { lo := 0x400C, acc := .ro },
   { lo := 0x4010, acc := .rol }, { lo := 0x4014, n := 4, acc := .part }, { lo := 0x4024, acc := .rw, reset := 0x108, mask := 0x1FF },
   { lo := 0x4028, n := 3, acc := .ro }, { lo := 0x4080, acc := .rw, mask := 0x3FF }, { lo := 0x4084, acc := .rw, mask := 0x1FFF3F },
   { lo := 0x4088, acc := .rw, mask := 0xFFFFFFFF }, { lo := 0x408C, acc := .rw, mask := 0x0FFF0FFF }, { lo := 0x4090, acc := .ro },
   { lo := 0x4100, n := 16, step := 16, acc := .rw, mask := 0xFFFF0FFF }, { lo := 0x4104, n := 16, step := 16, acc := .rw, mask := 0x1FFF1FFF },
   { lo := 0x4108, n := 16, step := 16, acc := .rw, mask := 0x1FFF }]

/-- Table 7-7. -/
def regsSlg : List RegRow :=
  [{ lo := 0x5000, acc := .ro }, { lo := 0x5004, acc := .rw, reset := 5, mask := 0x1F }, { lo := 0x5008, acc := .rw, reset := 0x100, mask := 0xFFF },
   { lo := 0x500C, n := 7, acc := .ro }, { lo := 0x5028, acc := .rol }, { lo := 0x502C, acc := .part },
   { lo := 0x5040, n := 8, acc := .ro, reset := 1 }, { lo := 0x5060, acc := .ro }, { lo := 0x5080, n := 16, acc := .ro }]

/-- Tables 8-5 to 8-9. -/
def regsLnq : List RegRow :=
  [{ lo := 0x6000, acc := .ro }, { lo := 0x6004, acc := .rw, reset := 0x100030, mask := 0x0FFF0FFF }, { lo := 0x6008, acc := .rw, reset := 0x10064, mask := 0x103FF },
   { lo := 0x6040, n := 16, acc := .rw, mask := 0x3F }, { lo := 0x6080, n := 16, acc := .rw, mask := 0x17F7F }, { lo := 0x60C0, acc := .rw, mask := 0x7F },
   { lo := 0x60C4, acc := .rw, mask := 0x7F7F7F7F }, { lo := 0x60C8, acc := .rw, mask := 0x7F }, { lo := 0x60CC, acc := .rw, mask := 0x801F1F1F },
   { lo := 0x6400, n := 80, step := 32, acc := .rw, mask := 7 }, { lo := 0x6404, n := 80, step := 32, acc := .ro },
   { lo := 0x6408, n := 80, step := 32, acc := .ro, reset := 0x08000800 }, { lo := 0x640C, n := 80, step := 32, acc := .ro }, { lo := 0x6410, n := 80, step := 32, acc := .ro }]

/-- Tables 9-19 and 10-6. -/
def regsQpr : List RegRow :=
  [{ lo := 0x7000, acc := .ro }, { lo := 0x7004, acc := .rw, reset := 100, mask := 0x3FF }, { lo := 0x7008, acc := .rw, reset := 0x190064, mask := 0xFF03FF },
   { lo := 0x7080, acc := .rw, mask := 0x3FF }, { lo := 0x7100, n := 16, step := 32, acc := .rw, mask := 0x7F }, { lo := 0x7104, n := 16, step := 32, acc := .ro },
   { lo := 0x7108, n := 16, step := 32, acc := .rol }, { lo := 0x710C, n := 16, step := 32, acc := .part }, { lo := 0x7110, n := 16, step := 32, acc := .ro },
   { lo := 0x7114, n := 16, step := 32, acc := .ro }, { lo := 0x7118, n := 16, step := 32, acc := .ro }, { lo := 0x711C, n := 16, step := 32, acc := .ro },
   { lo := 0x7300, n := 16, step := 16, acc := .ro, reset := 0x00FF00FF }, { lo := 0x7304, n := 16, step := 16, acc := .ro },
   { lo := 0x7308, n := 16, step := 16, acc := .ro, reset := 0x00FFFF00 }, { lo := 0x730C, n := 16, step := 16, acc := .ro },
   { lo := 0x7400, n := 2, acc := .ro }, { lo := 0x7408, acc := .rol }, { lo := 0x740C, acc := .part }, { lo := 0x7410, n := 3, acc := .ro },
   { lo := 0x741C, acc := .ro, reset := 0xFFFF }, { lo := 0x7420, n := 3, acc := .ro }]

/-- Tables 11-6 and 11-7. -/
def regsTim : List RegRow :=
  [{ lo := 0x8000, acc := .ro }, { lo := 0x8004, acc := .rw, reset := 0x7F00, mask := 0x7F0F }, { lo := 0x8008, acc := .rw, mask := 0xFFFFFFFF }, { lo := 0x800C, acc := .wo, mask := 1 },
   { lo := 0x8010, n := 4, acc := .ro }, { lo := 0x8020, n := 2, acc := .rw, mask := 0xFFFFFFFF }, { lo := 0x8028, acc := .rw, mask := 0x3FFFFFFF },
   { lo := 0x8030, n := 3, acc := .ro }, { lo := 0x803C, acc := .rol }, { lo := 0x8040, acc := .part }, { lo := 0x8044, acc := .ro },
   { lo := 0x8050, n := 2, acc := .rw, mask := 0xFFFFFFFF }, { lo := 0x8058, acc := .rw, mask := 0x3FFFFFFF }, { lo := 0x805C, acc := .wo, mask := 1 }, { lo := 0x8060, n := 2, acc := .ro },
   { lo := 0x8100, n := 8, step := 32, acc := .rw, mask := 0xFFFFFFFF }, { lo := 0x8104, n := 8, step := 32, acc := .rw, mask := 0xFFFFFFFF },
   { lo := 0x8108, n := 8, step := 32, acc := .rw, mask := 0x3FFFF }, { lo := 0x810C, n := 8, step := 32, acc := .rw, mask := 0xFFFFFFFF },
   { lo := 0x8110, n := 8, step := 32, acc := .rw, mask := 0xFFFFFFFF }, { lo := 0x8114, n := 8, step := 32, acc := .rw, mask := 0xFFFFFFFF },
   { lo := 0x8118, n := 8, step := 32, acc := .rw, mask := 0xFFFFFFFF }, { lo := 0x8200, n := 32, acc := .rw, mask := 0xFFFF0001 },
   { lo := 0x8280, n := 32, acc := .rw, mask := 0xFFFF0001 }, { lo := 0x8300, n := 4, step := 32, acc := .rw, reset := 0xA0100, mask := 0xFFFF03 },
   { lo := 0x8304, n := 4, step := 32, acc := .rw, mask := 0xFFFFFFFF }, { lo := 0x8308, n := 4, step := 32, acc := .rw, mask := 0xFFFFFFFF },
   { lo := 0x830C, n := 4, step := 32, acc := .rw, mask := 0xFFFFFFFF }, { lo := 0x8310, n := 4, step := 32, acc := .rw, mask := 0x3FFFFFFF },
   { lo := 0x8314, n := 4, step := 32, acc := .ro }, { lo := 0x8400, n := 32, acc := .ro }]

/-- Tables 11-8, 12-3, 13-12 and 13-14. -/
def regsMid : List RegRow :=
  [{ lo := 0x9000, acc := .ro, reset := 0x1F }, { lo := 0x9004, n := 2, acc := .ro }, { lo := 0x9040, n := 10, acc := .ro, reset := 0xF }, { lo := 0x9080, n := 10, acc := .ro },
   { lo := 0xA000, acc := .ro }, { lo := 0xA004, acc := .rw, reset := 0x1801, mask := 0xFF01 }, { lo := 0xA008, acc := .rw, mask := 1 },
   { lo := 0xA00C, acc := .rw, reset := 0x800, mask := 0xFFFF }, { lo := 0xA010, acc := .rw, reset := 0x28, mask := 0xFF }, { lo := 0xA014, n := 2, acc := .ro },
   { lo := 0xA020, n := 2, acc := .ro }, { lo := 0xA028, acc := .rol }, { lo := 0xA02C, acc := .part }, { lo := 0xA030, acc := .ro },
   { lo := 0xA080, acc := .rw, mask := 0x3F }, { lo := 0xA084, acc := .ro, reset := 1 }, { lo := 0xA088, n := 4, acc := .ro }, { lo := 0xA098, acc := .wo, mask := 1 },
   { lo := 0xB000, n := 4, acc := .ro }, { lo := 0xB010, acc := .rw, mask := 0xFFFF }, { lo := 0xB014, acc := .rw, mask := 3 },
   { lo := 0xB020, acc := .rw, mask := 0x7FF }, { lo := 0xB024, n := 2, acc := .ro },
   { lo := 0xC000, acc := .ro }, { lo := 0xC004, acc := .wo, mask := 1 }, { lo := 0xC008, n := 3, acc := .ro }, { lo := 0xC014, acc := .rw, mask := 0x1F },
   { lo := 0xC018, acc := .ro }, { lo := 0xC020, n := 5, acc := .ro }]

/-- Tables 14-6, 15-9 and 16-4. -/
def regsEnd : List RegRow :=
  [{ lo := 0xD000, acc := .ro }, { lo := 0xD004, acc := .wo, mask := 1 }, { lo := 0xD008, acc := .rw, reset := 0x20010, mask := 0xFF00FF }, { lo := 0xD00C, acc := .rw, mask := 0x7F },
   { lo := 0xD010, acc := .ro }, { lo := 0xD014, acc := .rol }, { lo := 0xD018, acc := .part }, { lo := 0xD020, acc := .rol }, { lo := 0xD024, acc := .part },
   { lo := 0xD040, acc := .rw, mask := 0x7F }, { lo := 0xD044, acc := .rw, reset := 0xFFFFFFFF, mask := 0xFFFFFFFF }, { lo := 0xD048, acc := .rw, mask := 0xF }, { lo := 0xD04C, acc := .ro },
   { lo := 0xD060, acc := .rw, mask := 0x3F }, { lo := 0xD064, acc := .ro }, { lo := 0xD080, acc := .rw, mask := 0x1F }, { lo := 0xD084, acc := .rw, mask := 0xF },
   { lo := 0xD0C0, acc := .rw, mask := 0x3F }, { lo := 0xD0C4, acc := .ro }, { lo := 0xD0C8, acc := .wo, mask := 1 }, { lo := 0xD0D0, n := 3, acc := .ro },
   { lo := 0xE000, n := 9, acc := .ro }, { lo := 0xE024, acc := .ro }, { lo := 0xE028, acc := .rol }, { lo := 0xE02C, acc := .part }, { lo := 0xE030, acc := .ro },
   { lo := 0xE040, n := 12, acc := .rw, mask := 0xFFFFFFFF }, { lo := 0xE070, acc := .wo, mask := 0xFFFFFFFF }, { lo := 0xE074, acc := .wo, mask := 3 },
   { lo := 0xE080, n := 2, acc := .ro },
   { lo := 0xF000, acc := .ro }, { lo := 0xF004, acc := .rw, reset := 0x3F, mask := 0x3F }, { lo := 0xF010, acc := .rw, mask := 0x7FF }, { lo := 0xF014, acc := .rol }, { lo := 0xF018, acc := .part }]

/-- The rows of a block of R8, by its number 0 to 15. -/
def regRows (block : Nat) : List RegRow :=
  if block = 0 then regsHif else if block = 1 then regsIng else if block = 2 then regsCmp else if block = 3 then regsLmp
  else if block = 4 then regsImp else if block = 5 then regsSlg else if block = 6 then regsLnq else if block = 7 then regsQpr
  else if block = 8 then regsTim else if block < 13 then regsMid else regsEnd

/-- The row of a register, if the offset holds one. -/
def regRow (off : Nat) : Option RegRow :=
  (regRows (off / 4096)).find? fun r => decide (r.lo ≤ off) && decide ((off - r.lo) % r.step = 0) && decide ((off - r.lo) / r.step < r.n)

/-- The access code of an offset; an offset no register occupies reads 0 and ignores writes (R46). -/
def regAccess (off : Nat) : Option Access := (regRow off).map (·.acc)

/-- The reset value of a register. -/
def rwReset (off : Nat) : Word :=
  match regRow off with
  | some r => BitVec.ofNat 32 (r.reset + (off - r.lo) / r.step * r.inc)
  | none => 0

/-- The bits software writes. -/
def rwMask (off : Nat) : Word :=
  match regRow off with
  | some r => BitVec.ofNat 32 r.mask
  | none => 0

/-- The values stored in place of values out of range: R48, R201, IMP_OFRZ, SLG_POOL, LNQ_IDLE, QPR_CTRL, QPR_RING, R424 and MEM_CTRL. -/
def regClamp (off : Nat) (v : Word) : Word :=
  if off = 0x018 then setBits v 0 9 (clampN 1 400 (bits v 0 9))
  else if off = 0x3014 then setBits v 0 8 (min 128 (bits v 0 8))
  else if off = 0x301C then setBits v 0 10 (clampN 16 704 (bits v 0 10))
  else if off = 0x4024 then setBits v 0 8 (max 2 (bits v 0 8))
  else if off = 0x5008 then setBits v 0 12 (clampN 16 2048 (bits v 0 12))
  else if off = 0x6008 then setBits v 0 10 (clampN 10 1000 (bits v 0 10))
  else if off = 0x7004 ∨ off = 0x7008 then setBits v 0 10 (clampN 10 1000 (bits v 0 10))
  else if off = 0xA004 then setBits v 8 8 (clampN 1 168 (bits v 8 8))
  else if off = 0xA00C then setBits v 0 16 (clampN 256 16384 (bits v 0 16))
  else if 0x7100 ≤ off ∧ off < 0x7300 ∧ off % 32 = 0 then setBits v 0 7 (min 64 (bits v 0 7))
  else v

/-- The value a plain RW register holds. -/
def State.reg (s : State) (off : Nat) : Word := tget (rwReset off) s.regs off

/-- A register given a value whole. -/
def State.setReg (off : Nat) (v : Word) (s : State) : State := { s with regs := tput (rwReset off) s.regs off v }

/-- A software write to a plain RW register: implemented bits only (R7), stored within range. -/
def State.writeReg (off : Nat) (v : Word) (s : State) : State :=
  s.setReg off (regClamp off ((s.reg off &&& ~~~(rwMask off)) ||| (v &&& rwMask off)))

/-- Bit i of a register. -/
def State.regBit (s : State) (off i : Nat) : Bool := bit (s.reg off) i

/-- n bits of a register. -/
def State.regBits (s : State) (off lo n : Nat) : Nat := bits (s.reg off) lo n

end Sys2Proof.Machine
end

