-- ==== Sys2Proof/Machine/Ops.lean ====
section
/-! DEFINITION. The operations every command is built from: the tables of units and queues, the passing of time, counters and trace (R513 to R516), entries on the completion queues, EVQ and TRQ (R64 to R67, R76, R79), completions (R75 to R78), and the fault collector (R446 to R456). -/

namespace Sys2Proof.Machine

open Sys2Proof

/-! ### Tables of objects -/

/-- A lane at reset: the fifth lane of each quad is its spare (R260, Table 8-9). -/
def laneDflt (i : Nat) : Lane := if i % 5 = 4 then { unit := .spare } else {}

/-- A unit at reset: engines 16 and 17 and encoder 8 are spares (Tables 4-10 and 7-7). -/
def unitDflt (k : Nat) : UnitRec := if k = 16 ∨ k = 17 ∨ k = 40 then { st := .spare } else {}

def State.lane (s : State) (i : Nat) : Lane := tget (laneDflt i) s.lanes i
def State.setLane (i : Nat) (l : Lane) (s : State) : State := { s with lanes := tput (laneDflt i) s.lanes i l }
def State.modLane (i : Nat) (f : Lane → Lane) (s : State) : State := s.setLane i (f (s.lane i))
def State.quire (s : State) (q : Nat) : Quire := tget {} s.quires q
def State.setQuire (q : Nat) (x : Quire) (s : State) : State := { s with quires := tput {} s.quires q x }
def State.modQuire (q : Nat) (f : Quire → Quire) (s : State) : State := s.setQuire q (f (s.quire q))
def State.leaf (s : State) (k : Nat) : Leaf := tget {} s.leaves k
def State.setLeaf (k : Nat) (x : Leaf) (s : State) : State := { s with leaves := tput {} s.leaves k x }
def State.modLeaf (k : Nat) (f : Leaf → Leaf) (s : State) : State := s.setLeaf k (f (s.leaf k))
def State.layer (s : State) (k : Nat) : Layer := tget {} s.cmp.layers k
def State.setLayer (k : Nat) (x : Layer) (s : State) : State := { s with cmp := { s.cmp with layers := tput {} s.cmp.layers k x } }
def State.modLayer (k : Nat) (f : Layer → Layer) (s : State) : State := s.setLayer k (f (s.layer k))
def State.stream (s : State) (k : Nat) : Stream := tget {} s.ing.streams k
def State.setStream (k : Nat) (x : Stream) (s : State) : State := { s with ing := { s.ing with streams := tput {} s.ing.streams k x } }
def State.modStream (k : Nat) (f : Stream → Stream) (s : State) : State := s.setStream k (f (s.stream k))
def State.port (s : State) (p : Nat) : Port := tget {} s.ing.ports p
def State.setPort (p : Nat) (x : Port) (s : State) : State := { s with ing := { s.ing with ports := tput {} s.ing.ports p x } }
def State.modPort (p : Nat) (f : Port → Port) (s : State) : State := s.setPort p (f (s.port p))
def State.sq (s : State) (q : Nat) : Sq := tget {} s.hif.sqs q
def State.setSq (q : Nat) (x : Sq) (s : State) : State := { s with hif := { s.hif with sqs := tput {} s.hif.sqs q x } }
def State.modSq (q : Nat) (f : Sq → Sq) (s : State) : State := s.setSq q (f (s.sq q))
/-- The queue with kind-14 number k: CQn at 16 + n, EVQ 32, TRQ 33 (Table 13-3). -/
def State.cq (s : State) (k : Nat) : Cq := tget {} s.hif.cqs k
def State.setCq (k : Nat) (x : Cq) (s : State) : State := { s with hif := { s.hif with cqs := tput {} s.hif.cqs k x } }
def State.modCq (k : Nat) (f : Cq → Cq) (s : State) : State := s.setCq k (f (s.cq k))
/-- A pixel engine (k = e) or a slug encoder (k = 32 + e). -/
def State.unit (s : State) (k : Nat) : UnitRec := tget (unitDflt k) s.cal.units k
def State.setUnit (k : Nat) (x : UnitRec) (s : State) : State := { s with cal := { s.cal with units := tput (unitDflt k) s.cal.units k x } }
def State.modUnit (k : Nat) (f : UnitRec → UnitRec) (s : State) : State := s.setUnit k (f (s.unit k))
def State.pc (s : State) (k : Nat) : Pc := tget {} s.mem.pcs k
def State.setPc (k : Nat) (x : Pc) (s : State) : State := { s with mem := { s.mem with pcs := tput {} s.mem.pcs k x } }
def State.modPc (k : Nat) (f : Pc → Pc) (s : State) : State := s.setPc k (f (s.pc k))
def State.cand (s : State) (c : Nat) : Cand := tget {} s.refs.cands c
def State.setCand (c : Nat) (x : Cand) (s : State) : State := { s with refs := { s.refs with cands := tput {} s.refs.cands c x } }
def State.modCand (c : Nat) (f : Cand → Cand) (s : State) : State := s.setCand c (f (s.cand c))
def State.pout (s : State) (o : Nat) : Pout := tget {} s.tim.pouts o
def State.setPout (o : Nat) (x : Pout) (s : State) : State := { s with tim := { s.tim with pouts := tput {} s.tim.pouts o x } }
def State.ring (s : State) (q : Nat) : Ring := tget {} s.slg.rings q
def State.setRing (q : Nat) (x : Ring) (s : State) : State := { s with slg := { s.slg with rings := tput {} s.slg.rings q x } }
def State.modRing (q : Nat) (f : Ring → Ring) (s : State) : State := s.setRing q (f (s.ring q))

/-! ### Time, free values, output -/

/-- Module time in nanoseconds. -/
def State.ns (s : State) : Nat := s.tim.time / nsU

/-- Something the module sends. -/
def State.emit (o : Output) (s : State) : State := { s with out := o :: s.out }

/-- The next free value's number, and the state in which it is used (log entry 1). -/
def State.draw (s : State) : Nat × State := (s.fresh, { s with fresh := s.fresh + 1 })

/-- Counter i rises by n, modulo 2^64 (R513). -/
def State.count (i n : Nat) (s : State) : State :=
  { s with obs := { s.obs with cnt := tput 0 s.obs.cnt i (tget 0 s.obs.cnt i + BitVec.ofNat 64 n) } }

/-! ### Rings in host memory -/

/-- BAR0 offset of a queue's BASE_LO: SQn (k below 16), CQn, EVQ and TRQ. -/
def qBase (k : Nat) : Nat := if k < 16 then 0x200 + 16 * k else 0x300 + 16 * (k - 16)

/-- EN of a queue. -/
def State.qEn (s : State) (k : Nat) : Bool := s.regBit (qBase k + 8) 0

/-- Ring size of a queue (R56). -/
def State.qSize (s : State) (k : Nat) : Nat := 2 ^ s.regBits (qBase k + 8) 1 5

/-- A window in force covers n bytes at a with the permissions asked for (R52, R54). -/
def winCovers (a n : Nat) (rd wr : Bool) (w : Win) : Bool :=
  w.en && (!rd || w.rd) && (!wr || w.wr) && decide (w.base ≤ a) && decide (a + n ≤ w.lim + 1) && decide (a + n ≤ 2 ^ 64)

/-- A buffer lies whole inside one enabled window (R54). -/
def State.bufOk (s : State) (a n : Nat) (rd wr : Bool) : Bool := s.hif.wins.any (winCovers a n rd wr)

/-- Bytes of one ring entry (Table 2-8). -/
def entryBytes (k : Nat) : Nat := if 16 ≤ k ∧ k < 32 ∨ k = 33 then 32 else 64

/-- A ring of n bytes lies inside one enabled window with a permission (R50). -/
def State.ringOk (s : State) (k n : Nat) (rd wr : Bool) : Bool :=
  s.bufOk (bits (s.reg (qBase k)) 12 20 * 4096 + (s.reg (qBase k + 4)).toNat * 2 ^ 32) n rd wr

/-- The ring of a queue lies inside a window now in force: READ for a submission queue, WRITE for the others (R52; log entry 78). -/
def State.ringIn (s : State) (k : Nat) : Bool := s.ringOk k (s.qSize k * entryBytes k) (decide (k < 16)) (decide (16 ≤ k))

/-- Free entries of a queue the module writes; none while it is not enabled, is halted, or lies outside the windows (R52, R56, R64). -/
def State.qFree (s : State) (k : Nat) : Nat :=
  let n := s.qSize k
  let c := s.cq k
  if s.qEn k && !c.halted && s.ringIn k then n - 1 - (c.pi + n - c.ci) % n else 0

/-- The host section can write entries: the link is up with bus mastering, the queue engines are started by ENABLE, and the supervisor runs (Table 2-3, R80, R81; log entry 79). -/
def State.canWrite (s : State) : Bool := s.hif.linkUp && s.hif.busMaster && s.regBit 0x00C 0 && s.sys.supRun

/-- The IRQ register in force (R49). -/
def State.irq (s : State) (k : Nat) : Word := let o := qBase k + 12; tget (rwReset o) s.hif.force o

/-- What word i of the MSI-X table holds at reset: every vector masked. -/
def msixDflt (i : Nat) : Word := if i % 4 = 3 then 1 else 0
def State.msixWord (s : State) (i : Nat) : Word := tget (msixDflt i) s.hif.msixTab i

/-- Vector v may send: MSI-X is enabled and its mask bit is clear (R45, PRESUMED from PCI Express; log entry 29). -/
def State.vectorOpen (s : State) (v : Nat) : Bool := s.hif.msixEn && !bit (s.msixWord (4 * v + 3)) 0

/-- The message of vector v sent as its table entry says, or its pending bit set while it is masked. -/
def State.interrupt (v : Nat) (s : State) : State :=
  if s.vectorOpen v then (s.emit (.msix v ((s.msixWord (4 * v + 1)).append (s.msixWord (4 * v))) (s.msixWord (4 * v + 2)))).count 0x032 1
  else { s with hif := { s.hif with msixPend := setBit s.hif.msixPend v true } }

/-- The messages pending on vectors that may now send. -/
def State.sendPending (s : State) : State :=
  (List.range 32).foldl (fun s v => if bit s.hif.msixPend v && s.vectorOpen v then
    ({ s with hif := { s.hif with msixPend := setBit s.hif.msixPend v false } } : State).interrupt v else s) s

/-- An MSI-X message for queue k (R79). -/
def State.message (k : Nat) (s : State) : State :=
  (s.interrupt (bits (s.irq k) 0 5)).modCq k fun c => { c with unsig := 0, firstAt := none }

/-- The message of R79 when COUNT entries wait or the entry is urgent. -/
def State.signal (k : Nat) (urgent : Bool) (s : State) : State :=
  let w := s.irq k
  if bit w 5 && (urgent || decide (max 1 (bits w 8 6) ≤ (s.cq k).unsig)) && decide (0 < (s.cq k).unsig) then s.message k else s

/-- One entry written at the producer index of queue k: index, PHASE, and the state with both moved on (R76). -/
def State.entry (k : Nat) (s : State) : Nat × Bool × State :=
  let c := s.cq k
  let n := s.qSize k
  let p := (c.pi + 1) % n
  (c.pi, c.phase, s.setCq k { c with pi := p, phase := if p = 0 then !c.phase else c.phase, unsig := c.unsig + 1, firstAt := some (c.firstAt.getD s.clk) })

/-- A completion written to CQc. -/
def State.putCq (c : Nat) (e : Completion) (s : State) : State :=
  let (i, ph, s1) := s.entry (16 + c)
  ((s1.emit (.cqEntry c i ph e)).count (0x020 + c) 1).signal (16 + c) false

/-- A FINAL completion written, and counted for the queue of its command (Table 16-1). -/
def State.putFinal (c : Nat) (e : Completion) (s : State) : State := (s.count (0x010 + e.sq) 1).putCq c e

/-- A record written to EVQ. -/
def State.putEvq (r : Rec) (urgent : Bool) (s : State) : State :=
  let (i, ph, s1) := s.entry 32
  ((s1.emit (.evqEntry i ph r)).count 0x030 1).signal 32 urgent

/-- A record written to TRQ; none is the overflow record with the number lost. -/
def State.putTrq (t : Option Trace) (lost : Nat) (s : State) : State :=
  let (i, ph, s1) := s.entry 33
  ((s1.emit (.trqEntry i ph t lost)).count 0x031 1).signal 33 false

/-- Records lost on EVQ (R67). -/
def State.loseEvq (n : Nat) (s : State) : State :=
  { (s.modCq 32 fun c => { c with lostNew := c.lostNew + n }) with
    hif := { (s.modCq 32 fun c => { c with lostNew := c.lostNew + n }).hif with evqLost := satU 32 (s.hif.evqLost + n), err := setBit s.hif.err 4 true } }

/-- Records lost on TRQ (R67). -/
def State.loseTrq (n : Nat) (s : State) : State :=
  { (s.modCq 33 fun c => { c with lostNew := c.lostNew + n }) with
    hif := { (s.modCq 33 fun c => { c with lostNew := c.lostNew + n }).hif with trqLost := satU 32 (s.hif.trqLost + n), err := setBit s.hif.err 5 true } }

/-- The overflow record of R67 and R455, when records were lost and an entry is free. -/
def State.evqOverflow (s : State) : State :=
  let n := (s.cq 32).lostNew
  if decide (0 < n) && s.canWrite && decide (0 < s.qFree 32) then
    (s.putEvq (.overflow n) false).modCq 32 fun c => { c with lostNew := 0 }
  else s

/-- The same on TRQ. -/
def State.trqOverflow (s : State) : State :=
  let n := (s.cq 33).lostNew
  if decide (0 < n) && s.canWrite && decide (0 < s.qFree 33) then
    (s.putTrq none n).modCq 33 fun c => { c with lostNew := 0 }
  else s

/-- Records and completions kept (R66, R80). -/
def recsIn : Kept → Nat
  | .rcds l => l.length
  | .cpl _ _ => 0
def isCpl : Kept → Bool
  | .cpl _ _ => true
  | .rcds _ => false
def State.keptRecs (s : State) : Nat := sumN (s.hif.kept.map recsIn)
def State.keptCount (s : State) : Nat := (s.hif.kept.filter isCpl).length

/-- An entry kept behind those kept before it. -/
def State.keep (k : Kept) (s : State) : State := { s with hif := { s.hif with kept := s.hif.kept ++ [k] } }

/-- How many records may be kept: 64 before EVQ is first enabled (R523), 1,024 after (R80). -/
def State.recRoom (s : State) : Nat := if s.hif.evqOnce then 1024 else 64

/-- A group of records for EVQ, all written in consecutive slots or all lost (R67, R454); kept while they cannot be written (R80, R81), or, before EVQ is first enabled, up to 64 (R523). -/
def State.evq (rs : List Rec) (urgent : Bool) (s : State) : State :=
  if !s.hif.evqOnce || !s.canWrite then
    if s.keptRecs + rs.length ≤ s.recRoom then s.keep (.rcds rs) else s.loseEvq rs.length
  else
    let s := s.evqOverflow
    if rs.length ≤ s.qFree 32 ∧ (s.cq 32).lostNew = 0 then rs.foldl (fun s r => s.putEvq r urgent) s else s.loseEvq rs.length

/-- A record is urgent on EVQ: a fault record of level MINOR or above (R79, R453). -/
def recUrgent : Rec → Bool
  | .fault _ _ l f _ _ _ _ _ => decide (1 ≤ l) && decide (f / 2 % 2 = 0)
  | _ => false

/-- Descriptors taken and not yet FINAL that are bound to CQc (R64). -/
def State.bound (s : State) (c : Nat) : Nat := (s.hif.items.filter fun i => i.cq == c).length

/-- FINAL completions kept for CQc. -/
def keptFor (c : Nat) : Kept → Bool
  | .cpl d e => d == c && e.final
  | .rcds _ => false
def State.keptOn (s : State) (c : Nat) : Nat := (s.hif.kept.filter (keptFor c)).length

/-- One kept entry written: a FINAL completion while an entry is free, an interim one while more are free than reserved, and dropped otherwise (R65); a group of records whole once EVQ is enabled, lost when it finds no room (R67, R454). -/
def State.flushOne (k : Kept) (s : State) : State :=
  match k with
  | .cpl c e =>
    if e.final then (if 0 < s.qFree (16 + c) then s.putFinal c e else s.keep k)
    else if s.bound c + s.keptOn c < s.qFree (16 + c) then s.putCq c e
    else s
  | .rcds l =>
    if !s.qEn 32 then s.keep k
    else
      let s := s.evqOverflow
      if l.length ≤ s.qFree 32 ∧ (s.cq 32).lostNew = 0 then l.foldl (fun s r => s.putEvq r (recUrgent r)) s else s.loseEvq l.length

/-- What was kept is written, in the order it was produced (R64, R80, R81, R523); what cannot be written yet stays kept. -/
def State.flushKept (s : State) : State :=
  if s.canWrite then s.hif.kept.foldl (fun s k => s.flushOne k) ({ s with hif := { s.hif with kept := [] } } : State) else s

/-! ### Trace (R515, R516) -/

/-- Mask bit of a trace kind (Table 16-3). -/
def traceBit (kind : Nat) : Nat :=
  if kind = 0x10 then 0 else if kind = 0x20 then 1 else if kind = 0x21 then 2 else if kind = 0x30 then 3 else if kind = 0x31 then 4 else 5

/-- A trace record of this instant joins the store; it is lost when the store or TRQ has no room. Records of one instant leave together, by ascending KIND. -/
def State.trace (kind arg imp : Nat) (data : Nat) (s : State) : State :=
  if s.qEn 33 && s.hif.linkUp && s.regBit 0xF004 (traceBit kind) then
    if s.obs.store.length < 4096 ∧ s.obs.store.length < s.qFree 33 - (if 0 < (s.cq 33).lostNew then 1 else 0) then
      { s with obs := { s.obs with store := s.obs.store ++ [{ kind := kind, arg := arg, imp := imp % 2 ^ 32, time := s.ns, data := data }] } }
    else s.loseTrq 1
  else s

/-- The waiting trace records leave for TRQ, in ascending KIND (R515); discarded while the link is lost (R80). -/
def State.drainTrace (s : State) : State :=
  if s.obs.store = [] then s
  else
    let l := sortBy (fun a b => decide (a.kind ≤ b.kind)) s.obs.store
    let s := { s with obs := { s.obs with store := [] } }
    if s.hif.linkUp then l.foldl (fun s t => let s := s.trqOverflow
      if 0 < s.qFree 33 ∧ (s.cq 33).lostNew = 0 then s.putTrq (some t) 0 else s.loseTrq 1) s
    else s

/-- dt units of the registration clock pass: module time runs at 1 + RATE / 2^40 (R376, log entry 2). -/
def State.elapse (dt : Nat) (s : State) : State :=
  let raw := ((dt : Int) * (2 ^ 40 + s.tim.rate) + s.tim.resid).toNat
  let t := s.tim.time + raw / 2 ^ 40
  let s1 := if t / nsU = s.ns then s else s.drainTrace
  { s1 with clk := s1.clk + dt, tim := { s1.tim with time := t, resid := raw % 2 ^ 40 } }

/-! ### Completions -/

/-- The item with a number. -/
def State.item? (s : State) (id : Nat) : Option Item := s.hif.items.find? fun i => i.id == id

/-- An item changed. -/
def State.modItem (id : Nat) (f : Item → Item) (s : State) : State :=
  { s with hif := { s.hif with items := s.hif.items.map fun i => if i.id = id then f i else i } }

/-- Table 2-12: the statuses after which nothing more is written. -/
def Status.final : Status → Bool
  | .delayed => false
  | .retryElsewhere => false
  | _ => true

/-- Status codes of Table 2-12. -/
def Status.code : Status → Nat
  | .done => 0x0000
  | .doneLate => 0x0001
  | .delayed => 0x0002
  | .retryElsewhere => 0x0003
  | .refusedCapacity => 0x0010
  | .refusedBounds => 0x0011
  | .refusedState => 0x0012
  | .refusedMalformed => 0x0013
  | .refusedAuth => 0x0014
  | .refusedScale => 0x0015
  | .failedUnit => 0x0020
  | .failedNoResponse => 0x0021
  | .failedDeadline => 0x0022
  | .superseded => 0x0030
  | .notReady => 0x0031

/-- The completion an item gets (Table 2-11). -/
def Item.completion (i : Item) (st : Status) (detail imp result : Nat) (unknown : Bool) : Completion :=
  { tag := BitVec.ofNat 32 (fld i.desc 4 4), sq := i.sq, slot := i.slot, opcode := i.opcode, status := st, detail := BitVec.ofNat 32 detail,
    imp := BitVec.ofNat 64 imp, result := BitVec.ofNat 32 result, final := st.final, unknown := unknown, clamped := i.clamped }

/-- A completion written behind those kept for its queue, kept when it cannot be written (R64, R80, R81), within the limit of R66 for interim ones; interim ones are dropped where R65 reserves the entries. -/
def State.writeCpl (c : Nat) (e : Completion) (s : State) : State :=
  if e.final then
    if s.canWrite && decide (s.keptOn c = 0) && decide (0 < s.qFree (16 + c)) then s.putFinal c e else s.keep (.cpl c e)
  else if s.canWrite then (if s.bound c + s.keptOn c < s.qFree (16 + c) then s.putCq c e else s)
  else if s.hif.items.length + s.keptCount < 4096 then s.keep (.cpl c e)
  else s

/-- A completion of an item: FINAL ones end it (R78). -/
def State.complete (id : Nat) (st : Status) (detail imp result : Nat) (unknown : Bool) (s : State) : State :=
  match s.item? id with
  | none => s
  | some i =>
    let e := i.completion st detail imp result unknown
    if st.final then
      ({ s with hif := { s.hif with items := s.hif.items.filter fun x => x.id != id } } : State).writeCpl i.cq e
    else s.writeCpl i.cq e

/-- A result written into a host buffer (R55): false where the write fails, which leaves the buffer undefined. -/
def State.writeResult (addr : Nat) (l : List Byte) (s : State) : Bool × State :=
  let a : DWord := BitVec.ofNat 64 addr
  if !s.canWrite then (false, s)
  else
    let r := s.draw
    if Config.resultWriteFails r.1 then (false, r.2.emit (.bufWrite a ((List.range l.length).map fun k => Config.failedWriteByte (r.1 + k))))
    else (true, r.2.emit (.bufWrite a l))

/-- FINAL with only a status and a detail. -/
def State.refuse (id : Nat) (st : Status) (detail : Nat) (s : State) : State := s.complete id st detail 0 0 false

/-- DONE, or DONE_LATE for an item whose target had passed (R553), with the impression at which it took effect. -/
def State.done (id imp : Nat) (result : Nat) (s : State) : State :=
  match s.item? id with
  | none => s
  | some i => s.complete id (if i.late then .doneLate else .done) 0 imp result false

/-- DELAYED: at most one for each impression, none with NO_INTERIM (R78). -/
def State.delay (id imp : Nat) (s : State) : State :=
  match s.item? id with
  | none => s
  | some i =>
    if bit (BitVec.ofNat 16 (fld i.desc 2 2)) 1 || decide (imp ≤ i.delayedFor) then s
    else (s.complete id .delayed 0 imp 0 false).modItem id fun x => { x with delayedFor := imp }

/-! ### Fault sources (Table 13-4) -/

/-- ID and default severity of a source. -/
def Src.info : Src → Nat × Nat
  | .laneFomLow => (0x0101, 1) | .laneLos => (0x0102, 2) | .laneRetired => (0x0103, 2) | .laneSpareExhausted => (0x0104, 2)
  | .quireBreak => (0x0201, 2) | .quireClosureMismatch => (0x0202, 2) | .leafLost => (0x0203, 2) | .leafForeign => (0x0204, 0)
  | .leafFlipLate => (0x0205, 1) | .slugDeliveryFailed => (0x0206, 2) | .unitStateConflict => (0x0207, 1) | .leafCheckwordFault => (0x0208, 0)
  | .mirrorMismatch => (0x0209, 2) | .streamLoss => (0x0301, 1) | .streamAbsent => (0x0302, 2) | .streamFrozen => (0x0303, 2)
  | .streamStranger => (0x0304, 0) | .pathDiffExceeded => (0x0305, 1) | .streamCollision => (0x0306, 1) | .layerRefused => (0x0401, 1)
  | .pressBudgetExceeded => (0x0402, 2) | .fenceLate => (0x0403, 0) | .engineRetired => (0x0404, 2) | .outputFrozen => (0x0405, 2)
  | .frisketAgeExceeded => (0x0501, 3) | .frisketProofMismatch => (0x0502, 3) | .leafOverTemp => (0x0503, 1) | .leafPowerSaturated => (0x0504, 1)
  | .colourTrimLimit => (0x0505, 1) | .tablePageMalformed => (0x0506, 2) | .proofDecodeMismatch => (0x0507, 2) | .memCe => (0x0601, 0)
  | .memUe => (0x0602, 2) | .memRowSpared => (0x0603, 0) | .memPcRetired => (0x0604, 2) | .memTrainMargin => (0x0605, 1)
  | .refSwitch => (0x0701, 0) | .refFreerun => (0x0702, 2) | .timeMasterChange => (0x0703, 0) | .timeFreerun => (0x0704, 1)
  | .tempWarn => (0x0801, 1) | .tempThrottle => (0x0802, 2) | .tempShutdown => (0x0803, 3) | .supplyLow => (0x0804, 2) | .supplyFail => (0x0805, 3)
  | .hifBounds => (0x0901, 1) | .hifDoorbellStall => (0x0902, 1) | .hifLinkDown => (0x0903, 2) | .updateRejected => (0x0A01, 0)
  | .updateFallback => (0x0A02, 2) | .authFailed => (0x0A03, 1) | .entropyHealth => (0x0A04, 2) | .supervisorWatchdog => (0x0B01, 3)
  | .sramCe => (0x0B02, 0) | .sramSpared => (0x0B03, 0)

/-- The sources in the order of Table 13-4. -/
def srcs : List Src :=
  [.laneFomLow, .laneLos, .laneRetired, .laneSpareExhausted, .quireBreak, .quireClosureMismatch, .leafLost, .leafForeign, .leafFlipLate,
   .slugDeliveryFailed, .unitStateConflict, .leafCheckwordFault, .mirrorMismatch, .streamLoss, .streamAbsent, .streamFrozen, .streamStranger,
   .pathDiffExceeded, .streamCollision, .layerRefused, .pressBudgetExceeded, .fenceLate, .engineRetired, .outputFrozen, .frisketAgeExceeded,
   .frisketProofMismatch, .leafOverTemp, .leafPowerSaturated, .colourTrimLimit, .tablePageMalformed, .proofDecodeMismatch] ++
  [.memCe, .memUe, .memRowSpared, .memPcRetired, .memTrainMargin, .refSwitch, .refFreerun, .timeMasterChange, .timeFreerun, .tempWarn,
   .tempThrottle, .tempShutdown, .supplyLow, .supplyFail, .hifBounds, .hifDoorbellStall, .hifLinkDown, .updateRejected, .updateFallback,
   .authFailed, .entropyHealth, .supervisorWatchdog, .sramCe, .sramSpared]

/-- The source with an ID. -/
def srcOf (id : Nat) : Option Src := srcs.find? fun x => x.info.1 == id

/-- The sources whose severity is fixed at CRITICAL (R442). -/
def Src.fixed : Src → Bool
  | .tempShutdown => true
  | .supplyFail => true
  | .supervisorWatchdog => true
  | _ => false

/-- Severity of a source (R442). -/
def State.severity (s : State) (x : Src) : Nat := if x.fixed then 3 else tget x.info.2 s.flt.sev x.info.1

/-- INSTANCE of Table 13-3. -/
def instOf (kind n : Nat) : Nat := kind * 4096 + n

/-! ### The collector -/

/-- The empty collector entry. -/
def noEntry : Entry := { src := .laneFomLow, inst := 0, occs := [] }

/-- A CRITICAL occurrence is outstanding. -/
def State.critOut (s : State) : Bool := s.flt.entries.any fun e => e.2.occs.any fun o => o.level == 3

/-- ALIVE may toggle (R456). -/
def State.aliveOk (s : State) : Bool := !s.critOut && !s.flt.wdog && s.sys.supRun && decide (3 ≤ s.sys.stage)

/-- The level of ALIVE: a 1 kHz square wave from the instant it began to toggle. -/
def State.aliveLevel (s : State) : Bool :=
  if s.flt.alive then xor s.flt.level (decide ((s.clk - s.flt.aliveAt) / (500 * usU) % 2 = 1)) else s.flt.level

/-- ALIVE stops at its last level or resumes with the opposite level, as R456 asks of this state; within the 1 ms of R456 the model acts at once. -/
def State.aliveSync (s : State) : State :=
  if s.aliveOk = s.flt.alive then s
  else if s.flt.alive then { s with flt := { s.flt with alive := false, level := s.aliveLevel } }
  else { s with flt := { s.flt with alive := true, level := !s.flt.level, aliveAt := s.clk } }

/-- The first of the entry numbers from b that is empty, looking at n of them. -/
def freeEntry (t : Tab Entry) (b : Nat) : Nat → Option Nat
  | 0 => none
  | n + 1 => if t.any (fun e => e.1 == b) then freeEntry t (b + 1) n else some b

/-- The entry an occurrence of an instance goes to: its own, a free one, or the overflow instance of its source (R449). -/
def State.entryFor (s : State) (x : Src) (i : Nat) : Nat × Nat :=
  match s.flt.entries.find? fun e => decide (e.1 < 1024) && decide (e.2.src = x) && e.2.inst == i with
  | some e => (e.1, i)
  | none =>
    if (s.flt.entries.filter fun e => decide (e.1 < 1024)).length < 1024 then ((freeEntry s.flt.entries 0 1024).getD 0, i)
    else
      match s.flt.entries.find? fun e => decide (1024 ≤ e.1) && decide (e.2.src = x) with
      | some e => (e.1, 0xFFFF)
      | none => ((freeEntry s.flt.entries 1024 64).getD 1024, 0xFFFF)

/-- Unacknowledged occurrences of an entry. -/
def unacked (e : Entry) : List Occ := e.occs.filter fun o => !o.acked

/-- The level of a new occurrence (R447). -/
def occLevel (sev : Nat) (e : Entry) : Nat :=
  match (unacked e).getLast? with
  | some o => min (max sev (o.level + 1)) 3
  | none => sev

/-- A fault record of this instant (Table 13-5). -/
def State.record (s : State) (x : Src) (i level flags : Nat) (seq : Word) (cnt : Nat) (det : List Nat) : Rec :=
  .fault x i level flags seq (satU 32 cnt) s.imp.counter s.ns (det.map fun d => BitVec.ofNat 32 d)

/-- SEQ of the next record: 1 first, and 1 after 0xFFFF_FFFF (R446). -/
def nextSeq (w : Word) : Word := if w + 1 = 0 then 1 else w + 1

/-- A source is raised on an instance (R446, R447): an occurrence, its record, and the level. cond tells whether it has a condition to clear (R448), react whether its rule names a unit reaction, taken at MAJOR or above (R444). -/
def State.raiseL (x : Src) (i : Nat) (det : List Nat) (cond react : Bool) (s : State) : Nat × State :=
  let (k, inst) := s.entryFor x i
  let e := tget noEntry s.flt.entries k
  let sev := s.severity x
  let lvl := occLevel sev e
  let seq := nextSeq s.flt.seq
  let o : Occ := { seq := seq, level := lvl, acked := false, open_ := b2n cond, inst := i }
  let flags := b2n (decide (sev < lvl)) + 4 * b2n (react && decide (2 ≤ lvl)) + 8 * b2n (decide (1024 ≤ k))
  let r := s.record x inst lvl flags seq ((unacked e).length + 1) det
  let fl := { s.flt with seq := seq, raises := tput 0 s.flt.raises x.info.1 (tget 0 s.flt.raises x.info.1 + 1) }
  let s := { s with flt := { fl with entries := tput noEntry s.flt.entries k { src := x, inst := inst, occs := e.occs ++ [o] } } }
  (lvl, (s.evq [r] (decide (1 ≤ lvl))).aliveSync)

/-- A source raised without a unit reaction. -/
def State.raise (x : Src) (i : Nat) (det : List Nat) (cond : Bool) (s : State) : State := (s.raiseL x i det cond false).2

/-- An entry without its occurrences that are acknowledged and cleared; an overflow entry is kept whole until all are (R449). -/
def pruned (k : Nat) (e : Entry) : Entry :=
  if 1024 ≤ k then (if e.occs.all fun o => o.acked && o.open_ == 0 then noEntry else e)
  else
    let l := e.occs.filter fun o => !(o.acked && o.open_ == 0)
    if l = [] then noEntry else { e with occs := l }

/-- The condition of every open occurrence of an instance clears, each with its clear record (R448, R453); an overflow instance clears once, when the last condition attached to it has (R449). -/
def State.clear (x : Src) (i : Nat) (s : State) : State :=
  (s.flt.entries.foldl (fun s (ke : Nat × Entry) =>
    let k := ke.1
    let e := ke.2
    if e.src = x ∧ (e.inst = i ∨ 1024 ≤ k) ∧ e.occs.any (fun o => o.inst == i && decide (0 < o.open_)) then
      let e' : Entry := { e with occs := e.occs.map fun o => if o.inst = i then { o with open_ := 0 } else o }
      let cnt := (unacked e').length
      let s := { s with flt := { s.flt with entries := tput noEntry s.flt.entries k (pruned k e') } }
      if 1024 ≤ k then
        if e'.occs.all fun o => o.open_ == 0 then
          s.evq [s.record x 0xFFFF 0 (2 + 8) ((e.occs.head?.map (·.seq)).getD 0) cnt []] false
        else s
      else (e.occs.filter fun o => decide (0 < o.open_)).foldl (fun s o => s.evq [s.record x i 0 2 o.seq cnt []] false) s
    else s) s).aliveSync

/-- Occurrences at or below a SEQ are acknowledged for the entries a predicate picks (R450): their number and the new state. -/
def State.ackWhere (p : Entry → Bool) (upto : Word) (s : State) : Nat × State :=
  let hit (o : Occ) : Bool := !o.acked && serLe o.seq upto
  let n := sumN (s.flt.entries.map fun e => if p e.2 then (e.2.occs.filter hit).length else 0)
  let ent := s.flt.entries.foldl (fun t e =>
    if p e.2 then tput noEntry t e.1 (pruned e.1 { e.2 with occs := e.2.occs.map fun o => if hit o then { o with acked := true } else o }) else t) s.flt.entries
  (n, ({ s with flt := { s.flt with entries := ent } } : State).aliveSync)

end Sys2Proof.Machine
end

