-- ==== Sys2Proof/Machine/Packets.lean ====
section
/-! DEFINITION. The bytes of quire packets: the header of Table 9-2, the bodies of Tables 9-4 to 9-14 and 11-3, slug headers (Table 7-1), and CHECK (R307), most significant byte first (R6), reserved fields 0. -/

namespace Sys2Proof.Machine

open Sys2Proof

/-- Fields laid out in order, each given as (size in bytes, value), most significant byte first (R6). -/
def beFields (fs : List (Nat × Nat)) : List Byte := fs.flatMap fun f => beBytes f.1 f.2

/-- The header of Table 9-2 for a body of n bytes. -/
def pktHeader (type flags n leaf : Nat) (session : DWord) : List Byte :=
  beFields [(1, type), (1, flags), (2, 20 + n), (1, leaf), (3, 0), (8, session.toNat)]

/-- A packet: its header, its body, and CHECK over the header and the bytes of the body that Table 9-3 names (R307). -/
def pktBytes (type flags leaf : Nat) (session : DWord) (body covered : List Byte) : List Byte :=
  let h := pktHeader type flags body.length leaf session
  h ++ body ++ beFields [(4, (crc32c (h ++ covered)).toNat)]

/-! ### What the module sends -/

/-- TYPE of a packet (Table 9-3). -/
def QPkt.type : QPkt → Nat
  | .opening .. => 1
  | .age .. => 1
  | .announce .. => 1
  | .slug .. => 2
  | .command .. => 3
  | .adopt .. => 3
  | .claim .. => 4
  | .time .. => 5

/-- LEAF: the leaf addressed, or 0xFF for every leaf. -/
def QPkt.leaf : QPkt → Nat
  | .announce _ _ leaf .. => leaf
  | .slug leaf .. => leaf % 64
  | .command leaf .. => leaf
  | _ => 255

/-- MIRROR: every packet but a SLUG packet, which has it when it is sent on both directions (Table 9-3, R349). -/
def QPkt.mirror (p : QPkt) (dirs : Nat) : Bool := p.type != 2 || dirs == 2

/-- The common part of an IMPRESSION_HEADER (Table 9-4). -/
def hdrCommon (part gen imp : Nat) : List Byte := beFields [(1, part), (1, gen), (6, 0), (8, imp)]

/-- A slug as transmitted: its header, and its payload padded with 0 to a whole byte (R234). -/
def slugBytes (leaf slug imp gen method level age len flags : Nat) (crc : Word) (payload : List Bool) : List Byte :=
  beFields [(16, (headerBits leaf slug imp gen method level age len flags crc).toNat)] ++ packBits payload

/-- The COMMAND body of an ADOPT with a HOP (Tables 9-10, 9-11). -/
def adoptBody (tag : DWord) (hop leaves endNo quire : Nat) : List Byte :=
  beFields [(4, 0), (2, 1), (2, 16), (8, 0), (8, tag.toNat), (1, hop), (1, leaves), (1, endNo), (1, quire), (4, 0)]

/-- The BODY of a packet. The module sends ADOPT with HOP = 0 (R318). -/
def QPkt.body : QPkt → List Byte
  | .opening imp flip pNum pDen pAge friskAge hold invA invB regions mask =>
    hdrCommon 0 0 imp ++ beFields ([(8, flip / 1000000000), (4, flip % 1000000000), (4, pNum), (4, pDen), (4, pAge % 2 ^ 24), (4, friskAge % 2 ^ 24 + hold % 16 * 2 ^ 24),
      (2, invA.toNat), (2, invB.toNat), (2, regions.toNat), (2, 0)] ++ mask.flatMap fun r => [(2, r.1), (2, r.2.1), (2, r.2.2.1), (2, r.2.2.2)])
  | .age imp ages => hdrCommon 1 0 imp ++ beFields (ages.map fun a => (3, a))
  | .announce imp gen _ regionAges genAge first count map =>
    hdrCommon 2 gen imp ++ beFields (regionAges.map (fun a => (3, a)) ++ [(3, genAge), (1, 0), (2, first), (2, count)] ++ map.map fun b => (1, b))
  | .slug leaf no imp gen method level ageIx len flags crc payload =>
    beFields [(1, 1), (3, 0)] ++ slugBytes leaf no imp gen method level ageIx len flags crc payload
  | .command _ seq opcode target data => beFields [(4, seq), (2, opcode.toNat), (2, data.length), (8, target)] ++ data
  | .adopt tag leaves endNo quire => adoptBody tag 0 leaves endNo quire
  | .claim epoch endNo first last => beFields [(4, epoch.toNat), (1, endNo), (1, first), (1, last), (1, 0)]
  | .time seq dep flags rate =>
    beFields [(2, seq), (1, flags), (1, 0), (8, dep / secU), (4, dep / nsU % 1000000000), (2, dep % nsU), (2, 0), (4, uns 32 rate)]

/-- The bytes of the body that CHECK covers: of a SLUG packet bytes 0 to 3 and each slug's header (Table 9-3). -/
def QPkt.covered (p : QPkt) : List Byte := if p.type = 2 then p.body.take 20 else p.body

/-- A packet as transmitted under a session on some directions. -/
def QPkt.bytes (p : QPkt) (dirs : Nat) (session : DWord) : List Byte := pktBytes p.type (b2n (p.mirror dirs)) p.leaf session p.body p.covered

/-- What an output puts on the lane-ends of a quire: the quire, the direction and the packet's bytes. -/
def Output.onQuire : Output → List (Nat × Nat × List Byte)
  | .packet q dirs session p => (if dirs = 2 then [0, 1] else [dirs]).map fun d => (q, d, p.bytes dirs session)
  | _ => []

/-! ### What leaves insert -/

/-- The bytes before CHECK of a packet a leaf inserted: FLAGS has INSERTED alone (Tables 9-2, 9-3). -/
def insBytes (i : Ins) (type : Nat) (body : List Byte) : List Byte := pktHeader type 2 body.length i.leaf i.session ++ body

/-- CHECK is correct (R307). -/
def insCheckOk (i : Ins) (type : Nat) (body : List Byte) : Bool := decide (i.check = crc32c (insBytes i type body))

/-- An ACK body (Table 9-9). -/
def ackBody (es : List AckEntry) : List Byte :=
  beFields ([(1, es.length), (3, 0)] ++ es.flatMap fun e => [(2, e.imp.toNat), (1, e.gen), (1, e.batch), (8, e.bitmap.toNat)])

/-- The REPORT bodies (Tables 9-12, 9-13). -/
def enrollBody (r : Enroll) : List Byte :=
  beFields [(1, 1), (3, 0), (2, r.proto), (2, r.maker.toNat), (2, r.model.toNat), (2, 0), (8, r.serial.toNat), (4, r.fw.toNat),
    (4, r.lamps % 2 ^ 22 + (r.n - 1) % 4 * 2 ^ 22), (4, r.weights.toNat), (4, r.budget % 2 ^ 24 + r.driveBits % 256 * 2 ^ 24), (1, r.hopA), (1, r.hopB), (2, 0)]
def flipBody (r : FlipRep) : List Byte :=
  beFields [(1, 2), (3, 0), (8, r.sched), (8, r.shown), (2, r.gens.toNat), (1, r.flags.toNat), (1, r.missed), (4, r.frisket.toNat), (4, r.range.toNat), (1, r.rangeNo), (1, 0),
    (2, uns 16 r.temp), (2, r.rejected), (2, 0)]
def resultBody (r : ResultRep) : List Byte :=
  beFields [(1, 3), (3, 0), (4, r.seq), (4, r.status.toNat), (8, r.applied), (2, r.data.length), (2, 0)] ++ r.data
def sensorBody (q : List Word) : List Byte := beFields ([(1, 4), (3, 0)] ++ q.map fun x => (4, x.toNat))
def checkwordBody (imp : Half) (gen slug : Nat) : List Byte := beFields [(1, 5), (3, 0), (2, imp.toNat), (1, gen), (1, 0), (2, slug), (2, 0)]
def mirrorBody (type part slug : Nat) (which : DWord) : List Byte := beFields [(1, 6), (3, 0), (1, type), (1, part), (2, slug), (8, which.toNat)]

/-- A BREAK body (Table 9-14). -/
def breakBody (b : BreakRep) : List Byte := beFields [(1, b.port), (3, 0), (4, b.epoch.toNat), (8, b.lostS), (4, b.lostNs)]

end Sys2Proof.Machine
end

