-- ==== Sys2Proof/Machine/Colour.lean ====
section
/-! DEFINITION. Exact logarithms of whole numbers, L-codes (R164 to R167), and the colour arithmetic of composition: signal to light, primaries, EETF and the division by the wall peak (R132, R133). -/

namespace Sys2Proof.Machine

open Sys2Proof

/-! ### Exact logarithms -/

/-- The largest d with b × 2^(d/n) ≤ a, for a, b above 0; negative when a is below b. -/
def floorLog (n a b : Nat) : Int :=
  if b ≤ a then Int.ofNat (Nat.log2 (a ^ n / b ^ n))
  else
    let q := ceilDiv (b ^ n) (a ^ n)
    Int.negSucc (Nat.log2 (q - 1))

/-- The smallest d with a ≤ b × 2^(d/n), for a at or above b. -/
def ceilLog (n a b : Nat) : Nat :=
  let q := ceilDiv (a ^ n) (b ^ n)
  if q ≤ 1 then 0 else Nat.log2 (q - 1) + 1

/-- round(2048 × log2(a / b)), ties toward the larger value (R195). -/
def roundLog (a b : Nat) : Int := (floorLog 4096 a b + 1) / 2

/-! ### L-codes -/

/-- R165: the L-code of a linear value X of 36 bits. -/
def lcode (x : Nat) : Nat :=
  if x = 0 then 0
  else
    let e := Nat.log2 x
    let f := (Nat.log2 (x ^ 4096) - 4096 * e + 1) / 2
    65535 + 2048 * e + f - 2048 * 36 |> max 1

/-- The largest r below 2^b added to r0 whose n-th power is at most v. -/
def rootGo (n v : Nat) : Nat → Nat → Nat
  | 0, r => r
  | b + 1, r => rootGo n v b (if (r + 2 ^ b) ^ n ≤ v then r + 2 ^ b else r)

/-- mant[f]: the integer nearest to 2^(16 + f/2048) (R166). -/
def mant (f : Nat) : Nat := (rootGo 2048 (2 ^ (17 * 2048 + f)) 18 0 + 1) / 2

/-- lin32(L), in which 2^31 is full scale (R166). -/
def lin32 (l : Nat) : Nat :=
  if l = 0 then 0 else (mant ((l + 1) % 2048) * 2 ^ ((l + 1) / 2048) + 2 ^ 16) / 2 ^ 17

/-- lin_e(L), an 11-bit fraction of full scale (R167). -/
def linE (l : Nat) : Nat := min (lin32 l / 2 ^ 20) 2047

/-! ### Fixed-point powers: 2^64 is 1 -/

abbrev fx1 : Nat := 2 ^ 64

/-- p / q in fixed point. -/
def fxR (p q : Int) : Int := p * fx1 / q

/-- The bits of a logarithm. -/
def fxLogGo : Nat → Nat → Nat → Nat
  | 0, _, a => a
  | k + 1, m, a => if 2 ^ 65 ≤ m * m / fx1 then fxLogGo k (m * m / fx1 / 2) (2 * a + 1) else fxLogGo k (m * m / fx1) (2 * a)

/-- log2 of x above 0. -/
def fxLog2 (x : Nat) : Int :=
  let e := Nat.log2 x
  (Int.ofNat e - 64) * fx1 + Int.ofNat (fxLogGo 60 (x * 2 ^ 64 / 2 ^ e) 0 * 16)

/-- The product of the powers 2^(2^-k) for the bits set in f. -/
def fxExpGo : Nat → Nat → Nat → Nat → Nat
  | 0, _, _, acc => acc
  | k + 1, f, r, acc => fxExpGo k (f * 2 % fx1) (rootGo 2 (r * fx1) 65 0) (if 2 ^ 63 ≤ f then acc * r / fx1 else acc)

/-- 2^y. -/
def fxExp2 (y : Int) : Nat :=
  let m := fxExpGo 60 (y % fx1).toNat (rootGo 2 (2 * fx1 * fx1) 66 0) fx1
  let i := y / fx1
  if 0 ≤ i then m * 2 ^ i.toNat else m / 2 ^ (-i).toNat

/-- x^e for x not negative. -/
def fxPow (x : Nat) (e : Int) : Nat := if x = 0 then 0 else fxExp2 (fxLog2 x * e / fx1)

/-! ### Transfer functions. Light is in cd/m² × 2^48. -/

abbrev cd : Nat := 2 ^ 48

/-- ST 2084 constants. -/
def pqM1 : Int := fxR 2610 16384
def pqM2 : Int := fxR 2523 32
def pqC1 : Int := fxR 3424 4096
def pqC2 : Int := fxR 2413 128
def pqC3 : Int := fxR 2392 128

/-- The ST 2084 EOTF of a signal in 0 to 1. -/
def pqLight (e : Int) : Int :=
  let n : Int := fxPow e.toNat (fxR 32 2523)
  let x := max 0 (n - pqC1) * fx1 / (pqC2 - pqC3 * n / fx1)
  Int.ofNat (fxPow x.toNat (fxR 16384 2610)) * 10000 / 2 ^ 16

/-- Its inverse. -/
def pqSignal (l : Int) : Int :=
  let y : Int := fxPow (l.toNat * 2 ^ 16 / 10000) pqM1
  Int.ofNat (fxPow ((pqC1 + pqC2 * y / fx1) * fx1 / (fx1 + pqC3 * y / fx1)).toNat pqM2)

/-- The BT.1886 EOTF with gamma 2.4, black at 0. -/
def sdrLight (white : Nat) (e : Int) : Int := Int.ofNat (fxPow e.toNat (fxR 24 10)) * white / 2 ^ 16

/-- The BT.2100 inverse OETF of a signal in 0 to 1. -/
def hlgScene (e : Int) : Int :=
  if 2 * e ≤ fx1 then e * e / fx1 / 3
  else
    let a := fxR 17883277 100000000
    let x := (e - fxR 55991073 100000000) * fx1 / a
    (Int.ofNat (fxExp2 (x * fxR 14426950408889634 10000000000000000 / fx1)) + fxR 28466892 100000000) / 12

/-- System gamma less 1 of HLG for a nominal peak (R132). -/
def hlgGamma (peak : Nat) : Int := fxR 2 10 + fxR 42 100 * ((fxLog2 (peak * fx1) - fxLog2 (1000 * fx1)) * fxR 30102999566398120 100000000000000000 / fx1) / fx1

/-- Whether a signal is inside 0 to 1. -/
def inUnit (e : Int) : Bool := decide (0 ≤ e) && decide (e ≤ fx1)

/-- Step 2 of R132 for a triple of signals. -/
def signalLight (tcs bt2020 peak white : Nat) (r g b : Int) : Int × Int × Int :=
  if tcs = 0 then (sdrLight white r, sdrLight white g, sdrLight white b)
  else
    let free (e : Int) (l : Int) : Int := if inUnit e then l else Config.signalLight tcs e
    if tcs = 1 then (free r (pqLight r), free g (pqLight g), free b (pqLight b))
    else
      let (x, y, z) := (free r (hlgScene r), free g (hlgScene g), free b (hlgScene b))
      let ys := if bt2020 = 1 then (2627 * x + 6780 * y + 593 * z) / 10000 else (2126 * x + 7152 * y + 722 * z) / 10000
      let k : Int := if ys ≤ 0 then 0 else fxPow ys.toNat (hlgGamma peak)
      let out (v : Int) : Int := v * k / fx1 * peak / 2 ^ 16
      (out x, out y, out z)

/-- Step 1 of R132: a sample's R'G'B' signals, from Y'CbCr 4:2:2 at 10 bits (fmt 0) or RGB; the components are given in sixteenths, as the chroma filter of R554 leaves them. -/
def signals (fmt bt2020 full depth : Nat) (a b c : Int) : Int × Int × Int :=
  if fmt = 0 then
    let y := if full = 1 then fxR a 16368 else fxR (a - 1024) 14016
    let cb := if full = 1 then fxR (b - 8192) 16368 else fxR (b - 8192) 14336
    let cr := if full = 1 then fxR (c - 8192) 16368 else fxR (c - 8192) 14336
    let kr : Int := if bt2020 = 1 then 2627 else 2126
    let kb : Int := if bt2020 = 1 then 593 else 722
    let r := y + 2 * (10000 - kr) * cr / 10000
    let bl := y + 2 * (10000 - kb) * cb / 10000
    (r, (10000 * y - kr * r - kb * bl) / (10000 - kr - kb), bl)
  else
    let one (v : Int) : Int := if full = 1 then fxR v (16 * (2 ^ depth - 1)) else fxR (v - 2 ^ depth) (3504 * 2 ^ (depth - 8))
    (one a, one b, one c)

/-- Step 3 of R132: BT.709 light to BT.2020 primaries by the BT.2087 matrix. -/
def toBt2020 (bt2020 : Nat) (l : Int × Int × Int) : Int × Int × Int :=
  if bt2020 = 1 then l
  else
    let (r, g, b) := l
    ((6274 * r + 3293 * g + 433 * b) / 10000, (691 * r + 9195 * g + 114 * b) / 10000, (164 * r + 880 * g + 8956 * b) / 10000)

/-- Steps 1 to 3 of R132. -/
def light (fmt bt2020 tcs full depth peak white : Nat) (a b c : Int) : Int × Int × Int :=
  let (r, g, bl) := signals fmt bt2020 full depth a b c
  toBt2020 bt2020 (signalLight tcs bt2020 peak white r g bl)

/-! ### The EETF -/

/-- A tone set and the wall: peaks in cd/m², blacks in 0.001 cd/m² (R133, Table 4-10). -/
structure Tone where
  srcPeak : Nat
  srcBlack : Nat
  knee : Nat
  rolloff : Nat
  white : Nat
  wallPeak : Nat
  wallBlack : Nat
  deriving DecidableEq, Repr

/-- x^n in fixed point. -/
def fxNat (x : Int) : Nat → Int
  | 0 => fx1
  | n + 1 => fxNat x n * x / fx1

/-- The BT.2390 curve on a normalised PQ signal. -/
def eetfCurve (ks maxLum minLum : Int) (n : Nat) (e1 : Int) : Int :=
  let e2 :=
    if e1 ≤ ks then e1
    else
      let t := (e1 - ks) * fx1 / (fx1 - ks)
      let t2 := t * t / fx1
      let t3 := t2 * t / fx1
      ((2 * t3 - 3 * t2 + fx1) * ks + (t3 - 2 * t2 + t) * (fx1 - ks) + (3 * t2 - 2 * t3) * maxLum) / fx1
  e2 + minLum * fxNat (fx1 - e2) n / fx1

/-- Step 5 of R132: the tone set's EETF on max(R, G, B), all components scaled by one ratio (R133). The peak is SDR_WHITE for SDR. -/
def toneMap (t : Tone) (tcs : Nat) (l : Int × Int × Int) : Int × Int × Int :=
  let peak := if tcs = 0 then t.white else t.srcPeak
  if peak ≤ t.wallPeak ∧ t.wallBlack ≤ t.srcBlack then l
  else
    let (r, g, b) := l
    let m0 := max r (max g b)
    if m0 ≤ 0 then l
    else
      let m := min m0 (peak * cd)
      let lo := pqSignal (t.srcBlack * cd / 1000)
      let span := max 1 (pqSignal (peak * cd) - lo)
      let norm (v : Int) : Int := (pqSignal v - lo) * fx1 / span
      let maxLum := norm (t.wallPeak * cd)
      let minLum := norm (t.wallBlack * cd / 1000)
      let ks := if t.knee = 0 then (3 * maxLum - fx1) / 2 else fxR t.knee 32768
      let e4 := eetfCurve ks maxLum minLum t.rolloff (norm m) * span / fx1 + lo
      let o := pqLight (clampI 0 fx1 e4)
      (r * o / m0, g * o / m0, b * o / m0)

/-- Step 6 of R132: a component in U1.23 of the wall peak, negative values and values of 2.0 or more clipped. -/
def toCanvas (wallPeak : Nat) (v : Int) : Nat := (clampI 0 (2 ^ 24 - 1) ((v * 2 ^ 24 / (wallPeak * cd) + 1) / 2)).toNat

/-- A component as the module's arithmetic gives it: within 2^-16 of the exact value or 2^-23, whichever is larger (R132). -/
def withError (free : Int) (v : Nat) : Nat :=
  let t : Int := max 1 (Int.ofNat (v / 65536))
  (clampI 0 (2 ^ 24 - 1) (Int.ofNat v + clampI (-t) t free)).toNat

end Sys2Proof.Machine
end

