-- ==== Sys2Proof/Machine/Operands.lean ====
section
/-! DEFINITION. Operands of the host commands: the descriptor of Table 2-10, its target (R26, R27, R72, R553), its buffer (R52, R54), the authentication block (R84, R85), and the refusals of R73 in their order. -/

namespace Sys2Proof.Machine

open Sys2Proof

/-- Table 2-13 as (permitted on SQ15, bound to an impression, READ buffer, WRITE buffer). -/
def cmdInfo (op : Nat) : Option (Bool × Bool × Bool × Bool) :=
  if op = 0x0101 ∨ op = 0x0102 ∨ op = 0x0103 ∨ op = 0x0105 ∨ op = 0x0110 ∨ op = 0x0201 ∨ op = 0x0202 then some (true, true, false, false)
  else if op = 0x0104 then some (true, true, true, false)
  else if op = 0x0301 ∨ op = 0x0601 ∨ op = 0x0703 then some (false, false, true, false)
  else if op = 0x0702 then some (false, false, false, true)
  else if op = 0x0302 ∨ op = 0x0602 ∨ op = 0x0701 then some (false, false, false, false)
  else if op = 0x0303 ∨ op = 0x0304 ∨ op = 0x0401 ∨ op = 0x0403 ∨ op = 0x0404 ∨ op = 0x0502 then some (false, true, false, false)
  else if op = 0x0402 then some (false, true, true, true)
  else none

/-- The n bytes of PARAMS at offset o. -/
def prm (d : Slot) (o n : Nat) : Nat := fld d (32 + o) n

/-- OPCODE, TARGETED, TARGET, BUF_ADDR and BUF_LEN of Table 2-10. -/
def dOp (d : Slot) : Nat := fld d 0 2
def dTargeted (d : Slot) : Bool := bit d 16
def dTarget (d : Slot) : Nat := fld d 8 8
def dAddr (d : Slot) : Nat := fld d 16 8
def dLen (d : Slot) : Nat := fld d 24 4

/-- The commit point of the next impression is here: a tick has been, its window has not opened, no orderly stop is in progress, and t0 + S has come (R137, R464). -/
def State.commitDue (s : State) : Bool :=
  s.tim.genRun && decide (1 ≤ s.tim.ticks) && !s.win.open_ && decide (s.win.imp < s.imp.counter + 1) && !s.thp.stopping && !s.thp.stopped &&
    decide (s.tim.tickAt + s.cmp.sUs * usU ≤ s.tim.time)

/-- The highest impression whose composition window has opened: from t0 + S on, whether or not COMMIT_POINT has come (R137; log entry 88). -/
def State.opened (s : State) : Nat := if s.win.open_ || s.commitDue then s.imp.counter + 1 else s.imp.counter

/-- The first impression whose composition window has not opened (R27). -/
def State.nextImp (s : State) : Nat := s.opened + 1

/-- The windows the registers describe (R52, Table 2-1). -/
def State.winRegs (s : State) : List Win :=
  (List.range 8).map fun w =>
    let b := s.reg (0x100 + 16 * w)
    { en := bit b 0, rd := bit b 1, wr := bit b 2, base := bits b 12 20 * 4096 + (s.reg (0x104 + 16 * w)).toNat * 2 ^ 32,
      lim := bits (s.reg (0x108 + 16 * w)) 12 20 * 4096 + 4095 + (s.reg (0x10C + 16 * w)).toNat * 2 ^ 32 }

/-- A refusal that applies: its place in the order of R73, the status and the DETAIL. Places: 0 MALFORMED, 1 AUTH 1, 2 AUTH 3, 3 BOUNDS, 4 NOT_READY, 5 STATE, 6 SCALE, 7 CAPACITY. -/
abbrev Refuse := Bool × Nat × Status × Nat

/-- The first refusal in the order of R73. -/
def firstRefusal (l : List Refuse) : Option (Status × Nat) :=
  ((List.range 8).findSome? fun r => (l.find? fun c => c.1 && c.2.1 == r)).map fun c => (c.2.2.1, c.2.2.2)

def malformed (b : Bool) : Refuse := (b, 0, .refusedMalformed, 0)
def authWrong (b : Bool) : Refuse := (b, 2, .refusedAuth, 3)
def notReady (b : Bool) : Refuse := (b, 4, .notReady, 0)
def badState (b : Bool) (d : Nat) : Refuse := (b, 5, .refusedState, d)
def badScale (b : Bool) : Refuse := (b, 6, .refusedScale, 0)
def noRoom (b : Bool) (d : Nat) : Refuse := (b, 7, .refusedCapacity, d)

/-- The slot class and completion queue of a submission queue in force (R49). -/
def State.sqCtrl (s : State) (q : Nat) : Word := let o := qBase q + 8; tget (rwReset o) s.hif.force o

/-- Slots a command of the queue takes (R84). -/
def slotsOf (q : Nat) : Nat := if q = 15 then 2 else 1

/-- Place of a queue in the order of a sweep: SQ15, then SQ0 to SQ14 (R60). -/
def sweepRank (q : Nat) : Nat := if q = 15 then 0 else q + 1

/-- The sweeper is running: ENABLE is set, the link is up, the supervisor runs, and no orderly stop has begun (R80, R81, R464, R466). -/
def State.running (s : State) : Bool := s.canWrite && !s.thp.stopping && !s.thp.stopped && s.hif.ready

/-- The head slot of the queue can be taken (R51, R61, R63, R64, R66, R84, QUIESCE of Table 2-3). -/
def State.takable (s : State) (q : Nat) : Bool :=
  let x := s.sq q
  let n := s.qSize q
  let c := bits (s.sqCtrl q) 8 4
  s.running && !s.regBit 0x00C 1 && s.qEn q && !x.err && s.ringIn q && decide (slotsOf q ≤ (x.pi + n - x.head) % n) &&
    decide (s.bound c + s.keptOn c < s.qFree (16 + c)) && decide (s.hif.items.length + s.keptCount < 4096)

/-- The sweeper takes the head slot of queue q now: no queue before it in the sweep still has one to take (R60). -/
def State.takes (s : State) (q : Nat) : Bool :=
  decide (q < 16) && s.takable q && decide (s.hif.sweepPos ≤ sweepRank q) &&
    (List.range 16).all fun p => !(decide (s.hif.sweepPos ≤ sweepRank p) && decide (sweepRank p < sweepRank q) && s.takable p)

/-- The command is bound to an impression (Table 2-13, R72). -/
def isBound (d : Slot) : Bool := ((cmdInfo (dOp d)).getD (true, false, false, false)).2.1

/-- The descriptor is a member of a group (R145). -/
def inGroup (d : Slot) : Bool := (dOp d == 0x0101 || dOp d == 0x0102 || dOp d == 0x0103 || dOp d == 0x0104) && prm d 1 1 != 0

/-- The descriptor is a fenced surface.write. -/
def isFenced (d : Slot) : Bool := dOp d == 0x0104 && prm d 3 1 % 2 == 1

/-- The command sets an order of its own under R57: it is bound to an impression and is no member of a group (log entry 42). -/
def ordered (d : Slot) : Bool := isBound d && !inGroup d

/-- The latest impression a command taken before from queue q targets or took effect in (R57): a command never takes effect before one taken earlier from its queue. A fenced write sets its own target only (log entry 42). -/
def State.earlierTarget (s : State) (q : Nat) : Nat :=
  s.hif.items.foldl (fun m i => if i.sq = q ∧ ordered i.desc then max m i.target else m) (s.sq q).floor

/-- A command taken earlier from the item's queue is still being staged, so that the item may not land before it (R57). -/
def State.heldBack (s : State) (i : Item) : Bool :=
  s.hif.items.any fun j => j.sq == i.sq && decide (j.id < i.id) && ordered j.desc && !isFenced j.desc && decide (j.phase = .staging ∨ j.phase = .waiting)

/-- A command of queue q with number id takes effect at impression t: those taken after it do so no earlier (R57). -/
def State.pushBack (q id t : Nat) (s : State) : State :=
  let back (x : Item) : Item :=
    if x.sq = q ∧ id < x.id then
      { x with floor := max x.floor t, target := max x.target t, late := x.late || (dTargeted x.desc && isBound x.desc && decide (dTarget x.desc < max x.target t)) }
    else x
  let s := s.modSq q fun x => { x with floor := max x.floor t }
  { s with hif := { s.hif with items := s.hif.items.map back } }

/-- The descriptor at the head of q is taken (R61): the item, and the state in which it is in flight. -/
def State.takeItem (q : Nat) (d a : Slot) (s : State) : Item × State :=
  let x := s.sq q
  let floor := s.earlierTarget q
  let tgt := max (if dTargeted d && isBound d then dTarget d else s.nextImp) (max s.nextImp floor)
  let i : Item :=
    { id := s.nextItem, sq := q, slot := x.head, cq := bits (s.sqCtrl q) 8 4, opcode := BitVec.ofNat 16 (dOp d), desc := d, auth := a,
      target := tgt, floor := floor, late := isBound d && dTargeted d && decide (dTarget d < tgt), takenImp := s.imp.counter, takenAt := s.clk, phase := .working }
  let s := s.setSq q { x with head := (x.head + slotsOf q) % s.qSize q }
  (i, ({ s with nextItem := s.nextItem + 1, hif := { s.hif with items := s.hif.items ++ [i], sweepPos := sweepRank q } } : State).count q 1)

/-- Whether a command reads its buffer and writes results into it (Table 2-13); leaf.command as its lengths say. -/
def bufUse (d : Slot) : Bool × Bool :=
  let (_, _, rd, wr) := (cmdInfo (dOp d)).getD (true, false, false, false)
  (rd && (dOp d != 0x0402 || decide (0 < prm d 4 2)), wr && (dOp d != 0x0402 || decide (0 < prm d 6 2)))

/-- The refusals every command shares: R74, Table 2-10, R72, R85, R54 and R553 (lateRule tells whether R553 governs it). A member of a group has no TARGET (R145). -/
def State.commonRefusals (s : State) (i : Item) (lateRule : Bool) (group : Nat) : List Refuse :=
  let d := i.desc
  let (on15, bound, _, _) := (cmdInfo (dOp d)).getD (true, false, false, false)
  let (rd, wr) := bufUse d
  [malformed ((cmdInfo (dOp d)).isNone || (i.sq == 15 && !on15)), malformed (decide (0x10000000 < dLen d)),
   malformed (bound && dTargeted d && decide (group = 0) && decide (i.takenImp + 65536 < dTarget d)),
   (i.sq == 15 && !s.hif.keyLocked, 1, .refusedAuth, 1),
   ((rd || wr) && decide (0 < dLen d) && !s.bufOk (dAddr d) (dLen d) rd wr, 3, .refusedBounds, 0),
   badState (lateRule && bound && dTargeted d && decide (group = 0) && decide (dTarget d + 1 ≤ s.opened)) 3]

/-- What a refusal does beyond its completion: HIF_ERR and HIF_BOUNDS for the window check (R54), AUTH and AUTH_FAILED for a failed authentication (R85), UPDATE_REJECTED for a state refusal of an update command (R493). -/
def State.refuseWith (i : Item) (st : Status) (det : Nat) (s : State) : State :=
  let s := if st = .refusedBounds then
      let s : State := { s with hif := { s.hif with err := setBit s.hif.err 0 true } }
      if det = 0 then s.raise .hifBounds (instOf 14 i.sq) [] false else s
    else if st = .refusedAuth ∧ det ≠ 3 then
      ({ s with hif := { s.hif with err := setBit s.hif.err 3 true } } : State).raise .authFailed (instOf 14 i.sq) [] false
    else if st = .refusedState ∧ (i.opcode = 0x0601 ∨ i.opcode = 0x0602) then s.raise .updateRejected 0 [det] false
    else s
  s.refuse i.id st det

/-- Bytes of a 64-byte slot. -/
def slotBytes (d : Slot) : List Byte := leBytes 64 d.toNat

/-- SQ15 authentication (R85): the refusal that applies, or HIF_FSEQ set to SEQ. -/
def State.authenticate (i : Item) (buf : List Byte) (s : State) : Option Nat × State :=
  let mac := hmac256 (leBytes 32 s.hif.key.toNat) (slotBytes i.desc ++ (slotBytes i.auth).take 32 ++ buf)
  if mac ≠ (slotBytes i.auth).drop 32 then (some 0, s)
  else if fld i.auth 0 8 ≤ s.hif.fseq.toNat then (some 2, s)
  else (none, { s with hif := { s.hif with fseq := BitVec.ofNat 64 (fld i.auth 0 8) } })

/-- A group spoiled by a refused member (R147). -/
def State.spoil (q g : Nat) (s : State) : State :=
  if g = 0 ∨ (q, g) ∈ s.cmp.spoiled then s else { s with cmp := { s.cmp with spoiled := (q, g) :: s.cmp.spoiled } }

/-- An item moved to a phase. -/
def toPhase (p : Phase) (i : Item) : Item := { i with phase := p }
def State.phase (id : Nat) (p : Phase) (s : State) : State := s.modItem id (toPhase p)

/-- The descriptor at the head of queue q, if it is one of opcode op and the sweeper takes it now, is taken, checked under the first group of R73 (the common refusals and those of its chapter), authenticated at once on SQ15 when it has no buffer (surface.write alone has one there, Table 2-13), and then accepted. group is the GROUP field of a layer command. -/
def State.takeCmd (op q : Nat) (d a : Slot) (lateRule : Bool) (group : Nat) (chk : Item → State → List Refuse) (accept : Item → State → State) (s : State) : State :=
  if dOp d = op ∧ s.takes q then
    let r := s.takeItem q d a
    let i := r.1
    match firstRefusal (r.2.commonRefusals i lateRule group ++ chk i r.2) with
    | some (st, det) => (r.2.refuseWith i st det).spoil q group
    | none =>
      if q = 15 ∧ (dLen d = 0 ∨ dOp d ≠ 0x0104) then
        let u := r.2.authenticate i []
        match u.1 with
        | some det => (u.2.refuseWith i .refusedAuth det).spoil q group
        | none => accept i u.2
      else accept i r.2
  else s

end Sys2Proof.Machine
end

