-- ==== Sys2Proof/Machine/Memory.lean ====
section
/-! DEFINITION. DRAM extents (R428, R429): reservation, release, and the counts of Table 12-3. -/

namespace Sys2Proof.Machine

open Sys2Proof

/-- Classes of R40. -/
abbrev clsFrisket : Nat := 0
abbrev clsReal : Nat := 1
abbrev clsPaging : Nat := 2
abbrev clsBulk : Nat := 3

/-- Extents of 2 MiB that hold n bytes (R428). -/
def extents (n : Nat) : Nat := ceilDiv n 2097152

/-- Extents a pseudo-channel holds (R415: at most 384). -/
def heldIn (as : List Alloc) (p : Nat) : Nat := sumN (as.map fun a => tget 0 a.ext p + tget 0 a.twin p)

/-- Free extents of each pseudo-channel; none outside IN_SERVICE (R435). -/
def State.freeExt (s : State) : List Nat :=
  (List.range 64).map fun p => if (s.pc p).unit = .inService then 384 - heldIn s.mem.allocs p else 0

/-- The first pseudo-channel after `last`, round-robin, with a free extent, among those a test picks (R428). -/
def nextPc (free : List Nat) (last : Nat) (ok : Nat → Bool) : Option Nat :=
  ((List.range 64).map fun k => (last + 1 + k) % 64).find? fun p => ok p && decide (0 < nthD 0 free p)

/-- n extents placed round-robin, each with a twin in the other stack when paired: free counts, last place, extents and twins, or none when they do not fit (R428, R429). -/
def place (paired : Bool) : Nat → List Nat → Nat → Tab Nat → Tab Nat → Option (Nat × Tab Nat × Tab Nat)
  | 0, _, last, e, t => some (last, e, t)
  | n + 1, free, last, e, t =>
    match nextPc free last fun _ => true with
    | none => none
    | some p =>
      let free := setNth free p (nthD 0 free p - 1)
      let e := tmod 0 e p (· + 1)
      if paired then
        match nextPc free ((p + 31) % 64) fun x => x / 32 != p / 32 with
        | none => none
        | some x => place paired n (setNth free x (nthD 0 free x - 1)) p e (tmod 0 t x (· + 1))
      else place paired n free p e t

/-- An allocation of n extents of a class, reserved whole or not at all (R428): its number. -/
def State.alloc (cls n : Nat) (s : State) : Option (Nat × State) :=
  match place (cls == clsFrisket) n s.freeExt s.mem.last [] [] with
  | none => none
  | some (last, e, t) =>
    let id := s.mem.nextAlloc
    some (id, { s with mem := { s.mem with nextAlloc := id + 1, last := last, allocs := s.mem.allocs ++ [{ id := id, cls := cls, ext := e, twin := t }] } })

/-- Allocations returned. -/
def State.release (ids : List Nat) (s : State) : State :=
  { s with mem := { s.mem with allocs := s.mem.allocs.filter fun a => !(a.id ∈ ids) } }

/-- An allocation reserved, with state unchanged and 0 when it does not fit. -/
def State.allocD (cls n : Nat) (s : State) : Nat × State :=
  match s.alloc cls n with
  | some r => r
  | none => (0, s)

/-- The allocation can be met. -/
def State.canAlloc (s : State) (cls n : Nat) : Bool := (s.alloc cls n).isSome

end Sys2Proof.Machine
end

