-- ==== Sys2Proof/Machine/Units.lean ====
section
/-! DEFINITION. The unit table (R17 to R19), generations and RETRY_ELSEWHERE (R485), spare engines and encoders (R482, R483), and the spare manager's record (R479, R480). -/

namespace Sys2Proof.Machine

open Sys2Proof

/-- A unit state that forbids traffic (R19). -/
def Unit4.out (u : Unit4) : Bool := decide (u = .spare) || decide (u = .retired)

/-- Traffic observed from a unit whose state forbids it raises UNIT_STATE_CONFLICT; the state does not change (R19). -/
def State.stateConflict (inst : Nat) (bad : Bool) (s : State) : State := if bad then s.raise .unitStateConflict inst [] false else s

/-- Work observed from a pixel engine (kind 9) or a slug encoder (kind 10), the unit with key k. -/
def State.strayUnit (kind n k : Nat) (s : State) : State := s.stateConflict (instOf kind n) (s.unit k).st.out

/-- The number a register shows for a unit state. -/
def Unit4.code : Unit4 → Nat
  | .spare => 0
  | .inService => 1
  | .degraded => 2
  | .retired => 3

/-- A unit state an observation may set: only toward DEGRADED or RETIRED (R18). -/
def Unit4.worse (a b : Unit4) : Unit4 :=
  match a, b with
  | .retired, _ => .retired
  | _, .retired => .retired
  | .degraded, _ => .degraded
  | _, x => x

/-- A change the record of R479 must hold. -/
def State.noteRecord (s : State) : State := { s with cal := { s.cal with pend := true } }

/-- Requests returned by a unit at a generation change: CAL_RETRY and, when there are any, a RETRY record (R485, Table 16-3). inst is the unit as (kind << 12) | number. -/
def State.retry (inst old new n : Nat) (s : State) : State :=
  let s := { s with cal := { s.cal with retries := s.cal.retries + n } }
  if n = 0 then s else s.trace 0x21 inst (s.imp.counter + 1) (old + new * 256 + n % 65536 * 65536)

/-- The generation after a per-unit reset, retirement, power-down or bring-in (R485). -/
def nextGen (g : Nat) : Nat := (g + 1) % 256

/-- Engines in service: IN_SERVICE or DEGRADED (Table 4-11). -/
def State.engines (s : State) : List Nat :=
  (List.range 18).filter fun e => (s.unit e).st = .inService || (s.unit e).st = .degraded

/-- Encoders in service that take slugs: one brought in waits for a commit point (R483). -/
def State.encoders (s : State) : List Nat :=
  (List.range 9).filter fun e => ((s.unit (32 + e)).st = .inService || (s.unit (32 + e)).st = .degraded) && (s.unit (32 + e)).readyAt == 0

/-- Encoders brought in at least 1 ms before a commit point take slugs from it on (R483). -/
def State.admitEncoders (s : State) : State :=
  (List.range 9).foldl (fun s e => let u := s.unit (32 + e)
    if u.readyAt ≠ 0 ∧ u.readyAt ≤ s.clk then s.setUnit (32 + e) { u with readyAt := 0 } else s) s

/-- Pseudo-channels in service, and those shown by PCS (Table 12-4). -/
def State.pcsIn (s : State) : List Nat := (List.range 64).filter fun p => (s.pc p).unit = .inService
def State.pcsUsed (s : State) : List Nat := (List.range 64).filter fun p => (s.pc p).unit = .inService || (s.pc p).unit = .degraded

/-- The SPARE engine to bring in for engine e: of the same galley, otherwise the lowest-numbered (R482). -/
def State.spareEngine (s : State) (e : Nat) : Option Nat :=
  let sp := (List.range 18).filter fun x => (s.unit x).st = .spare && (s.unit x).bringing.isNone
  match sp.find? fun x => x / 3 == e / 3 with
  | some x => some x
  | none => sp.head?

/-- A spare unit powered up, reset and in self-test for the unit it replaces (R482, R483). -/
def State.bringIn (k for_ : Nat) (s : State) : State :=
  s.modUnit k fun u => { u with bringing := some for_, gen := nextGen u.gen }

/-- Brings in a spare for an engine, if there is one. -/
def State.bringInEngine (e : Nat) (s : State) : State :=
  match s.spareEngine e with
  | some x => s.bringIn x e
  | none => s

/-- The first job not dispatched, given to an engine. -/
def dispatchTo (e : Nat) : List Job → Option (List Job)
  | [] => none
  | j :: t => if j.engine.isNone then some ({ j with engine := some e } :: t) else (dispatchTo e t).map (j :: ·)

/-- M of R22. -/
def marginU (p : Nat) : Nat := max (p / 8) (500 * usU)

/-- Module time of the commit deadline, t0 + P - M, and of the press cutoff (R153). -/
def State.deadlineAt (s : State) : Nat := s.win.t0 + s.win.p - marginU s.win.p
def State.pressAt (s : State) : Nat := s.deadlineAt - 200 * usU

/-- An engine that is free takes the next tile; none after the press cutoff, whether or not PRESS_CUTOFF has come (R153). -/
def State.dispatch (e : Nat) (s : State) : State :=
  if s.win.pressCut || decide (s.pressAt < s.tim.time) || s.cmp.jobs.any (fun j => j.engine == some e) then s
  else
    match dispatchTo e s.cmp.jobs with
    | some js => { s with cmp := { s.cmp with jobs := js } }
    | none => s

/-- Every engine in service takes a tile. -/
def State.dispatchAll (s : State) : State := s.engines.foldl (fun s e => s.dispatch e) s

/-- A tile's work returned to its queue. -/
def unassigned (j : Job) : Job := { j with engine := none }

/-- An engine leaves service, whatever retired it: its tiles return to the head of the queue, ENGINE_RETIRED is raised and a spare is brought in (R155, R482, R485). -/
def State.retireEngine (e : Nat) (s : State) : State :=
  let u := s.unit e
  let held := s.cmp.jobs.filter fun j => j.engine == some e
  let rest := s.cmp.jobs.filter fun j => j.engine != some e
  let s := s.setUnit e { u with st := .retired, gen := nextGen u.gen, bringing := none }
  let s : State := { s with cmp := { s.cmp with jobs := held.map unassigned ++ rest } }
  let s := (s.retry (instOf 9 e) u.gen (nextGen u.gen) held.length).noteRecord
  ((s.raise .engineRetired (instOf 9 e) [] false).bringInEngine e).dispatchAll

/-- A slug encoder leaves service; the requests it holds return as RETRY_ELSEWHERE, how many is a free value, and encoder 8 is brought in if it is a SPARE (R155, R232, R483, R485; log entry 99). -/
def State.retireEncoder (e : Nat) (s : State) : State :=
  let u := s.unit (32 + e)
  let r := s.draw
  let s := (r.2.setUnit (32 + e) { u with st := .retired, gen := nextGen u.gen, bringing := none }).noteRecord
  let s := s.retry (instOf 10 e) u.gen (nextGen u.gen) (Config.heldSlugs r.1)
  if (s.unit 40).st = .spare ∧ (s.unit 40).bringing = none ∧ e ≠ 8 then s.bringIn 40 (32 + e) else s

/-- A substitution logged: the last 256 are kept (R479). -/
def State.logSub (out_ in_ : Nat) (s : State) : State :=
  { s with cal := { s.cal with log := ((out_, in_) :: s.cal.log).take 256, pend := true } }

/-- The newer valid copy of the record (R480). -/
def Cal.newer (c : Cal) : Option (Nat × Record) := match c.copyA, c.copyB with
  | some a, some b => if a.1 ≤ b.1 then some b else some a
  | some a, none => some a
  | none, b => b

/-- A record written to the older copy, or to one that is not valid, under the next sequence number (R479). -/
def Cal.store (c : Cal) (r : Record) : Cal :=
  let x := (((c.newer.map (·.1)).getD 0) + 1, r)
  match c.copyA, c.copyB with
  | some a, some b => if a.1 ≤ b.1 then { c with copyA := some x } else { c with copyB := some x }
  | some _, none => { c with copyB := some x }
  | none, _ => { c with copyA := some x }

/-- The record as the spare manager would write it now (R479). -/
def State.recordNow (s : State) : Record :=
  { units := (List.range 41).foldl (fun t k => let x := (s.unit k).st
      tput .inService t k (if x = .retired ∨ x = .degraded then x else .inService)) [],
    lanes := (List.range 80).foldl (fun t k => let x := (s.lane k).unit
      tput .inService t k (if x = .retired ∨ x = .degraded then x else .inService)) [],
    pcs := (List.range 64).foldl (fun t k => let x := (s.pc k).unit
      tput .inService t k (if x = .retired ∨ x = .degraded then x else .inService)) [],
    subs := (List.range 16).foldl (fun t q => let l := s.lane (5 * q + 4)
      if l.subst then tput 0 t (5 * q + 4) (l.for_ + 1) else t) [],
    places := (List.range 41).foldl (fun t k => let u := s.unit k
      if u.st = .inService && ((k == 16) || (k == 17) || (k == 40)) then tput 0 t k (u.placeOf + 1) else t) [],
    repairs := ((List.range 64).map fun p => (s.pc p).repairs.map fun r => (p, r)).flatten,
    sram := s.cal.macros.map fun m => (m.1, m.2.rows, m.2.cols),
    log := s.cal.log }

end Sys2Proof.Machine
end

