-- ==== Sys2Proof/Machine/Host.lean ====
section
/-! DEFINITION. The host interface: the sweeper (R60 to R63, R70), queues and windows (R49 to R53), interrupts and overflow records, the loss of the host link (R44, R80), the Frisket key (R83), and fault.ack (R450). -/

namespace Sys2Proof.Machine

open Sys2Proof

/-- A bit of HIF_ERR set (Table 2-4). -/
def State.hifErr (b : Nat) (s : State) : State := { s with hif := { s.hif with err := setBit s.hif.err b true } }

/-- Sweep interval in module units (R48). -/
def State.sweepInterval (s : State) : Nat := usU / 4 * s.regBits 0x018 0 9

/-- The address of the doorbell page. -/
def State.pageAddr (s : State) : Nat := bits (s.reg 0x010) 12 20 * 4096 + (s.reg 0x014).toNat * 2 ^ 32

/-- The sweeper sweeps: it runs, and the doorbell page lies in a READ window (R50, R52; log entry 78). -/
def State.sweeps (s : State) : Bool := s.running && s.bufOk s.pageAddr 4096 true false

/-- A sweep is due (R60). -/
def State.sweepDue (s : State) : Bool := s.sweeps && decide (s.hif.sweepAt ≤ s.clk)

/-- The fence a fenced surface.write awaits, with the value (R69). -/
def fenceOf (i : Item) : Nat × Nat := (prm i.desc 16 2, prm i.desc 20 8)

/-- A fence is reached for a value (R69). -/
def State.fenceReached (s : State) (f v : Nat) : Bool :=
  decide (v ≤ (tget 0 s.cmp.fenceSig f).toNat) || decide (v ≤ (tget 0 s.cmp.fenceRead f).toNat)

/-- Fences read in the doorbell page while awaited, ascending (R70, R142). -/
def State.awaited (s : State) : List Nat :=
  sortBy (fun a b => decide (a ≤ b)) (dedup ((s.hif.items.filter fun i => decide (i.phase = .fencing) && decide ((fenceOf i).1 < 448)).map fun i => (fenceOf i).1))

/-- The fences the next sweep reads: at most 64, after the last one read, wrapping (R70). -/
def State.fencesToRead (s : State) : List Nat :=
  let l := s.awaited
  ((l.filter fun f => decide (s.cmp.fenceLast < f)) ++ l.filter fun f => decide (f ≤ s.cmp.fenceLast)).take 64

/-- Fenced writes whose fence is reached start to read their buffers (R140); a fence reached from t0 + S on is a miss of that commit point first (R141). -/
def State.fencesGo (s : State) : State :=
  if s.commitDue then s
  else { s with hif := { s.hif with items := s.hif.items.map fun i =>
      if i.phase = .fencing ∧ s.fenceReached (fenceOf i).1 (fenceOf i).2 then { i with phase := .staging } else i } }

/-- The producer index of SQn as read; out of range it halts the queue (R63). -/
def State.readPi (n : Nat) (w : Word) (s : State) : State :=
  if s.qEn n && !(s.sq n).err then
    if w.toNat < s.qSize n then s.modSq n fun x => { x with pi := w.toNat }
    else ((s.modSq n fun x => { x with err := true }).hifErr 2).raise .hifBounds (instOf 14 n) [] false
  else s

/-- The consumer index of queue k as read; out of range it halts writing to the queue (R63). -/
def State.readCi (k : Nat) (w : Word) (s : State) : State :=
  if s.qEn k && !(s.cq k).halted then
    if w.toNat < s.qSize k then s.modCq k fun x => { x with ci := w.toNat }
    else ((s.modCq k fun x => { x with halted := true }).hifErr 2).raise .hifBounds (instOf 14 k) [] false
  else s

/-- CLASS, CQ and the IRQ registers come into force (R49). -/
def State.applyForce (s : State) : State :=
  let offs := ((List.range 16).map fun n => 0x208 + 16 * n) ++ (List.range 18).map fun n => 0x30C + 16 * n
  { s with hif := { s.hif with force := offs.foldl (fun t o => tput (rwReset o) t o (s.reg o)) s.hif.force } }

/-- Word n of the doorbell page as read, little-endian (R5, R68). -/
def pageWord (page : List Byte) (n : Nat) : Word := BitVec.ofNat 32 (leNat (slice page (4 * n) 4))

/-- The page of a sweep read: producer indices, then consumer indices, and what was kept written where they make room (R60, R63, R64). -/
def State.readPage (page : List Byte) (s : State) : State :=
  let s := (List.range 16).foldl (fun s n => s.readPi n (pageWord page n)) s
  ((List.range 18).foldl (fun s n => s.readCi (16 + n) (pageWord page (16 + n))) s).flushKept

/-- The fence words a sweep read (R70). -/
def State.readFences (fences : List (Nat × List Byte)) (s : State) : State :=
  let l := s.fencesToRead
  let rd := fences.foldl (fun t f => if f.1 ∈ l then tput 0 t f.1 (BitVec.ofNat 64 (leNat (f.2.take 8))) else t) s.cmp.fenceRead
  { s with cmp := { s.cmp with fenceRead := rd, fenceLast := (l.getLast?).getD s.cmp.fenceLast } }

/-- One sweep (R60): indices, entries kept for want of room (R64), IRQ settings, awaited fences; then queues are taken from SQ15 on. -/
def State.sweep (page : List Byte) (fences : List (Nat × List Byte)) (s : State) : State :=
  let s : State := { s with hif := { s.hif with sweepAt := s.clk + s.sweepInterval, sweepPos := 0 } }
  let s := (s.count 0x033 1).applyForce.readPage page
  let s := (List.range 18).foldl (fun s n => s.signal (16 + n) false) s
  (s.readFences fences).fencesGo

/-- SWEEP. -/
def execSweep (dt : Nat) (page : List Byte) (fences : List (Nat × List Byte)) (s : State) : Host.Outcome State Fault Refusal :=
  let s := s.elapse dt
  .next (if s.sweepDue then s.sweep page fences else s)

/-- The doorbell read of the sweep in hand has overrun its bound of 8 intervals or 50 µs (R62). -/
def State.stallDue (s : State) : Bool := s.sweeps && decide (s.hif.sweepAt + max (8 * s.sweepInterval) (50 * usU) ≤ s.clk)

/-- DOORBELL_STALL (R62): the next sweep starts afresh, now. -/
def execDoorbellStall (dt : Nat) (s : State) : Host.Outcome State Fault Refusal :=
  let s := s.elapse dt
  .next (if s.stallDue then
      ((({ s with hif := { s.hif with sweepAt := s.clk } } : State).hifErr 1).count 0x034 1).raise .hifDoorbellStall 0 [] false
    else s)

/-- The time trigger of R79 has come for queue k. -/
def State.holdoffDue (s : State) (k : Nat) : Bool :=
  let w := s.irq k
  decide (16 ≤ k) && decide (k ≤ 33) && bit w 5 && decide (0 < bits w 16 16) &&
    (match (s.cq k).firstAt with | none => false | some t => decide (t + bits w 16 16 * usU ≤ s.clk))

/-- HOLDOFF_EXPIRY (R79). -/
def execHoldoffExpiry (dt k : Nat) (s : State) : Host.Outcome State Fault Refusal :=
  let s := s.elapse dt
  .next (if s.holdoffDue k then s.message k else s)

/-- OVERFLOW_RECORD_WRITE (R67): queue 32 is EVQ, 33 is TRQ. -/
def execOverflowRecordWrite (dt k : Nat) (s : State) : Host.Outcome State Fault Refusal :=
  let s := s.elapse dt
  .next (if k = 32 then s.evqOverflow else if k = 33 then s.trqOverflow else s)

/-! ### The host link -/

/-- HOST_LINK_LOSS (R44, R80): whatever the cause, the module keeps executing its scene. -/
def execHostLinkLoss (dt : Nat) (_cause : LinkLossCause) (s : State) : Host.Outcome State Fault Refusal :=
  let s := s.elapse dt
  .next (if s.hif.linkUp then
      (({ s with hif := { s.hif with linkUp := false, linkLost := true }, obs := { s.obs with store := [] } } : State).hifErr 6).raise .hifLinkDown 0 [] true
    else s)

/-- HOST_LINK_RETURN (R80, R521): the endpoint is ready, and the host has set bus mastering and MSI-X again. What was kept is written before the record that clears HIF_LINK_DOWN, and messages pending leave. -/
def execHostLinkReturn (dt : Nat) (en : LinkEnables) (s : State) : Host.Outcome State Fault Refusal :=
  let s := s.elapse dt
  let back := ({ s with hif := { s.hif with linkUp := true, busMaster := en.busMaster, msixEn := en.msix, sweepAt := s.clk } } : State).flushKept
  .next (if !s.sys.endpoint then s else (if s.hif.linkUp then back else back.clear .hifLinkDown 0).sendPending)

/-! ### Enabling -/

/-- A write of HIF_CTRL (Table 2-3): ENABLE starts the queue engines, which write what was kept (R523); it is ignored before READY and refused without a READ window over the doorbell page (R50). -/
def State.writeHifCtrl (v : Word) (s : State) : State :=
  let old := s.regBit 0x00C 0
  let want := bit v 0
  let q := b2n (bit v 1)
  if !s.hif.ready then s.setReg 0x00C (pack [(0, b2n old), (1, q)])
  else if want && !old then
    if s.bufOk s.pageAddr 4096 true false then
      let s : State := { s with hif := { s.hif with linkLost := false, sweepAt := s.clk } }
      (s.setReg 0x00C (pack [(0, 1), (1, q)])).flushKept
    else (s.setReg 0x00C (pack [(1, q)])).hifErr 7
  else s.setReg 0x00C (pack [(0, b2n want), (1, q)])

/-- HIF_ENABLE. -/
def execHifEnable (dt : Nat) (v : Word) (s : State) : Host.Outcome State Fault Refusal := .next ((s.elapse dt).writeHifCtrl v)

/-- HIF_QUIESCE. -/
def execHifQuiesce (dt : Nat) (v : Word) (s : State) : Host.Outcome State Fault Refusal := .next ((s.elapse dt).writeHifCtrl v)

/-- A write of a queue's CTRL register (R49 to R51). -/
def State.writeQCtrl (k : Nat) (v : Word) (s : State) : State :=
  let o := qBase k + 8
  let old := s.regBit o 0
  let log := if old then s.regBits o 1 5 else bits v 1 5
  let rest := if k < 16 then [(6, bits v 6 2), (8, bits v 8 4)] else []
  let size := 2 ^ log * entryBytes k
  if bit v 0 && !old then
    if 4 ≤ log ∧ log ≤ 16 ∧ s.ringOk k size (decide (k < 16)) (decide (16 ≤ k)) then
      let s := s.setReg o (pack ([(0, 1), (1, log)] ++ rest))
      if k < 16 then s.setSq k {}
      else
        let c := s.cq k
        let s := s.setCq k { lostNew := c.lostNew }
        (if k = 32 then { s with hif := { s.hif with evqOnce := true } } else s).flushKept
    else (s.setReg o (pack ([(1, log)] ++ rest))).hifErr 7
  else s.setReg o (pack ([(0, b2n (bit v 0)), (1, log)] ++ rest))

/-- QUEUE_ENABLE: queues numbered as in kind 14 of Table 13-3. -/
def execQueueEnable (dt k : Nat) (v : Word) (s : State) : Host.Outcome State Fault Refusal :=
  let s := s.elapse dt
  .next (if k ≤ 33 then s.writeQCtrl k v else s)

/-! ### Windows -/

/-- What a command in flight still has to do with its buffer: read it, and write its results into it. -/
def Item.reads (i : Item) : Bool := decide (i.phase = .staging ∨ i.phase = .fencing) && (bufUse i.desc).1
def Item.writes (i : Item) : Bool := (bufUse i.desc).2

/-- Every operation in flight keeps its buffer inside one of the windows (R53). -/
def State.inFlightOk (s : State) (ws : List Win) : Bool :=
  s.hif.items.all fun i => !((i.reads || i.writes) && decide (0 < dLen i.desc)) || ws.any (winCovers (dAddr i.desc) (dLen i.desc) i.reads i.writes)

/-- Windows come into force; what was kept for a ring outside them may now be written. -/
def State.setWins (ws : List Win) (s : State) : State := ({ s with hif := { s.hif with wins := ws, winPend := none } } : State).flushKept

/-- A write of HIF_WIN_CTRL (R53). -/
def State.writeWinCtrl (v : Word) (s : State) : State :=
  if bit v 0 then
    if s.inFlightOk s.winRegs then s.setWins s.winRegs
    else { s with hif := { s.hif with winPend := some s.winRegs } }
  else s

/-- WINDOW_COMMIT. -/
def execWindowCommit (dt : Nat) (v : Word) (s : State) : Host.Outcome State Fault Refusal := .next ((s.elapse dt).writeWinCtrl v)

/-- WINDOW_COMMIT_APPLY (R53): once every operation using the range has finished. -/
def execWindowCommitApply (dt : Nat) (s : State) : Host.Outcome State Fault Refusal :=
  let s := s.elapse dt
  .next (match s.hif.winPend with
    | some ws => if s.inFlightOk ws then s.setWins ws else s
    | none => s)

/-! ### The Frisket key (R83) -/

/-- The 32 key bytes written, byte 0 first. -/
def State.keyBytes (s : State) : List Byte := leBytes 32 s.hif.keyWords.toNat

/-- A write of HIF_FKEY_CTRL: a LOCK attempt locks the key when its CRC-32C matches, and discards the words otherwise. -/
def State.writeFkeyCtrl (v : Word) (s : State) : State :=
  if s.hif.keyLocked || !bit v 0 then s
  else if crc32c s.keyBytes = s.hif.keyCheck then
    { s with hif := { s.hif with keyLocked := true, keyErr := false, key := s.hif.keyWords } }
  else { s with hif := { s.hif with keyErr := true, keyWords := 0 } }

/-- FKEY_LOCK. -/
def execFkeyLock (dt : Nat) (v : Word) (s : State) : Host.Outcome State Fault Refusal := .next ((s.elapse dt).writeFkeyCtrl v)

/-- A write of HIF_FKEYk or, for k = 8, of HIF_FKEY_CHECK; ignored once the key is locked. -/
def State.writeFkey (k : Nat) (v : Word) (s : State) : State :=
  if s.hif.keyLocked then s
  else if k < 8 then { s with hif := { s.hif with keyWords := setBits s.hif.keyWords (32 * k) 32 v.toNat } }
  else { s with hif := { s.hif with keyCheck := v } }

/-! ### fault.ack and refused opcodes -/

/-- Refusals of fault.ack (R450). -/
def ackRefusals (i : Item) (_ : State) : List Refuse :=
  let d := i.desc
  [malformed (decide (prm d 0 2 ≠ 0) && (srcOf (prm d 0 2)).isNone), malformed (decide (prm d 4 1 / 2 ≠ 0) || decide (prm d 5 3 ≠ 0) || decide (prm d 12 20 ≠ 0))]

/-- The entries a fault.ack names (R450). -/
def ackNames (d : Slot) (e : Entry) : Bool := prm d 0 2 == 0 || (e.src.info.1 == prm d 0 2 && (decide (prm d 4 1 % 2 = 1) || e.inst == prm d 2 2))

/-- FAULT_ACK (R450): DONE at take, with the number of occurrences acknowledged. -/
def execFaultAck (dt q : Nat) (desc auth : Slot) (s : State) : Host.Outcome State Fault Refusal :=
  .next ((s.elapse dt).takeCmd 0x0701 q desc auth false 0 ackRefusals
    (fun i s =>
      let upto := BitVec.ofNat 32 (prm desc 8 4)
      let r := s.ackWhere (ackNames desc) (if upto = 0 then s.flt.seq else upto)
      r.2.done i.id 0 r.1))

/-- OPCODE_REFUSED (R74): an opcode not in Table 2-13, or not permitted on its queue. -/
def execOpcodeRefused (dt q : Nat) (desc auth : Slot) (s : State) : Host.Outcome State Fault Refusal :=
  let wrong := match cmdInfo (dOp desc) with
    | none => true
    | some x => q == 15 && !x.1
  let s := s.elapse dt
  .next (if wrong then s.takeCmd (dOp desc) q desc auth false 0 (fun _ _ => []) (fun _ s => s) else s)

end Sys2Proof.Machine
end

