-- ==== Sys2Proof/Machine/LaneOps.lean ====
section
/-! DEFINITION. Lanes as units that functions are given to (R260 to R264, R291 to R293, Table 8-4): carriers and spares, calibration of the ADC slices (R471), starting and stopping, and the ports their alignment carries (R279). -/

namespace Sys2Proof.Machine

open Sys2Proof

/-- The spare of a lane's quad, and the working lane a spare stands for. -/
def spareOf (l : Nat) : Nat := l / 5 * 5 + 4
def workingOf (sp : Nat) (x : Lane) : Nat := sp / 5 * 5 + x.for_

/-- l of the working lane a lane works as (R260, R293). -/
def Lane.place (i : Nat) (x : Lane) : Nat := if i % 5 = 4 then x.for_ else i % 5

/-! ### Calibration of slices (R471) -/

/-- Slices in the order they are chosen: lowest e first, then the lower index. -/
def sliceOrder (es : List Nat) : List Nat :=
  (sortBy (fun a b : Nat × Nat => decide (a.1 < b.1 ∨ a.1 = b.1 ∧ a.2 ≤ b.2)) (es.zipIdx)).map (·.2)

/-- The mask of a set of slices. -/
def sliceMask (l : List Nat) : Nat := sumN (l.map fun x => 2 ^ x)

/-- Slices in use and unused. -/
def Lane.inUse (x : Lane) (i : Nat) : Bool := x.slices / 2 ^ i % 2 == 1

/-- A lane calibrated: the 32 slices of lowest e; SLICE_SHORT when fewer than 32 are within E_MAX. The errors are free values (log entry 1). -/
def State.calibrate (i : Nat) (s : State) : State :=
  let r := s.draw
  let es := (List.range 36).map fun k => Config.sliceError r.1 i k % 256
  let eMax := s.regBits 0xD008 0 8
  r.2.modLane i fun x => { x with sliceE := es, slices := sliceMask ((sliceOrder es).take 32), short := decide ((es.filter fun e => decide (e ≤ eMax)).length < 32) }

/-! ### Start and stop (Table 8-4) -/

/-- A lane enters ACQUIRE from OFF with a function: its slices are calibrated first (Table 14-1). -/
def State.startLane (i func q : Nat) (s : State) : State :=
  (s.calibrate i).modLane i fun x => { x with func := func, quire := q, link := .acquire, since := s.clk, losRaised := false, eqLimit := false, terr := 0 }

/-- A lane that loses alignment: its margin reads -2,048 (R278). The runs of R289 and R290 below a threshold go on: R289 is judged in REALIGN. -/
def Lane.lost (x : Lane) : Lane := { x with fom := -2048, highSince := none, idleSeq := none, rxSeq := none, loopActive := false, fwd := none, fwdSum := 0, fwdCount := 0, cum := none }

/-- A lane without alignment whose margin is judged no longer (R287). -/
def Lane.unaligned (x : Lane) : Lane := { x.lost with lowSince := none, retSince := none, dipSince := none }

/-- A lane whose function and loop are removed, or that is RETIRED: the transmitter stops. -/
def State.stopLane (i : Nat) (s : State) : State :=
  s.modLane i fun x => { x.unaligned with func := 0, quire := 0, link := .off, since := s.clk, txIdle := none, eqLimit := false }

/-- BAR0 offset of LNQ_Li_CTRL. -/
def laneReg (i : Nat) : Nat := 0x6400 + 32 * i

/-- LOOP of a lane. -/
def State.loop (s : State) (i : Nat) : Nat := s.regBits (laneReg i) 0 2

/-- A test loop ends: LOOP reads 0 and the lane stops (R286; log entry 101). -/
def State.endLoop (i : Nat) (s : State) : State := (s.setReg (laneReg i) (setBits (s.reg (laneReg i)) 0 2 0)).stopLane i

/-- A restored working lane takes its Ethernet function back from the spare, which returns to SPARE (R291). -/
def State.takeBack (w : Nat) (s : State) : State :=
  ((s.stopLane (spareOf w)).modLane (spareOf w) fun x => { x with unit := .spare, subst := false, for_ := 0, gen := nextGen x.gen }).modLane w fun x =>
    { x with unit := .inService, standby := false }

/-- A working lane given a function, as Ethernet at MAC EN or as a quire's end: the lane itself, or the spare that carries its function (R291, R293). A RETIRED lane without a spare leaves the function without a lane. -/
def State.giveLane (w func q : Nat) (s : State) : State :=
  let sp := spareOf w
  let carried := (s.lane sp).subst && (s.lane sp).for_ == w % 5
  if carried && !(decide (func = 1) && (s.lane w).standby) then (s.endLoop sp).startLane sp func q
  else
    let s := if carried then (s.takeBack w).noteRecord else s
    let x := s.lane w
    if x.unit = .retired then s
    else
      let s := if x.unit = .spare then (s.modLane w fun y => { y with unit := .inService, standby := false }).noteRecord else s
      (s.endLoop w).startLane w func q

/-! ### Ports (R89, R279) -/

/-- The enabled MAC that names a quad. -/
def State.macOf (s : State) (q : Nat) : Option Nat :=
  (List.range 8).find? fun m => s.regBit (0x1020 + 4 * m) 8 && s.regBits (0x1020 + 4 * m) 0 4 == q

/-- The port of MAC m that place l of its quad belongs to (Table 3-1). -/
def State.portAt (s : State) (m l : Nat) : Nat :=
  let sp := s.regBits (0x1020 + 4 * m) 4 2
  4 * m + (if sp = 0 then 0 else if sp = 1 then l / 2 else l)

/-- The Ethernet port a lane carries. -/
def State.portOf (s : State) (i : Nat) : Option Nat :=
  if (s.lane i).func = 1 then (s.macOf (i / 5)).map fun m => s.portAt m ((s.lane i).place i) else none

/-- The lanes that share the alignment of a lane: those of its port, or the lane alone. -/
def State.peers (s : State) (i : Nat) : List Nat :=
  match s.portOf i with
  | none => [i]
  | some p => (List.range 5).filterMap fun j => let k := i / 5 * 5 + j
      if s.portOf k = some p then some k else none

/-- How many lanes a port has (Table 3-1). -/
def State.portWidth (s : State) (p : Nat) : Nat :=
  let sp := s.regBits (0x1020 + 4 * (p / 4)) 4 2
  if sp = 0 then 4 else if sp = 1 then 2 else 1

/-- LINK of the port of a lane set. -/
def State.setPortLink (i : Nat) (up : Bool) (s : State) : State :=
  match s.portOf i with
  | none => s
  | some p => s.modPort p fun x => { x with link := up }

end Sys2Proof.Machine
end

