-- ==== Sys2Proof/Machine/Ingest.lean ====
section
/-! DEFINITION. Source ingest: MACs and ports (R88 to R94), streams (R96 to R103), filtering and merging (R104 to R108), frames, capture times, fill results and the freeze detector (R109 to R118). -/

namespace Sys2Proof.Machine

open Sys2Proof

/-! ### MACs and ports -/

/-- Registers of MAC m and port p. -/
def macReg (m : Nat) : Nat := 0x1020 + 4 * m
def portReg (p : Nat) : Nat := 0x1800 + 64 * p

/-- A quad is in Ethernet mode: enabled with MODE 1 (Table 8-6). -/
def State.quadEth (s : State) (q : Nat) : Bool := s.regBit (0x6040 + 4 * q) 1 && s.regBit (0x6040 + 4 * q) 0

/-- SPLIT of a MAC (Table 3-1). -/
def State.macSplit (s : State) (m : Nat) : Nat := s.regBits (macReg m) 4 2

/-- The port exists under its MAC's SPLIT (Table 3-1) and is enabled: ACTIVE of Table 3-5. -/
def State.portActive (s : State) (p : Nat) : Bool :=
  let k := p % 4
  let sp := s.macSplit (p / 4)
  s.regBit (portReg p) 0 && s.regBit (macReg (p / 4)) 8 && decide (if sp = 0 then k = 0 else if sp = 1 then k < 2 else True)

/-- The four lanes of a MAC's quad are given to it (R291). -/
def State.startMac (q : Nat) (s : State) : State := (List.range 4).foldl (fun s l => s.giveLane (5 * q + l) 1 0) s

/-- The lanes of a MAC stop, and its ports lose their link. -/
def State.stopMac (m q : Nat) (s : State) : State :=
  let s := (List.range 5).foldl (fun s l => if (s.lane (5 * q + l)).func = 1 then s.stopLane (5 * q + l) else s) s
  (List.range 4).foldl (fun s k => s.modPort (4 * m + k) fun x => { x with link := false }) s

/-- A write of ING_MACm_CFG (R88, R89). -/
def State.writeMac (m : Nat) (v : Word) (s : State) : State :=
  let o := macReg m
  let old := s.reg o
  if bit old 8 then
    if !bit v 8 && !((List.range 4).any fun k => s.regBit (portReg (4 * m + k)) 0) then
      (s.setReg o (setBit old 8 false)).stopMac m (bits old 0 4)
    else s
  else
    let q := bits v 0 4
    let ok := bit v 8 && decide (bits v 4 2 ≠ 3) && s.quadEth q &&
      !((List.range 8).any fun n => n != m && s.regBit (macReg n) 8 && s.regBits (macReg n) 0 4 == q)
    let s := s.setReg o (pack [(0, q), (4, bits v 4 2), (8, b2n ok)])
    if ok then s.startMac q else s

/-- MAC_ENABLE. -/
def execMacEnable (dt m : Nat) (v : Word) (s : State) : Host.Outcome State Fault Refusal :=
  let s := s.elapse dt
  .next (if m < 8 then s.writeMac m v else s)

/-- IPv4 and IPv6 addresses of a port. -/
def State.portV4 (s : State) (p : Nat) : Word := s.reg (portReg p + 0x10)
def State.portV6 (s : State) (p : Nat) : BitVec 128 :=
  BitVec.ofNat 128 ((List.range 4).foldl (fun a k => a * 2 ^ 32 + (s.reg (portReg p + 0x20 + 4 * k)).toNat) 0)

/-- A protocol frame sent on a port, which only an active one sends (R91). -/
def State.sendNet (p : Nat) (o : NetOut) (s : State) : State := if s.portActive p then (s.emit (.net p o)).count (0x040 + 6 * p + 5) 1 else s

/-! ### Group membership (R92) -/

def State.robustness (s : State) : Nat := max 1 (s.regBits 0x1004 0 3)
def State.uri (s : State) : Nat := max 1 (s.regBits 0x1004 8 8) * (100 * msU)

/-- The first copy of a state-change report, with the repeats it leaves; a port that is not active sends neither. -/
def State.report (l : Leg) (join : Bool) (s : State) : State :=
  let s := s.sendNet l.port (.report l.ipv6 join l.group l.src)
  let n := s.robustness - 1
  if n = 0 ∨ !s.portActive l.port then s
  else s.modPort l.port fun x => { x with reports := x.reports ++ [{ ipv6 := l.ipv6, join := join, group := l.group, src := l.src, left := n, sentAt := s.clk }] }

/-- TIM_CTRL fields: PTP_EN, IPV6, DELAY_UNICAST, HOST_START and DOMAIN. -/
def State.timCtrl (s : State) (b : Nat) : Bool := s.regBit 0x8004 b

/-- Address of an acceptable-master entry (Table 11-6). -/
def State.amAddr (s : State) (e : Nat) : BitVec 128 :=
  let o := 0x8100 + 32 * e + 0xC
  if s.regBit (o - 4) 17 then BitVec.ofNat 128 ((List.range 4).foldl (fun a k => a * 2 ^ 32 + (s.reg (o + 4 * k)).toNat) 0)
  else BitVec.ofNat 128 (s.reg o).toNat

/-- A port takes part in PTP (R381). -/
def State.ptpPort (s : State) (p : Nat) : Bool :=
  s.timCtrl 0 && decide (p < 32) && s.regBit 0x8008 p && s.portActive p && s.regBit (portReg p) (if s.timCtrl 1 then 2 else 1)

/-- The groups joined for PTP: on each port that takes part, with every enabled acceptable-master entry of its family as source (R382). -/
def State.ptpJoins (s : State) : List Leg :=
  let v6 := s.timCtrl 1
  let es := (List.range 8).filter fun e => s.regBit (0x8108 + 32 * e) 16 && (s.regBit (0x8108 + 32 * e) 17 == v6)
  (((List.range 32).filter s.ptpPort).map fun p => es.map fun e =>
    { port := p, ipv6 := v6, group := BitVec.ofNat 128 (if v6 then 0xFF0E * 2 ^ 112 + 0x181 else 0xE0000181), udp := 319, src := s.amAddr e }).flatten

/-- State-change reports for the groups a write joined or left (R92, R382). -/
def State.joinChanges (old s : State) : State :=
  let a := old.ptpJoins
  let b := s.ptpJoins
  let s := (b.filter fun l => !decide (l ∈ a)).foldl (fun s l => s.report l true) s
  (a.filter fun l => !decide (l ∈ b)).foldl (fun s l => s.report l false) s

/-- A probe of address detection (R94): the next ARP probe or announcement, and the neighbour solicitation or the end of IPv6 detection. PRESUMED: three probes and two announcements, one neighbour solicitation (log entry 9). -/
def State.detect (p : Nat) (s : State) : State :=
  let x := s.port p
  let c := s.reg (portReg p)
  let s := if bit c 1 && !x.v4Conf && decide (x.probes < 5) then
      (s.sendNet p (if x.probes < 3 then .arpProbe (s.portV4 p) else .arpAnnounce (s.portV4 p))).modPort p fun y => { y with probes := y.probes + 1 }
    else s
  if !(bit c 2 && x.tentative) then s
  else if x.nsSent = 0 then (s.sendNet p (.nsProbe (s.portV6 p))).modPort p fun y => { y with nsSent := 1 }
  else s.modPort p fun y => { y with tentative := false }

/-- A write of ING_Pp_CTRL (R93, R94): setting EN starts address detection once the port is active. It sends no join again for the legs still admitted (log entry 81). -/
def State.writePort (p : Nat) (v : Word) (s : State) : State :=
  let o := portReg p
  let old := s.reg o
  if bit old 0 then
    if bit v 0 then s
    else
      let x := s.port p
      let s := (s.setReg o (setBit old 0 false)).setPort p { link := x.link, strangerAt := x.strangerAt }
      if x.v4Conf || x.v6Conf then s.clear .streamCollision (instOf 7 p) else s
  else
    let mac := bits (s.reg (o + 0xC)) 0 16 * 2 ^ 32 + (s.reg (o + 8)).toNat
    let v4 := bit v 1
    let v6 := bit v 2
    let ok := bit v 0 && decide (mac ≠ 0) && decide (mac / 2 ^ 40 % 2 = 0) && ((v4 && decide (s.portV4 p ≠ 0)) || (v6 && decide (s.portV6 p ≠ 0)))
    let s := s.setReg o (setBit (v &&& 0xFFFF) 0 ok)
    if ok then
      let s := s.setPort p { s.port p with tentative := v6, probes := 0, nsSent := 0, oldQuerier := false, v4Conf := false, v6Conf := false }
      if s.portActive p then s.detect p else s
    else s

/-- PORT_ENABLE. -/
def execPortEnable (dt p : Nat) (v : Word) (s : State) : Host.Outcome State Fault Refusal :=
  let s := s.elapse dt
  .next (if p < 32 then State.joinChanges s (s.writePort p v) else s)

/-- DUPLICATE_ADDRESS_DETECTION (R94): the next step of address detection on a port. -/
def execDuplicateAddressDetection (dt p : Nat) (s : State) : Host.Outcome State Fault Refusal :=
  let s := s.elapse dt
  .next (if p < 32 ∧ s.portActive p then s.detect p else s)

/-- An address conflict found (R94). -/
def State.conflict (p : Nat) (v6 : Bool) (s : State) : State :=
  if v6 then
    if (s.port p).v6Conf then s else (s.modPort p fun x => { x with v6Conf := true, tentative := false }).raise .streamCollision (instOf 7 p) [2] true
  else
    if (s.port p).v4Conf then s else (s.modPort p fun x => { x with v4Conf := true }).raise .streamCollision (instOf 7 p) [1] true

/-! ### Reports and queries (R92) -/

/-- The next copy of a report is due. -/
def State.reportDue (s : State) (r : Report) : Bool := decide (r.sentAt + s.uri ≤ s.clk)

/-- STATE_CHANGE_REPORT_REPEAT (R92): each report one URI after its last copy, until ROBUSTNESS copies are sent. -/
def execStateChangeReportRepeat (dt p : Nat) (s : State) : Host.Outcome State Fault Refusal :=
  let s := s.elapse dt
  .next (if p < 32 ∧ s.portActive p then
      let due := (s.port p).reports.filter s.reportDue
      let sent (r : Report) : Report := if s.reportDue r then { r with left := r.left - 1, sentAt := s.clk } else r
      (due.foldl (fun s r => s.sendNet p (.report r.ipv6 r.join r.group r.src)) s).modPort p fun y =>
        { y with reports := (y.reports.map sent).filter fun r => decide (0 < r.left) }
    else s)

/-- The legs of a stream with their numbers. -/
def legsOf (x : Stream) : List (Nat × Leg) := (x.red.toList.map fun l => (0, l)) ++ x.blue.toList.map fun l => (1, l)

/-- Every admitted leg as (stream, leg number, leg). -/
def State.legs (s : State) : List (Nat × Nat × Leg) :=
  ((List.range 64).map fun k => (legsOf (s.stream k)).map fun l => (k, l.1, l.2)).flatten

/-- MEMBERSHIP_QUERY (R92): answered for every admitted leg it asks about; older versions are counted, set OLD_QUERIER and are ignored. -/
def execMembershipQuery (dt p : Nat) (qy : McQuery) (s : State) : Host.Outcome State Fault Refusal :=
  let s := s.elapse dt
  .next (if p < 32 ∧ s.portActive p then
      if qy.old then s.modPort p fun x => { x with oldQuerier := true, oldQueries := x.oldQueries + 1 }
      else
        (((s.ptpJoins.map fun l => ((0, 0, l) : Nat × Nat × Leg)) ++ s.legs).filter fun l => l.2.2.port == p && l.2.2.ipv6 == qy.ipv6 && (match qy.group with | none => true | some g => g == l.2.2.group) &&
          (qy.sources.isEmpty || l.2.2.src ∈ qy.sources)).foldl (fun s l => s.sendNet p (.report l.2.2.ipv6 true l.2.2.group l.2.2.src)) s
    else s)

/-! ### Admission -/

/-- A field of PARAMS in network order. -/
def prmBe (d : Slot) (o n : Nat) : Nat := beNat ((List.range n).map fun k => BitVec.ofNat 8 (prm d (o + k) 1))

/-- Fields of a stream's format (Table 3-7), kept as PARAMS. -/
def fmtN (f : BitVec 256) (o n : Nat) : Nat := bits f (8 * o) (8 * n)
def fmtLive (f : BitVec 256) : Bool := bit f 16
def fmtW (f : BitVec 256) : Nat := fmtN f 8 2
def fmtH (f : BitVec 256) : Nat := fmtN f 10 2
def fmtNum (f : BitVec 256) : Nat := fmtN f 16 4
def fmtDen (f : BitVec 256) : Nat := fmtN f 20 4
/-- Bits of one pixel (R98). -/
def fmtBits (f : BitVec 256) : Nat := if fmtN f 12 1 = 0 then 20 else 3 * fmtN f 13 1
/-- PDIFF in clock units; 0 means 10 ms. -/
def fmtPdiff (f : BitVec 256) : Nat := (if fmtN f 26 1 = 0 then 10 else fmtN f 26 1) * msU

/-- A format field out of range (R97, Table 3-7). -/
def fmtBad (f : BitVec 256) : Bool :=
  let w := fmtW f; let h := fmtH f; let num := fmtNum f; let den := fmtDen f
  !(decide (1 ≤ w ∧ w ≤ 7680 ∧ 1 ≤ h ∧ h ≤ 4320 ∧ fmtN f 12 1 ≤ 1) &&
    decide (if fmtN f 12 1 = 0 then fmtN f 13 1 = 10 else fmtN f 13 1 = 8 ∨ fmtN f 13 1 = 10 ∨ fmtN f 13 1 = 12) &&
    decide (fmtN f 14 1 ≤ 1 ∧ fmtN f 15 1 ≤ 2 ∧ den ≠ 0 ∧ den ≤ num ∧ num ≤ 240 * den ∧ fmtN f 24 1 = 0) &&
    (!fmtLive f || decide (2 ≤ fmtN f 25 1)) && decide (fmtN f 26 1 ≤ 10 ∧ fmtN f 27 1 ≤ 1 ∧ 96 ≤ fmtN f 28 1 ∧ fmtN f 28 1 ≤ 127) &&
    decide (w * h * num ≤ 2000000000 * den))

/-- The leg a form 1 describes (Table 3-8). -/
def legOf (d : Slot) : Leg :=
  let v6 := decide (128 ≤ prm d 3 1)
  { port := prm d 2 1 % 32, ipv6 := v6, udp := prm d 8 2,
    group := BitVec.ofNat 128 (if v6 then (0xFF30 + prm d 3 1 % 16) * 2 ^ 112 + prmBe d 4 4 else prmBe d 4 4),
    src := BitVec.ofNat 128 (if v6 then prmBe d 16 16 else prmBe d 16 4) }

/-- LEG of a form 1. -/
def legNo (d : Slot) : Nat := prm d 2 1 / 128

/-- A form 1 field out of range: an IPv4 group outside 224.0.1.0 to 239.255.255.255, or a source that is zero or multicast (R97). -/
def legBad (d : Slot) : Bool :=
  let l := legOf d
  if l.ipv6 then decide (l.src = 0) || decide (l.src.toNat / 2 ^ 120 = 0xFF)
  else decide (l.group.toNat < 0xE0000100) || decide (0xEFFFFFFF < l.group.toNat) || decide (l.src = 0) || decide (l.src.toNat / 2 ^ 28 = 14)

/-- Port rate in bit/s (Table 3-1). -/
def State.portRate (s : State) (p : Nat) : Nat :=
  let sp := s.macSplit (p / 4)
  (if sp = 0 then 400 else if sp = 1 then 200 else 100) * 1000000000

/-- The nominal rate of a leg as a fraction (R98). -/
def legRate (f : BitVec 256) : Nat × Nat := (fmtW f * fmtH f * fmtBits f * fmtNum f * 108, 100 * fmtDen f)

/-- Sum of two fractions. -/
def addFrac (a b : Nat × Nat) : Nat × Nat := (a.1 * b.2 + b.1 * a.2, a.2 * b.2)

/-- A leg of a format more would take the port above 95% of its rate (R97). -/
def State.portFull (s : State) (p : Nat) (f : BitVec 256) : Bool :=
  let r := (s.legs.filter fun l => l.2.2.port == p).foldl (fun a l => addFrac a (legRate (s.stream l.1).fmt)) (legRate f)
  decide (95 * s.portRate p * r.2 < 100 * r.1)

/-- Extents of the six frame buffers (R99). -/
def streamExt (f : BitVec 256) : Nat := 6 * extents (ceilDiv (fmtW f * fmtH f * fmtBits f) 8)

/-- The class of a stream's buffers (Table 12-1). -/
def streamCls (frisket : Bool) : Nat := if frisket then clsFrisket else clsReal

/-- Refusals of stream.admit (R97). -/
def admitRefusals (i : Item) (s : State) : List Refuse :=
  let d := i.desc
  let k := prm d 1 1
  let x := s.stream k
  let l := legOf d
  let f : BitVec 256 := BitVec.ofNat 256 (prm d 0 32)
  let form0 := decide (prm d 0 1 = 0)
  let ctrl := s.reg (portReg l.port)
  if form0 then
    [malformed (decide (63 < k) || fmtBad f), authWrong (x.frisket && i.sq != 15), notReady (!s.tim.valid), badState (decide (x.st ≠ .free)) 0,
     noRoom (!s.canAlloc (streamCls (i.sq == 15)) (streamExt f)) 3]
  else
    [malformed (decide (1 < prm d 0 1) || decide (63 < k) || legBad d), authWrong (x.frisket && i.sq != 15), notReady (!s.tim.valid),
     badState (i.sq == 15 && !x.frisket) 0, badState (decide (x.st = .free ∨ x.st = .releasing)) 0,
     badState (if legNo d = 0 then x.red.isSome else x.blue.isSome) 0,
     badState (!s.portActive l.port || !(if l.ipv6 then bit ctrl 2 else bit ctrl 1)) 0,
     badState (s.legs.any fun y => y.2.2.port == l.port && y.2.2.src == l.src && y.2.2.group == l.group && y.2.2.udp == l.udp) 0,
     noRoom (s.portFull l.port x.fmt) 4]

/-- An accepted stream.admit: form 0 defines the stream (R99), form 1 installs the filter and joins (R100). It lands at its target. -/
def admitAccept (i : Item) (s : State) : State :=
  let d := i.desc
  let k := prm d 1 1
  if prm d 0 1 = 0 then
    let f : BitVec 256 := BitVec.ofNat 256 (prm d 0 32)
    let r := s.allocD (streamCls (i.sq == 15)) (streamExt f)
    (r.2.setStream k { st := .defined, frisket := i.sq == 15, fmt := f, visibleFrom := i.target, alloc := r.1 }).phase i.id .landing
  else
    let l := { legOf d with admAt := s.clk }
    let s := s.modStream k fun (x : Stream) =>
      let y : Stream := if legNo d = 0 then { x with red := some l } else { x with blue := some l }
      let from_ := if x.st = .defined ∨ s.opened < x.visibleFrom then max x.visibleFrom i.target else x.visibleFrom
      if y.st = .defined then { y with st := .joining, joinAt := s.clk, visibleFrom := from_ } else { y with visibleFrom := from_ }
    (s.report l true).phase i.id .landing

/-- A stream.admit lands: no layer samples the stream for an earlier impression (R99, R100; log entry 82 for a second leg). -/
def State.landStream (k m : Nat) (s : State) : State := s.modStream k fun x => { x with visibleFrom := max x.visibleFrom m }

/-- STREAM_ADMIT. -/
def execStreamAdmit (dt q : Nat) (desc auth : Slot) (s : State) : Host.Outcome State Fault Refusal :=
  .next ((s.elapse dt).takeCmd 0x0201 q desc auth true 0 admitRefusals admitAccept)

/-! ### Stream and leg faults -/

/-- The open conditions of a leg clear (R102, R448). -/
def State.clearLeg (k n : Nat) (s : State) : State := s.clear .streamLoss (instOf 5 (2 * k + n))

/-- A leg goes down (R103). -/
def State.legDown (k n : Nat) (s : State) : State :=
  let dn (l : Leg) : Leg := { l with up := false, lossOpen := true }
  (s.modStream k fun x => if n = 0 then { x with red := x.red.map dn } else { x with blue := x.blue.map dn }).raise .streamLoss (instOf 5 (2 * k + n)) [0, 0] true

/-- The absence time of a format in clock units (R103). -/
def absence (f : BitVec 256) : Nat := max (3 * fmtDen f * secU / max 1 (fmtNum f)) (10 * msU)

/-! ### Frames -/

/-- The sample at (x, y): the first written stands (R107). -/
def pxAt (rows : List RtpRow) (x y : Nat) : Option Smp :=
  rows.findSome? fun r => if r.line = y ∧ r.x ≤ x then r.px[x - r.x]? else none

/-- Every sample of a line has been written. -/
def lineFull (rows : List RtpRow) (w y : Nat) : Bool :=
  decide (w ≤ ((sortBy (fun a b => decide (a.x ≤ b.x)) (rows.filter fun r => r.line == y)).foldl
    (fun c r => if r.x ≤ c then max c (r.x + r.px.length) else c) 0))

/-- Every sample of every active line has been written (R109). -/
def frameFull (f : BitVec 256) (rows : List RtpRow) : Bool := (List.range (fmtH f)).all fun y => lineFull rows (fmtW f) y

/-- The freeze signature (R116): luma for YCbCr, G for RGB, at x and y divisible by 4. -/
def signature (f : BitVec 256) (rows : List RtpRow) : Word :=
  crc32c (((List.range (fmtH f / 4 + b2n (decide (fmtH f % 4 ≠ 0)))).map fun y =>
    ((List.range (fmtW f / 4 + b2n (decide (fmtW f % 4 ≠ 0)))).map fun x =>
      match pxAt rows (4 * x) (4 * y) with
      | some p => beBytes 2 (if fmtN f 12 1 = 0 then p.a else p.b)
      | none => [0, 0]).flatten).flatten)

/-- Capture time in ns from the RTP timestamp and the arrival of the first packet (R112). -/
def captureNs (first : Nat) (ts : Word) : Nat :=
  let k := first * 90000 / secU
  let d := (k + 2 ^ 32 - ts.toNat) % 2 ^ 32
  (k - d) * 1000000000 / 90000

/-- A capture that would fall before the epoch is older than any (log entry 10). -/
def capture (first : Nat) (ts : Word) : Nat := captureNs first ts * nsU

/-- The row of a frame whole from x = 0, for filling a line (R113). -/
def lineOf (rows : List RtpRow) (w y : Nat) : RtpRow := { line := y, x := 0, px := (List.range w).map fun x => (pxAt rows x y).getD ⟨0, 0, 0⟩ }

/-- The rows of a fill result: complete lines of the frame, the others of the previous result (R113, R115). -/
def fillRows (f : BitVec 256) (rows prev : List RtpRow) : List RtpRow :=
  (List.range (fmtH f)).map fun y => if lineFull rows (fmtW f) y then lineOf rows (fmtW f) y else lineOf prev (fmtW f) y

/-- The run of R117 after a complete frame: the stream, and whether the run has just reached FREEZE_N. -/
def runStep (x : Stream) (sig : Word) (cap : Nat) : Stream × Bool :=
  if !fmtLive x.fmt then (x, false)
  else if x.run = 0 ∨ sig ≠ x.sig then ({ x with run := 1, runFirst := cap, runLast := cap, frozen := false }, false)
  else if cap ≤ x.runLast then (x, false)
  else
    let hit := decide (x.run + 1 = fmtN x.fmt 25 1)
    ({ x with run := x.run + 1, runLast := cap, frozen := x.frozen || hit }, hit)

/-- A timestamp is newer than another, as serial numbers (log entry 83). -/
def newerTs (a b : Word) : Bool := a != b && serLe b a

/-- The newest of some frames. -/
def newest (l : List Frame) : Option Frame :=
  l.foldl (fun b f => match b with
    | none => some f
    | some g => if newerTs f.ts g.ts then some f else some g) none

/-- The frame a stream offers a layer at an instant (R113): the newest one closed by then, complete, or of any kind under fill. -/
def offeredOf (l : List Frame) (fill : Bool) (t : Nat) : Option Frame := newest (l.filter fun f => decide (f.doneAt ≤ t) && (f.complete || fill))

/-- The closed frames that an instant from t on may be offered: those closed after it, and of those closed before the newest of each kind. -/
def offers (t : Nat) (l : List Frame) : List Frame :=
  let keep := (offeredOf l false t).toList ++ (offeredOf l true t).toList
  l.filter fun f => decide (t < f.doneAt) || decide (f ∈ keep)

/-- The last tick, before which no commit point to come samples; now while no tick is taken. -/
def State.lastTick (s : State) : Nat := if s.tim.genRun then s.tim.tickAt else s.tim.time

/-- How long a timestamp stands for a frame that has closed: half the wrap of the media clock (R112; log entry 8). -/
def tsLife : Nat := 2 ^ 31 * secU / 90000

/-- An open frame closes, complete or not (R110, R115 to R117). -/
def State.closeFrame (k : Nat) (o : OpenFrame) (complete : Bool) (s : State) : State :=
  let x := s.stream k
  let cap := capture o.first o.ts
  let now := s.ns * nsU
  let gone : GoneFrame := { ts := o.ts, firstAt := o.firstAt, goneAt := s.clk, keys := o.keys, maxDiff := o.maxDiff, diffRaised := o.diffRaised }
  let x := { x with opens := x.opens.filter fun y => y.ts != o.ts, gone := gone :: x.gone.filter fun g => decide (s.clk < g.goneAt + tsLife), pdiff := satU 24 (o.maxDiff / 1000) }
  if complete then
    let sig := signature x.fmt o.rows
    let fr : Frame := { ts := o.ts, cap := cap, doneAt := now, complete := true, sig := sig, rows := o.rows }
    let was := x.frozen
    let (x, hit) := runStep x sig cap
    let x := { x with closed := offers s.lastTick (fr :: x.closed), lastFill := some fr, sig := sig, hasFrame := true, nComplete := (x.nComplete + 1) % 65536, secDone := x.secDone + 1 }
    let s := (s.setStream k x).count (0x100 + 8 * k + 5) 1
    if hit then (s.count (0x100 + 8 * k + 7) 1).raise .streamFrozen (instOf 6 k) [] true
    else if was && !x.frozen then s.clear .streamFrozen (instOf 6 k) else s
  else
    let x := match x.lastFill with
      | some p =>
        let fr : Frame := { ts := o.ts, cap := min cap p.cap, doneAt := now, complete := false, rows := fillRows x.fmt o.rows p.rows }
        { x with closed := offers s.lastTick (fr :: x.closed), lastFill := some fr }
      | none => x
    let x := { x with nIncomplete := (x.nIncomplete + 1) % 65536, secBad := x.secBad + 1 }
    ((s.setStream k x).count (0x100 + 8 * k + 6) 1).raise .streamLoss (instOf 6 k) [1, o.ts.toNat] false

/-- The hold time of a stream: PDIFF while both legs are up, otherwise 0 (R110). -/
def holdTime (x : Stream) : Nat :=
  if (x.red.map (·.up)).getD false && (x.blue.map (·.up)).getD false then fmtPdiff x.fmt else 0

/-- Open frames whose hold time has passed close incomplete (R110). -/
def State.closeHeld (k : Nat) (s : State) : State :=
  let x := s.stream k
  (x.opens.filter fun o => match o.newerAt with | none => false | some t => decide (t + holdTime x ≤ s.clk)).foldl (fun s o => s.closeFrame k o false) s

/-- FRAME_HOLD_EXPIRY. -/
def execFrameHoldExpiry (dt k : Nat) (s : State) : Host.Outcome State Fault Refusal :=
  let s := s.elapse dt
  .next (if k < 64 then s.closeHeld k else s)

/-- State.clk of the first packet of a frame newer than a timestamp (R110). -/
def newerSince (x : Stream) (ts : Word) : Option Nat :=
  let l := (x.opens.filter fun o => newerTs o.ts ts).map (·.firstAt) ++ (x.gone.filter fun g => newerTs g.ts ts).map (·.firstAt)
  match l with
  | [] => none
  | a :: t => some (t.foldl min a)

/-- A new frame opens: the oldest of two open ones closes at once, and older ones start their hold (R109, R110). -/
def State.openFrame (k : Nat) (ts : Word) (s : State) : State :=
  let s := match (s.stream k).opens with
    | a :: b :: _ => s.closeFrame k (if newerTs a.ts b.ts then b else a) false
    | _ => s
  s.modStream k fun x =>
    let o : OpenFrame := { ts := ts, first := s.ns * nsU, firstAt := s.clk, newerAt := newerSince x ts }
    let hold (y : OpenFrame) : OpenFrame := if newerTs ts y.ts then { y with newerAt := some (y.newerAt.getD s.clk) } else y
    { x with opens := x.opens.map hold ++ [o] }

/-- The path difference of a key whose first copy on this leg comes now and whose copy on the other leg has come, in ns (R108). -/
def pathDiff (keys : List (Word × Nat × Nat)) (key : Word) (leg now : Nat) : Option Nat :=
  if keys.any fun e => e.1 == key && e.2.1 == leg then none else (keys.find? fun e => e.1 == key && e.2.1 != leg).map fun e => now - e.2.2

/-- PATH_DIFF_EXCEEDED when a difference passes PDIFF, once per frame (R108). -/
def State.diffCheck (k d : Nat) (raised : Bool) (s : State) : Bool × State :=
  if decide (fmtPdiff (s.stream k).fmt < d * nsU) && !raised then (true, s.raise .pathDiffExceeded (instOf 6 k) [] false) else (raised, s)

/-- An open frame of a stream replaced. -/
def State.putOpen (k : Nat) (ts : Word) (o : OpenFrame) (s : State) : State :=
  s.modStream k fun x => { x with opens := x.opens.map fun y => if y.ts = ts then o else y }

/-- The largest difference of the current second (R515). -/
def State.secDiffer (k d : Nat) (s : State) : State := s.modStream k fun x => { x with secDiff := max x.secDiff (d / 1000) }

/-- A duplicate in an open frame, with its key on this leg and the path difference it shows (R108). -/
def State.openDup (k : Nat) (o : OpenFrame) (d? : Option Nat) (s : State) : OpenFrame × State :=
  match d? with
  | none => (o, s)
  | some d =>
    let r := s.diffCheck k d o.diffRaised
    ({ o with maxDiff := max o.maxDiff d, diffRaised := r.1 }, r.2.secDiffer k d)

/-- An open frame replaced; it closes once it is complete (R109). -/
def State.updateOpen (k : Nat) (o : OpenFrame) (s : State) : State :=
  let s := s.putOpen k o.ts o
  if o.marker && frameFull (s.stream k).fmt o.rows then s.closeFrame k o true else s

/-- A packet of a leg in an open frame: written once, or a duplicate (R107, R108). The marker counts from either leg (R109). -/
def State.mergeOpen (k leg : Nat) (m : MediaPkt) (o : OpenFrame) (s : State) : State :=
  let seen : OpenFrame := { o with keys := o.keys ++ [(m.seq, leg, s.ns)], marker := o.marker || m.marker }
  if o.keys.any fun e => e.1 == m.seq then
    let r := (s.count (0x100 + 8 * k + 2) 1).openDup k seen (pathDiff o.keys m.seq leg s.ns)
    r.2.updateOpen k r.1
  else
    let s := s.count (0x100 + 8 * k + leg) 1
    let s := s.modStream k fun x => if leg = 0 then { x with secRed := x.secRed + 1 } else { x with secBlue := x.secBlue + 1 }
    s.updateOpen k { seen with rows := o.rows ++ m.rows }

/-- What is kept of a closed frame replaced. -/
def State.putGone (k : Nat) (g : GoneFrame) (s : State) : State :=
  s.modStream k fun x =>
    let gone := x.gone.map fun y => if y.ts = g.ts then g else y
    { x with gone := gone, pdiff := satU 24 (((gone.head?).map (·.maxDiff)).getD 0 / 1000) }

/-- A packet of a leg for a frame that has closed: a duplicate when its key was written, otherwise late (R107). Its key counts for the path difference all the same (R108). -/
def State.mergeGone (k leg : Nat) (m : MediaPkt) (g : GoneFrame) (s : State) : State :=
  let dup := g.keys.any fun e => e.1 == m.seq
  let seen : GoneFrame := if dup then { g with keys := g.keys ++ [(m.seq, leg, s.ns)] } else { g with lateKeys := g.lateKeys ++ [(m.seq, leg, s.ns)] }
  let s1 := s.count (0x100 + 8 * k + (if dup then 2 else 3)) 1
  match pathDiff (if dup then g.keys else g.lateKeys) m.seq leg s.ns with
  | none => s1.putGone k seen
  | some d =>
    let r := s1.diffCheck k d g.diffRaised
    (r.2.secDiffer k d).putGone k { seen with maxDiff := max g.maxDiff d, diffRaised := r.1 }

/-- The join grace has passed with no packet (Table 3-9): 2 s. -/
def State.endGrace (k : Nat) (s : State) : State :=
  let x := s.stream k
  if x.st = .joining ∧ x.joinAt + 2 * secU ≤ s.clk then (s.setStream k { x with st := .absent }).raise .streamAbsent (instOf 6 k) [] true else s

/-- A leg has had no packet for the absence time, counted from its admission until its first (log entry 84), and is not yet known to be down. -/
def legSilent (x : Stream) (now : Nat) (l : Leg) : Bool := !l.lossOpen && decide (l.lastAt.getD l.admAt + absence x.fmt ≤ now)

/-- Legs without a packet for the absence time are down, and a stream without one on any leg is ABSENT (R103, Table 3-9). -/
def State.absences (k : Nat) (s : State) : State :=
  let x := s.stream k
  let s := (legsOf x).foldl (fun s l => if legSilent x s.clk l.2 then s.legDown k l.1 else s) s
  if x.st = .receiving ∧ x.lastAt + absence x.fmt ≤ s.clk then
    let s := x.opens.foldl (fun s o => s.closeFrame k o false) s
    (s.modStream k fun y => { y with st := .absent }).raise .streamAbsent (instOf 6 k) [] true
  else s

/-- What time alone has brought about on a stream: the end of its join grace, absences, and holds that have passed (R103, R110). -/
def State.streamTimers (k : Nat) (s : State) : State := ((s.endGrace k).absences k).closeHeld k

/-- A packet that belongs to a leg: states of Table 3-9 and R103, then the merge. -/
def State.legPacket (k leg : Nat) (m : MediaPkt) (s : State) : State :=
  let s := s.streamTimers k
  let x := s.stream k
  let l? := if leg = 0 then x.red else x.blue
  let wasUp := (l?.map (·.up)).getD false
  let up (l : Leg) : Leg := { l with up := true, lossOpen := false, lastAt := some s.clk, ssrc := some (l.ssrc.getD m.ssrc) }
  let s := s.setStream k { (if leg = 0 then { x with red := x.red.map up } else { x with blue := x.blue.map up }) with st := .receiving, lastAt := s.clk }
  let s := if wasUp then s else s.clearLeg k leg
  let s := if x.st = .absent then s.clear .streamAbsent (instOf 6 k) else s
  match x.opens.find? fun o => o.ts == m.ts with
  | some o => s.mergeOpen k leg m o
  | none =>
    match x.gone.find? fun g => g.ts == m.ts with
    | some g => s.mergeGone k leg m g
    | none =>
      let s := s.openFrame k m.ts
      let s := match (s.stream k).opens.find? fun o => o.ts == m.ts with
        | some o => s.mergeOpen k leg m o
        | none => s
      s.closeHeld k

/-! ### Filtering -/

/-- A packet matches a leg in every respect but SSRC (R104). -/
def legMatch (p : Nat) (m : MediaPkt) (x : Stream) (l : Leg) : Bool :=
  l.port == p && l.ipv6 == m.ipv6 && l.group == m.dst && l.src == m.src && l.udp == m.udpPort && m.rtpVersion == 2 && m.pt == fmtN x.fmt 28 1 &&
    m.rows.all fun r => decide (r.line < fmtH x.fmt) && decide (r.x + r.px.length ≤ fmtW x.fmt)

/-- SSRC expected of a leg: that of SSRC_CHECK, or the one locked from the first match (R104). -/
def ssrcOk (x : Stream) (l : Leg) (v : Word) : Bool :=
  if bit x.fmt 17 then v == BitVec.ofNat 32 (fmtN x.fmt 4 4) else (l.ssrc.map (· == v)).getD true

/-- A stranger: counted, and raised at most once per second per port (R105). -/
def State.stranger (p : Nat) (s : State) : State :=
  let s := s.count (0x040 + 6 * p + 4) 1
  match (s.port p).strangerAt with
  | some t => if t + secU ≤ s.clk then (s.modPort p fun x => { x with strangerAt := some s.clk }).raise .streamStranger (instOf 7 p) [] false else s
  | none => (s.modPort p fun x => { x with strangerAt := some s.clk }).raise .streamStranger (instOf 7 p) [] false

/-- A media packet on a port (R104 to R106). -/
def State.mediaPacket (p : Nat) (m : MediaPkt) (s : State) : State :=
  if m.odd then s.stranger p
  else
    match s.legs.find? fun l => legMatch p m (s.stream l.1) l.2.2 with
    | none => s.stranger p
    | some (k, n, l) =>
      if ssrcOk (s.stream k) l m.ssrc then s.legPacket k n m
      else (s.count (0x100 + 8 * k + 4) 1).raise .streamCollision (instOf 6 k) [0] false

/-- An ARP message (R91, R94). Until the first announcement the address is being probed: another host's probe for it is a conflict, and no request is answered (PRESUMED, RFC 5227; log entry 9). -/
def State.arp (p : Nat) (sender target : Word) (mac : BitVec 48) (request : Bool) (s : State) : State :=
  let c := s.reg (portReg p)
  let ip := s.portV4 p
  let own := BitVec.ofNat 48 (bits (s.reg (portReg p + 0xC)) 0 16 * 2 ^ 32 + (s.reg (portReg p + 8)).toNat)
  if !bit c 1 || decide (mac = own) then s
  else if sender = ip ∨ (sender = 0 ∧ target = ip ∧ request ∧ (s.port p).probes < 4) then s.conflict p false
  else if request ∧ target = ip ∧ !(s.port p).v4Conf ∧ 4 ≤ (s.port p).probes then s.sendNet p (.arpReply ip mac) else s

/-- A neighbour-discovery message (R91, R94). -/
def State.nd (p : Nat) (target : BitVec 128) (advert probe : Bool) (s : State) : State :=
  if !bit (s.reg (portReg p)) 2 || decide (target ≠ s.portV6 p) then s
  else if advert || (probe && (s.port p).tentative) then s.conflict p true
  else if (s.port p).v6Conf || (s.port p).tentative then s else s.sendNet p (.na target)

/-- The VLAN a port asks of a frame (R90, R104): with VLAN = 1 an untagged frame is a stranger (log entry 86). -/
def State.vlanOk (s : State) (p : Nat) (v : Option Nat) : Bool :=
  let c := s.reg (portReg p)
  if bit c 3 then v == some (bits c 4 12) else v.isNone

/-- A frame on an active port (R90, R91, R105). One of over 9,216 bytes is dropped, neither an error nor a stranger (log entry 87). -/
def State.frameIn (p : Nat) (f : EthFrame) (s : State) : State :=
  let s := (s.count (0x040 + 6 * p) 1).count (0x041 + 6 * p) f.len
  if 9216 < f.len then s
  else if !f.fcsOk then s.count (0x042 + 6 * p) 1
  else if f.udpBad then s.count (0x043 + 6 * p) 1
  else if !s.vlanOk p f.vlan then s.stranger p
  else
    match f.body with
    | .media m => s.mediaPacket p m
    | .arp a b mac r => s.arp p a b mac r
    | .nd t adv pr => s.nd p t adv pr
    | .timing => s
    | .other => s.stranger p

/-- PACKET_RECEIVE. -/
def execPacketReceive (dt p : Nat) (f : EthFrame) (s : State) : Host.Outcome State Fault Refusal :=
  let s := s.elapse dt
  .next (if p < 32 ∧ s.portActive p then s.frameIn p f else s)

/-! ### Timers of streams -/

/-- JOIN_GRACE_EXPIRY (Table 3-9). -/
def execJoinGraceExpiry (dt k : Nat) (s : State) : Host.Outcome State Fault Refusal :=
  let s := s.elapse dt
  .next (if k < 64 then s.endGrace k else s)

/-- STREAM_ABSENCE_EXPIRY (R103, Table 3-9); a leg that goes down ends the hold of its stream's open frames (R110). -/
def execStreamAbsenceExpiry (dt k : Nat) (s : State) : Host.Outcome State Fault Refusal :=
  let s := s.elapse dt
  .next (if k < 64 then (s.absences k).closeHeld k else s)

/-- A layer holds a frame of the stream for an impression in flight. -/
def State.frameHeld (s : State) (k : Nat) : Bool :=
  s.cmp.layers.any fun l => !l.2.surface && l.2.source == k && (match l.2.sample with | .frame _ => true | _ => false)

/-- STREAM_BUFFERS_RETURN (R102, Table 3-9). -/
def execStreamBuffersReturn (dt k : Nat) (s : State) : Host.Outcome State Fault Refusal :=
  let s := s.elapse dt
  let x := s.stream k
  .next (if k < 64 ∧ x.st = .releasing ∧ !s.frameHeld k then (s.release [x.alloc]).setStream k {} else s)

/-- A leg's release takes effect: the leave and the end of its condition (R101, R102). -/
def State.dropLeg (k n : Nat) (s : State) : State :=
  match (if n = 0 then (s.stream k).red else (s.stream k).blue) with
  | none => s
  | some l =>
    let s := s.modStream k fun x => if n = 0 then { x with red := none } else { x with blue := none }
    (s.report l false).clearLeg k n

/-- A stream.release lands (R101, R102): 1 and 2 in the mask name the legs; releasing the last leg releases the stream. Its open frames go without closing (log entry 85). -/
def State.releaseStream (k mask : Nat) (s : State) : State :=
  let s := if mask % 2 = 1 then s.dropLeg k 0 else s
  let s := if mask / 2 % 2 = 1 then s.dropLeg k 1 else s
  if (legsOf (s.stream k)).isEmpty then
    let s := s.modStream k fun x => { x with st := .releasing, frozen := false, opens := [] }
    ((s.clear .streamAbsent (instOf 6 k)).clear .streamFrozen (instOf 6 k)).clear .streamLoss (instOf 6 k)
  else s

/-- INGEST_TRACE (R515): once per second, a record for each stream not FREE; the counts of the second start again. -/
def execIngestTrace (dt : Nat) (s : State) : Host.Outcome State Fault Refusal :=
  let s := s.elapse dt
  .next (if s.ing.traceAt + secU ≤ s.clk then
      (List.range 64).foldl (fun s k =>
        let x := s.stream k
        if x.st = .free then s
        else
          let d := x.secRed % 2 ^ 32 + x.secBlue % 2 ^ 32 * 2 ^ 32 + x.secDone % 65536 * 2 ^ 64 + x.secBad % 65536 * 2 ^ 80 + satU 16 x.secDiff * 2 ^ 96
          (s.trace 0x40 k s.imp.counter d).setStream k { x with secRed := 0, secBlue := 0, secDone := 0, secBad := 0, secDiff := 0 })
        { s with ing := { s.ing with traceAt := s.clk } }
    else s)

end Sys2Proof.Machine
end

