-- ==== Sys2Proof/Machine/Geom.lean ====
section
/-! DEFINITION. Leaf geometry: mapping, memory order, lamps and slugs (R202 to R207), and the canvas and its tiles (R119, R120). -/

namespace Sys2Proof.Machine

open Sys2Proof

/-! ### Fields of a leaf descriptor (Tables 6-8, 6-10) -/

def Geom.en (g : Geom) : Bool := bit g.cfg 0
def Geom.rot (g : Geom) : Nat := bits g.cfg 1 2
def Geom.mirror (g : Geom) : Bool := bit g.cfg 3
def Geom.n (g : Geom) : Nat := bits g.cfg 4 2 + 1
/-- Component of lamp k of a pixel: 0 R, 1 G, 2 B, 3 W. -/
def Geom.comp (g : Geom) (k : Nat) : Nat := bits g.cfg (8 + 2 * k) 2
def Geom.nRuns (g : Geom) : Nat := bits g.cfg 16 5
def Geom.w (g : Geom) : Nat := bits g.size 0 12 + 1
def Geom.h (g : Geom) : Nat := bits g.size 16 12 + 1
def Geom.x0 (g : Geom) : Nat := bits g.origin 0 16
def Geom.y0 (g : Geom) : Nat := bits g.origin 16 16
/-- Lamps of a leaf, and its slugs (R206). -/
def Geom.lamps (g : Geom) : Nat := g.w * g.h * g.n
def Geom.slugs (g : Geom) : Nat := ceilDiv g.lamps 512
/-- Run r. -/
def Geom.run (g : Geom) (r : Nat) : RunG :=
  let a := tget 0 g.runs (4 * r)
  let b := tget 0 g.runs (4 * r + 1)
  let c := tget 0 g.runs (4 * r + 2)
  { u := bits a 0 12, v := bits a 16 12, dir := bits a 28 4, line := bits b 0 13, lines := bits b 16 13, stride := bits c 0 13 }

/-- The pixels a run emits, in order (R204). -/
def RunG.pixels (r : RunG) : List (Int × Int) :=
  let sp : Int := if r.dir / 2 % 2 = 1 then -1 else 1
  let ss : Int := if r.dir / 4 % 2 = 1 then -1 else 1
  ((List.range r.lines).map fun i => (List.range r.line).map fun j =>
    let jj := if r.dir / 8 = 1 ∧ i % 2 = 1 then r.line - 1 - j else j
    let d : Int := Int.ofNat jj * sp
    let e : Int := Int.ofNat (i * r.stride) * ss
    if r.dir % 2 = 0 then (Int.ofNat r.u + d, Int.ofNat r.v + e) else (Int.ofNat r.u + e, Int.ofNat r.v + d)).flatten

/-- The memory order of a leaf (R204). -/
def Geom.order (g : Geom) : List (Int × Int) := ((List.range g.nRuns).map fun r => (g.run r).pixels).flatten

/-- The canvas pixel a leaf pixel shows (R203, Table 6-1). -/
def Geom.canvas (g : Geom) (p : Int × Int) : Int × Int :=
  let w : Int := g.w
  let h : Int := g.h
  let u := if g.mirror then w - 1 - p.1 else p.1
  let v := p.2
  let o := match g.rot with
    | 0 => (u, v)
    | 1 => (h - 1 - v, u)
    | 2 => (w - 1 - u, h - 1 - v)
    | _ => (v, w - 1 - u)
  (Int.ofNat g.x0 + o.1, Int.ofNat g.y0 + o.2)

/-- The canvas pixels in memory order. -/
def Geom.pixels (g : Geom) : List (Int × Int) := g.order.map g.canvas

/-- LINE of the run that holds the pixel at a position of the memory order (R252). -/
def lineAt : List RunG → Nat → Nat
  | [], _ => 1
  | r :: t, p => if p < r.line * r.lines then r.line else lineAt t (p - r.line * r.lines)

def Geom.lineOf (g : Geom) (slug : Nat) : Nat := lineAt ((List.range g.nRuns).map g.run) (512 * slug / g.n)

/-- The lamps of a slug as (canvas pixel, channel), short slugs as far as they reach (R205, R206). -/
def Geom.slugLamps (g : Geom) (s : Nat) : List ((Int × Int) × Nat) :=
  let lo := 512 * s / g.n
  let px := (g.pixels.drop lo).take (512 / g.n + 2)
  ((px.zipIdx).map fun p => (List.range g.n).map fun k => ((lo + p.2) * g.n + k, p.1, k)).flatten
    |>.filter (fun l => decide (512 * s ≤ l.1) && decide (l.1 < 512 * s + 512))
    |>.map fun l => (l.2.1, l.2.2)

/-- REASON of a leaf's first failing check, 1 to 4 of Table 6-3; 0 for none. -/
def Geom.check (g : Geom) : Nat :=
  let rs := (List.range g.nRuns).map g.run
  let bad (v : Nat) : Bool := v == 0 || decide (4096 < v)
  if g.nRuns = 0 ∨ 16 < g.nRuns ∨ rs.any (fun r => bad r.line || bad r.lines || bad r.stride) then 1
  else
    let o := g.order
    if o.any fun p => decide (p.1 < 0) || decide (Int.ofNat g.w ≤ p.1) || decide (p.2 < 0) || decide (Int.ofNat g.h ≤ p.2) then 2
    else if o.length ≠ g.w * g.h ∨ !decide (o.Nodup) then 3
    else if 2 ^ 21 < g.lamps then 4
    else 0

/-! ### The set-up in force -/

/-- A leaf's descriptor in force. -/
def State.geom (s : State) (k : Nat) : Geom := tget {} s.imp.setup.leaves k

/-- Leaves enabled by a set-up, ascending. -/
def Setup.enabled (u : Setup) : List Nat := (u.leaves.filter fun e => e.2.en).map (·.1)

/-- Slugs of a quire under a set-up: s_q of R32. -/
def Setup.slugsOf (u : Setup) (q : Nat) : Nat := sumN ((u.leaves.filter fun e => e.2.en && e.1 / 64 == q).map fun e => e.2.slugs)

/-- Canvas width and height of a set-up (R119). -/
def Setup.cw (u : Setup) : Nat := bits u.canvas 0 16 + 1
def Setup.ch (u : Setup) : Nat := bits u.canvas 16 16 + 1

/-- Canvas of the set-up in force. -/
def State.cw (s : State) : Nat := s.imp.setup.cw
def State.ch (s : State) : Nat := s.imp.setup.ch
/-- Tiles across and tiles in all (R120). -/
def State.tw (s : State) : Nat := ceilDiv s.cw 64
def State.nTiles (s : State) : Nat := s.tw * ceilDiv s.ch 64

/-- The pixels of tile t in raster order. -/
def State.tilePx (s : State) (t : Nat) : List (Nat × Nat) :=
  let tx := t % s.tw * 64
  let ty := t / s.tw * 64
  ((List.range (min 64 (s.ch - ty))).map fun j => (List.range (min 64 (s.cw - tx))).map fun i => (tx + i, ty + j)).flatten

/-- The tile that holds a canvas pixel, and the pixel's place in it; none outside the canvas (R207). -/
def State.tileAt (s : State) (p : Int × Int) : Option (Nat × Nat) :=
  if 0 ≤ p.1 ∧ p.1 < s.cw ∧ 0 ≤ p.2 ∧ p.2 < s.ch then
    let x := p.1.toNat
    let y := p.2.toNat
    some (y / 64 * s.tw + x / 64, y % 64 * min 64 (s.cw - x / 64 * 64) + x % 64)
  else none

/-- The older of two capture times: never is older than any instant, none carries nothing. -/
def Cap.older : Cap → Cap → Cap
  | .none, c => c
  | c, .none => c
  | .never, _ => .never
  | _, .never => .never
  | .at a, .at b => .at (min a b)

/-- The oldest of a list. -/
def oldest (l : List Cap) : Cap := l.foldl Cap.older .none

/-- Age at flip in microseconds, rounded up (R34, R217); 0 with no capture time. -/
def Cap.age (flip : Nat) : Cap → Nat
  | .none => 0
  | .never => 16777215
  | .at t => min 16777215 (ceilDiv (flip - t) usU)

end Sys2Proof.Machine
end

