-- ==== Sys2Proof/Machine/Compose.lean ====
section
/-! DEFINITION. Composition of canvas tiles: coverage and sampling (R129, R130, R554), contribution (R131), colour (R132, R133), blending (R134), capture times (R135, R136), tile costs (R149). -/

namespace Sys2Proof.Machine

open Sys2Proof

/-! ### What is drawn -/

/-- Rank of a layer key in drawing order: ordinary layers by z-order and number, Frisket regions above them (R121, R159). -/
def drawRank (e : Nat × Layer) : Nat := if e.1 < 64 then e.2.z * 64 + e.1 else 64 * 64 + e.1

/-- The placed layers and regions in drawing order. -/
def drawOrder (ls : Tab Layer) : List (Nat × Layer) :=
  sortBy (fun a b => decide (drawRank a ≤ drawRank b)) (ls.filter fun e => decide (e.2.st = .placed))

/-- An opaque layer (R131): effective global alpha 65,536 and no pixel alpha; regions always. -/
def solid (e : Nat × Layer) : Bool := decide (64 ≤ e.1) || (decide (e.2.alpha = 65535) && !e.2.pixAlpha)

/-- A layer whose stream offers no frame, under hold and show age: opaque black (R99). -/
def noFrame (e : Nat × Layer) : Bool := decide (e.1 < 64) && !e.2.surface && decide (e.2.sample = .none) && decide (e.2.show_ = 0)

/-- Opaque as composed: a black policy and a stream without a frame draw opaque black (R99, R136). -/
def solidNow (e : Nat × Layer) : Bool := solid e || decide (e.2.show_ = 2) || noFrame e

/-- The size of a layer's source image. -/
def State.srcSize (s : State) (l : Layer) : Nat × Nat :=
  if l.surface then (l.surfW, l.surfH) else (fmtW (s.stream l.source).fmt, fmtH (s.stream l.source).fmt)

/-- Distance of the centre of destination pixel x from the rectangle's edge in sixteenths, when the pixel is covered on this axis after clipping (R129). -/
def axisAt (src srcLen img : Nat) (dst : Int) (dstLen x : Nat) : Option Nat :=
  let n := 16 * Int.ofNat x + 8 - dst
  if 0 ≤ n ∧ n < dstLen ∧ 0 < srcLen ∧ src < img ∧ n * srcLen < (min (src + srcLen) img - src) * dstLen then some n.toNat else none

/-- The layer covers a canvas pixel. -/
def State.covers (s : State) (l : Layer) (p : Nat × Nat) : Bool :=
  let (w, h) := s.srcSize l
  (axisAt l.srcX l.srcW w l.dstX l.dstW p.1).isSome && (axisAt l.srcY l.srcH h l.dstY l.dstH p.2).isSome

/-- A list up to and with its first element that a test picks. -/
def takeTo {α : Type} (f : α → Bool) : List α → List α
  | [] => []
  | x :: t => if f x then [x] else x :: takeTo f t

/-- The layers that contribute to a pixel, top first (R131); `top` lists the placed layers top first. -/
def State.contrib (s : State) (sol : Nat × Layer → Bool) (top : List (Nat × Layer)) (p : Nat × Nat) : List (Nat × Layer) :=
  takeTo sol (top.filter fun e => s.covers e.2 p)

/-! ### Sampling -/

/-- The group length of a ratio above 1 (R130). -/
def groupLen (srcLen dstLen : Nat) : Nat := max 1 (16 * srcLen / max 1 dstLen)

/-- Phase and tap groups of one axis: the source indices that each tap averages, the image's edge repeated (R129, R130, R554). The position is rounded to the nearest 1/64 (log entry 11). -/
def axisTaps (nearest : Bool) (lo cnt src srcLen img dstLen n : Nat) : Nat × List (List Nat) :=
  let clip (i : Int) : Nat := (clampI 0 (Int.ofNat img - 1) i).toNat
  if nearest then (0, [[clip (Int.ofNat (src + n * srcLen / max 1 dstLen))]])
  else
    let g := groupLen srcLen dstLen
    let p := (128 * Int.ofNat (n * srcLen) - 63 * Int.ofNat (dstLen * g)) / Int.ofNat (2 * dstLen * g)
    let base := p / 64
    let ph := (p % 64).toNat
    let tap (k : Int) : List Nat := (List.range g).map fun j => clip (Int.ofNat src + k * Int.ofNat g + Int.ofNat j)
    if ph = 0 then (0, [tap base])
    else (ph, (List.range cnt).map fun k => tap (base - Int.ofNat lo + Int.ofNat k))

/-- Common denominator of the coefficients of a filter of n taps. -/
def sincDen (n : Nat) : Int := 2 * (Int.ofNat (Config.sincDen n) + 1)

/-- Numerators of the coefficients of a phase from 1 to 32 (R554): free, but that they sum to the denominator, which the centre tap makes up, and that phase 32 is its own mirror, so that its two centre taps make it up in equal parts. -/
def sincRow (n ph : Nat) : List Int :=
  let raw (i : Nat) : Int := Config.sincCoef n ph (if ph = 32 then min i (n - 1 - i) else i)
  let centre (i : Nat) : Bool := i == n / 2 - 1 || (ph == 32 && i == n / 2)
  let rest := ((List.range n).filter fun i => !centre i).foldl (fun a i => a + raw i) 0
  (List.range n).map fun i => if centre i then (if ph = 32 then (sincDen n - rest) / 2 else sincDen n - rest) else raw i

/-- One windowed-sinc step (R554): the unit impulse at phase 0, and phase p the mirror of 64 - p. -/
def filter1 (ph : Nat) (v : List Int) : Int :=
  let n := v.length
  if ph = 0 ∨ n < 2 then v.headD 0
  else
    let row := if ph ≤ 32 then sincRow n ph else (sincRow n (64 - ph)).reverse
    ((row.zip v).foldl (fun a e => a + e.1 * e.2) 0) / sincDen n

/-- The mean of a list. -/
def mean (l : List Int) : Int := l.foldl (· + ·) 0 / max 1 (Int.ofNat l.length)

/-- The taps of both axes of a covered pixel. -/
def State.taps (s : State) (l : Layer) (p : Nat × Nat) : (Nat × List (List Nat)) × (Nat × List (List Nat)) :=
  let (w, h) := s.srcSize l
  (axisTaps l.nearest 3 8 l.srcX l.srcW w l.dstW ((axisAt l.srcX l.srcW w l.dstX l.dstW p.1).getD 0),
   axisTaps l.nearest 2 6 l.srcY l.srcH h l.dstH ((axisAt l.srcY l.srcH h l.dstY l.dstH p.2).getD 0))

/-- A value scaled at a covered pixel from the values of source pixels (R130): averaged in groups, filtered along x, then along y. -/
def scaled (t : (Nat × List (List Nat)) × (Nat × List (List Nat))) (f : Nat → Nat → Int) : Int :=
  filter1 t.2.1 (t.2.2.map fun ys => filter1 t.1.1 (t.1.2.map fun xs => mean ((ys.map fun y => xs.map fun x => f x y).flatten)))

/-! ### Source samples -/

/-- A chroma component of a 4:2:2 line at x, in sixteenths: co-sited samples unchanged, others from two on each side (R554). -/
def chroma (f : Nat → Int) (w x : Nat) : Int :=
  if x % 2 = 0 then 16 * f x
  else
    let last := (w - 1) / 2 * 2
    let at_ (i : Int) : Int := f (clampI 0 (Int.ofNat last) i).toNat
    let i := Int.ofNat x
    9 * at_ (i - 1) + 9 * at_ (i + 1) - at_ (i - 3) - at_ (i + 3)

/-- The registers of a tone set and the wall in force (Table 4-10). -/
def State.toneReg (s : State) (o : Nat) : Word := tget (rwReset o) s.cmp.tone o

/-- The tone set of a layer (R133). -/
def State.toneOf (s : State) (l : Layer) : Tone :=
  let a := s.toneReg (0x2100 + 16 * l.tone)
  let b := s.toneReg (0x2104 + 16 * l.tone)
  let w := s.toneReg 0x2010
  { srcPeak := bits a 0 16, srcBlack := bits a 16 16, knee := bits b 0 16, rolloff := clampN 1 8 (bits b 16 4),
    white := bits (s.toneReg (0x2108 + 16 * l.tone)) 0 16, wallPeak := max 1 (bits w 0 16), wallBlack := bits w 16 16 }

/-- (format, BT.2020, transfer, full range, depth) of a layer's content. -/
def State.colourOf (s : State) (l : Layer) : Nat × Nat × Nat × Nat × Nat :=
  if l.surface then (1, l.colour / 4 % 2, l.colour % 4, l.colour / 8 % 2, if l.source = 0 then 8 else 10)
  else
    let f := (s.stream l.source).fmt
    (fmtN f 12 1, fmtN f 14 1, fmtN f 15 1, fmtN f 27 1, fmtN f 13 1)

/-- The components, in sixteenths, of the word of a surface pixel (Table 4-1). -/
def wordPx (fmt : Nat) (w : Word) : Int × Int × Int :=
  if fmt = 0 then (16 * bits w 0 8, 16 * bits w 8 8, 16 * bits w 16 8) else (16 * bits w 0 10, 16 * bits w 10 10, 16 * bits w 20 10)

/-- The pixel's alpha widened to 16 bits (R134). -/
def wordAlpha (fmt : Nat) (w : Word) : Nat := if fmt = 0 then bits w 24 8 * 257 else bits w 30 2 * 21845

/-- The word of a surface version at a pixel. -/
def verPx (v : SurfVer) (w x y : Nat) : Word := nthD 0 v.px (y * w + x)

/-- The components, in sixteenths, of a layer's content at a source pixel. A surface that nothing has written shows free values. -/
def State.sourcePx (s : State) (l : Layer) (x y : Nat) : Int × Int × Int :=
  let (w, _) := s.srcSize l
  match l.sample with
  | .surf v => wordPx l.source (verPx v w x y)
  | .frame f =>
    let q (x : Nat) : Smp := (pxAt f.rows x y).getD ⟨0, 0, 0⟩
    if fmtN (s.stream l.source).fmt 12 1 = 0 then
      (16 * (q x).a, chroma (fun i => Int.ofNat (q i).b) w x, chroma (fun i => Int.ofNat (q i).c) w x)
    else (16 * (q x).a, 16 * (q x).b, 16 * (q x).c)
  | .none => wordPx l.source (Config.blankPixel (2 * l.allocs.headD 0) (y * w + x))

/-- A region without admissible content, or a layer whose stream has offered no frame, holds 0 in every component (R99, R161). -/
def heldZero (k : Nat) (l : Layer) : Bool := (decide (64 ≤ k) || !l.surface) && decide (l.sample = .none)

/-- The colour a layer gives a covered canvas pixel, after tone mapping and before blending (R132, R133). -/
def State.layerColour (s : State) (k : Nat) (l : Layer) (p : Nat × Nat) : Rgb :=
  if heldZero k l then {}
  else
    let (fmt, gam, tcs, full, depth) := s.colourOf l
    let t := s.toneOf l
    let tp := s.taps l p
    let lightAt (x y : Nat) : Int × Int × Int :=
      let (a, b, c) := s.sourcePx l x y
      light fmt gam tcs full depth t.srcPeak t.white a b c
    let r := scaled tp fun x y => (lightAt x y).1
    let g := scaled tp fun x y => (lightAt x y).2.1
    let b := scaled tp fun x y => (lightAt x y).2.2
    let o := toneMap t tcs (r, g, b)
    let pars : List Int := [fmt, gam, tcs, full, depth, t.srcPeak, t.srcBlack, t.knee, t.rolloff, t.white, t.wallPeak, t.wallBlack, r, g, b]
    let out (c : Int) (v : Int) : Nat := withError (Config.colourError (c :: pars)) (toCanvas t.wallPeak v)
    { r := out 0 o.1, g := out 1 o.2.1, b := out 2 o.2.2 }

/-- The pixel's alpha of a layer with PIXEL_ALPHA, scaled as its colour is; a stream has none and counts as opaque (log entry 12). -/
def State.layerAlpha (s : State) (l : Layer) (p : Nat × Nat) : Nat :=
  match l.sample with
  | .surf v => (clampI 0 65535 (scaled (s.taps l p) fun x y => Int.ofNat (wordAlpha l.source (verPx v (s.srcSize l).1 x y)))).toNat
  | _ => if l.surface then wordAlpha l.source (Config.blankPixel (2 * l.allocs.headD 0) (p.2 * s.cw + p.1)) else 65535

/-! ### Blending -/

/-- The blend weight of R134. -/
def weight (alpha : Nat) (pixAlpha : Bool) (p16 : Nat) : Nat :=
  ((alpha + alpha / 32768) * (if pixAlpha then p16 + p16 / 32768 else 65536) + 32768) / 65536

/-- One component blended (R134). -/
def blend1 (src dst a : Nat) : Nat := if a = 65536 then src else (src * a + dst * (65536 - a) + 32768) / 65536

/-- A layer drawn over a pixel. -/
def State.drawOver (s : State) (p : Nat × Nat) (dst : Rgb) (e : Nat × Layer) : Rgb :=
  let l := e.2
  if decide (l.show_ = 2) || noFrame e then {}
  else
    let c := s.layerColour e.1 l p
    let a := if 64 ≤ e.1 then 65536 else weight l.alpha l.pixAlpha (if l.pixAlpha then s.layerAlpha l p else 65535)
    { r := blend1 c.r dst.r a, g := blend1 c.g dst.g a, b := blend1 c.b dst.b a }

/-- A canvas pixel (R119, R134). -/
def State.composePx (s : State) (top : List (Nat × Layer)) (p : Nat × Nat) : Rgb :=
  (s.contrib solidNow top p).reverse.foldl (s.drawOver p) {}

/-- Layers that contribute to a tile, top first. -/
def State.tileLayers (s : State) (sol : Nat × Layer → Bool) (top : List (Nat × Layer)) (t : Nat) : List (Nat × Layer) :=
  let px := s.tilePx t
  top.filter fun e => px.any fun p => (s.contrib sol top p).any fun x => x.1 == e.1

/-- A tile composed from the layers given (R120, R134, R136). -/
def State.composeTile (s : State) (ls : Tab Layer) (t : Nat) : Tile :=
  let top := (drawOrder ls).reverse
  let px := s.tilePx t
  { px := px.map (s.composePx top), cap := oldest ((s.tileLayers solidNow top t).map fun e => e.2.cap),
    inv := px.map fun p => (s.contrib solidNow top p).any fun e => decide (e.1 < 64) && decide (e.2.show_ = 1) }

/-! ### Costs and limits -/

/-- layer_px of a tile (R149). -/
def State.layerPx (s : State) (top : List (Nat × Layer)) (t : Nat) : Nat :=
  sumN ((s.tilePx t).map fun p => (s.contrib solidNow top p).length)

/-- tile_cost (R149). -/
def State.tileCost (s : State) (ls : Tab Layer) (t : Nat) : Nat :=
  ceilDiv ((s.tilePx t).length + s.layerPx (drawOrder ls).reverse t) 4 + (if s.thp.throttle then 64 else 0)

/-- The tiles in which a layer contributes: layers beneath one that draws opaque black contribute nothing there (R136, R150). -/
def State.tilesOf (s : State) (ls : Tab Layer) (k : Nat) : List Nat :=
  let top := (drawOrder ls).reverse
  (List.range s.nTiles).filter fun t => (s.tileLayers solidNow top t).any fun e => e.1 == k

/-- No pixel has more than 8 contributing layers (R131). -/
def State.depthOk (s : State) (ls : Tab Layer) : Bool :=
  let top := (drawOrder ls).reverse
  (List.range s.nTiles).all fun t => (s.tilePx t).all fun p => decide ((s.contrib solid top p).length ≤ 8)

/-- Two Frisket regions overlap (R160): their destinations as placed, before any clipping (log entry 89). -/
def overlaps (a b : Layer) : Bool :=
  decide (0 < a.dstW ∧ 0 < a.dstH ∧ 0 < b.dstW ∧ 0 < b.dstH ∧ a.dstX < b.dstX + b.dstW ∧ b.dstX < a.dstX + a.dstW ∧ a.dstY < b.dstY + b.dstH ∧ b.dstY < a.dstY + a.dstH)

/-- Placed regions. -/
def regionsOf (ls : Tab Layer) : List (Nat × Layer) := ls.filter fun e => decide (64 ≤ e.1) && decide (e.2.st = .placed)

/-- Some two regions overlap. -/
def friskOverlap (ls : Tab Layer) : Bool :=
  let r := regionsOf ls
  r.any fun a => r.any fun b => decide (a.1 < b.1) && overlaps a.2 b.2

/-- A region overlaps another one. -/
def regionOverlap (ls : Tab Layer) (k : Nat) : Bool :=
  let r := regionsOf ls
  r.any fun a => a.1 == k && r.any fun b => b.1 != k && overlaps a.2 b.2

/-- Tiles of the Frisket layer. -/
def State.friskTiles (s : State) (ls : Tab Layer) : List Nat :=
  let top := (drawOrder ls).reverse
  (List.range s.nTiles).filter fun t => (s.tileLayers solid top t).any fun e => decide (64 ≤ e.1)

/-! ### Capture time of a surface -/

/-- Blocks across a surface (R123). -/
def blocksW (w : Nat) : Nat := ceilDiv w 64

/-- The oldest block of a version that reaches the layer's destination through the filter taps (R135). -/
def State.surfCap (s : State) (l : Layer) (v : SurfVer) : Cap :=
  let (w, h) := s.srcSize l
  let xs := dedup (((List.range s.cw).filterMap fun x => (axisAt l.srcX l.srcW w l.dstX l.dstW x).map fun n =>
    ((axisTaps l.nearest 3 8 l.srcX l.srcW w l.dstW n).2.flatten.map fun i => i / 64)).flatten)
  let ys := dedup (((List.range s.ch).filterMap fun y => (axisAt l.srcY l.srcH h l.dstY l.dstH y).map fun n =>
    ((axisTaps l.nearest 2 6 l.srcY l.srcH h l.dstH n).2.flatten.map fun i => i / 64)).flatten)
  oldest ((ys.map fun y => xs.map fun x => nthD Cap.never v.blocks (y * blocksW w + x)).flatten)

/-- Source bytes a layer's content takes (R151; what the reads are is a choice, log entry 13). -/
def State.readBytes (s : State) (l : Layer) : Nat :=
  l.srcW * l.srcH * (if l.surface then 32 else fmtBits (s.stream l.source).fmt) / 8

end Sys2Proof.Machine
end

