-- ==== Sys2Proof/Machine/Scene.lean ====
section
/-! DEFINITION. The scene and its commands: the fields of layer.define, layer.update, layer.remove and surface.write (Tables 4-2, 4-3, 4-7), their effect on the layers (R124 to R127), the scene as it will stand (R102, R128, R160), and the refusals made at take (R128). -/

namespace Sys2Proof.Machine

open Sys2Proof

/-! ### Fields -/

/-- LAYER, GROUP and REGION, and the key of the layer or region they name. -/
def lyrNo (d : Slot) : Nat := prm d 0 1
def grpNo (d : Slot) : Nat := prm d 1 1
def rgnNo (d : Slot) : Nat := prm d 2 1
def lyrKey (d : Slot) : Nat := if lyrNo d = 63 then 64 + rgnNo d % 16 else lyrNo d

/-- LAYER or REGION out of range (Table 4-2). -/
def keyBad (d : Slot) : Bool := decide (63 < lyrNo d) || (if lyrNo d = 63 then decide (15 < rgnNo d) else decide (rgnNo d ≠ 0))

/-- The command addresses a Frisket region. -/
def isFrisk (d : Slot) : Bool := lyrNo d == 63

/-- SURFACE of layer.define. -/
def defSurf (d : Slot) : Bool := prm d 4 1 / 4 % 2 == 1

/-- An age limit the module accepts (R38). -/
def ageOk (v : Nat) : Bool := decide (4167 ≤ v) && decide (v ≤ 10000000)

/-- A POLICY with a reserved value. -/
def policyBad (p : Nat) : Bool := decide (p % 4 = 3) || decide (32 ≤ p)

/-- layer.define with a field out of range or a reserved field value (R128, R159). -/
def defineBad (d : Slot) : Bool :=
  keyBad d || decide (prm d 16 16 ≠ 0) ||
    (if defSurf d then decide (1 < prm d 6 1) || decide (16 ≤ prm d 7 1) || decide (prm d 7 1 % 4 = 3) ||
        !(decide (1 ≤ prm d 12 2 ∧ prm d 12 2 ≤ 16384 ∧ 1 ≤ prm d 14 2 ∧ prm d 14 2 ≤ 16384))
      else decide (63 < prm d 6 1)) ||
    (!isFrisk d && (decide (62 < prm d 3 1) || policyBad (prm d 5 1) || !(decide (prm d 8 4 = 0) || ageOk (prm d 8 4))))

/-- FLAGS of layer.update. -/
def updGeom (d : Slot) : Bool := prm d 3 1 % 2 == 1
def updAlpha (d : Slot) : Bool := prm d 3 1 / 2 % 2 == 1
def updZ (d : Slot) : Bool := prm d 3 1 / 4 % 2 == 1
def updPolicy (d : Slot) : Bool := prm d 3 1 / 8 % 2 == 1

/-- layer.update with a field out of range or a reserved field value (R128, R160). -/
def updateBad (d : Slot) : Bool :=
  keyBad d || decide (16 ≤ prm d 3 1) || (updGeom d && (decide (2 ^ 20 < prm d 20 4) || decide (2 ^ 20 < prm d 24 4) ||
      (isFrisk d && [12, 16, 20, 24].any fun o => prm d o 4 % 16 != 0))) ||
    (!isFrisk d && ((updZ d && decide (62 < prm d 30 1)) || (updPolicy d && policyBad (prm d 31 1))))

/-- The scaling ratios are beyond the limits of R130. -/
def scaleBad (d : Slot) : Bool :=
  let sw := prm d 8 2; let sh := prm d 10 2; let dw := prm d 20 4; let dh := prm d 24 4
  updGeom d && decide (sw ≠ 0 ∧ sh ≠ 0 ∧ dw ≠ 0 ∧ dh ≠ 0) &&
    (decide (2 * sw > dw) || decide (4 * sh > dh) || decide (512 * sw < dw) || decide (512 * sh < dh))

/-- FENCED of surface.write. -/
def wrFenced (d : Slot) : Bool := prm d 3 1 % 2 == 1
def wrX (d : Slot) : Nat := prm d 4 2
def wrY (d : Slot) : Nat := prm d 6 2
def wrW (d : Slot) : Nat := prm d 8 2
def wrH (d : Slot) : Nat := prm d 10 2
def wrStride (d : Slot) : Nat := prm d 12 4
/-- Commit points a fence may miss. -/
def wrTimeout (d : Slot) : Nat := if prm d 18 1 = 0 then 255 else prm d 18 1

/-! ### Effects on the layers -/

/-- The layer a layer.define creates (R124); a region keeps nothing of CLASS, Z, ALPHA or POLICY (R159). -/
def defined (d : Slot) (cls : Nat) (allocs : List Nat) (old : Layer) : Layer :=
  let f := isFrisk d
  let c := prm d 4 1
  let p := prm d 5 1
  { st := .defined, surface := defSurf d, nearest := c / 8 % 2 == 1, pixAlpha := !f && c / 16 % 2 == 1, tone := c / 32, cls := if f then 0 else cls,
    z := if f then 63 else prm d 3 1, agePol := if f then 1 else p % 4, fill := !f && p / 4 % 2 == 1, freezePol := if f then 1 else p / 8 % 4,
    source := prm d 6 1, colour := prm d 7 1, maxAge := if prm d 8 4 = 0 then 10000000 else prm d 8 4, surfW := prm d 12 2, surfH := prm d 14 2,
    vers := old.vers, allocs := allocs ++ old.allocs }

/-- The fields a layer.update selects (R126). -/
def updated (d : Slot) (l : Layer) : Layer :=
  let f := isFrisk d
  let l : Layer := if updGeom d then
      { l with
        st := .placed, srcX := prm d 4 2, srcY := prm d 6 2, srcW := prm d 8 2, srcH := prm d 10 2,
        dstX := sgn 32 (prm d 12 4), dstY := sgn 32 (prm d 16 4), dstW := prm d 20 4, dstH := prm d 24 4 }
    else l
  let l : Layer := if updAlpha d && !f then { l with alpha := prm d 28 2 } else l
  let l : Layer := if updZ d && !f then { l with z := prm d 30 1 } else l
  if updPolicy d && !f then { l with agePol := prm d 31 1 % 4, fill := prm d 31 1 / 4 % 2 == 1, freezePol := prm d 31 1 / 8 % 4 } else l

/-- A layer removed: REMOVING until its versions are released (R127). -/
def removed (l : Layer) : Layer := { l with st := .removing, overAge := false, frozen := false, shed := false, held := false }

/-- The opcodes that change layers. -/
def isLayerOp (op : Nat) : Bool := op == 0x0101 || op == 0x0102 || op == 0x0103

/-- A layer command applied to the layers (R124, R126, R127). -/
def applyCmd (i : Item) (ls : Tab Layer) : Tab Layer :=
  let k := lyrKey i.desc
  let l := tget {} ls k
  let op := dOp i.desc
  if op = 0x0101 then tput {} ls k (defined i.desc i.cls (if i.aux = 0 then [] else [i.aux, i.aux + 1]) l)
  else if op = 0x0102 then tput {} ls k (updated i.desc l)
  else if op = 0x0103 then tput {} ls k (removed l)
  else ls

/-! ### The scene as it will stand -/

/-- The newest scene composed or joined: late joins count (R158). -/
def State.scene (s : State) : Tab Layer := ((s.cmp.late.getLast?).map (·.layers)).getD s.cmp.layers

/-- The item is a layer command that has not landed. -/
def layerPending (i : Item) : Bool := isLayerOp (dOp i.desc) && (decide (i.phase = .landing) || decide (i.phase = .held))

/-- The scene after the pending layer commands that a test picks, in take order. -/
def State.sceneAfter (s : State) (p : Item → Bool) : Tab Layer :=
  (s.hif.items.filter fun i => layerPending i && p i).foldl (fun ls i => applyCmd i ls) s.scene

/-- The scene after every command taken earlier from a queue (R128). -/
def State.sceneOf (s : State) (q : Nat) : Tab Layer := s.sceneAfter fun i => i.sq == q

/-- Grouped commands held (Table 4-5). -/
def State.heldCount (s : State) : Nat := (s.hif.items.filter fun i => decide (grpNo i.desc ≠ 0) && (isLayerOp (dOp i.desc) || dOp i.desc == 0x0104)).length

/-- A stream leg is admitted once the releases taken and not landed have landed (R101). -/
def State.legIn (s : State) (k n : Nat) : Bool :=
  let x := s.stream k
  (if n = 0 then x.red.isSome else x.blue.isSome) &&
    !(s.hif.items.any fun i => dOp i.desc == 0x0202 && decide (i.phase = .landing) && prm i.desc 1 1 == k && i.aux / 2 ^ n % 2 == 1)

/-- The release of a stream, taken and not landed, and its target; a release of the last leg releases the stream (R101, R102). -/
def State.releaseAt (s : State) (k : Nat) : Option Nat :=
  let rel := s.hif.items.filter fun i => dOp i.desc == 0x0202 && decide (i.phase = .landing) && prm i.desc 1 1 == k
  if rel ≠ [] ∧ !s.legIn k 0 ∧ !s.legIn k 1 then rel.getLast?.map (·.target) else none

/-- REFUSED_STATE for the group count. -/
def State.groupFull (s : State) (d : Slot) : Bool := decide (grpNo d ≠ 0) && decide (1024 < s.heldCount)

/-- Refusals of R87 that every layer command shares. -/
def friskRefusals (i : Item) : List Refuse :=
  [authWrong (isFrisk i.desc && i.sq != 15), badState (!isFrisk i.desc && i.sq == 15) 0]

/-- Refusals of layer.define (R128). A member of a group that names a stream with a release pending is refused whatever its scene.commit's target, which is not yet known (log entry 90). -/
def defineRefusals (i : Item) (s : State) : List Refuse :=
  let d := i.desc
  let k := lyrKey d
  let x := s.stream (prm d 6 1)
  let str := !defSurf d
  [malformed (defineBad d)] ++ friskRefusals i ++
    [authWrong (str && x.frisket && i.sq != 15),
     badState (decide ((tget {} (s.sceneOf i.sq) k).st ≠ .free)) 1, badState (isFrisk d && s.imp.live) 1,
     badState (str && (decide (x.st = .free) || decide (x.st = .releasing))) 2,
     badState (str && (match s.releaseAt (prm d 6 1) with | none => false | some t => decide (grpNo d ≠ 0) || decide (t ≤ i.target))) 2,
     badState (str && i.sq == 15 && !x.frisket) 0, badState (s.groupFull d) 5]

/-- The region would overlap another with this command landed (R160, judged at take). -/
def State.overlapAtTake (s : State) (i : Item) : Bool := isFrisk i.desc && regionOverlap (applyCmd i (s.sceneOf 15)) (lyrKey i.desc)

/-- Refusals of layer.update (R128, R130, R160). -/
def updateRefusals (i : Item) (s : State) : List Refuse :=
  let d := i.desc
  let st := (tget {} (s.sceneOf i.sq) (lyrKey d)).st
  [malformed (updateBad d)] ++ friskRefusals i ++
    [badState (decide (st = .free ∨ st = .removing)) 1, badState (s.groupFull d) 5, badState (updGeom d && s.overlapAtTake i) 6, badScale (scaleBad d)]

/-- Refusals of layer.remove (R128). Its PARAMS from offset 3 on count as reserved fields (log entry 91). -/
def removeRefusals (i : Item) (s : State) : List Refuse :=
  let d := i.desc
  let st := (tget {} (s.sceneOf i.sq) (lyrKey d)).st
  [malformed (keyBad d || decide (prm d 3 29 ≠ 0))] ++ friskRefusals i ++ [badState (decide (st = .free ∨ st = .removing)) 1, badState (s.groupFull d) 5]

/-- surface.write with a field out of range (R139). -/
def writeBad (d : Slot) : Bool :=
  keyBad d || decide (2 ≤ prm d 3 1) || decide (prm d 19 1 ≠ 0) || decide (prm d 28 4 ≠ 0) ||
    !(decide (1 ≤ wrW d ∧ wrW d ≤ 16384 ∧ 1 ≤ wrH d ∧ wrH d ≤ 16384)) || decide (wrStride d < 4 * wrW d) ||
    decide (dLen d ≠ wrStride d * (wrH d - 1) + 4 * wrW d) || (wrFenced d && decide (479 < prm d 16 2))

/-- Refusals of surface.write (R87, R128, R139, R142). -/
def writeRefusals (i : Item) (s : State) : List Refuse :=
  let d := i.desc
  let l := tget {} (s.sceneOf i.sq) (lyrKey d)
  let f := prm d 16 2
  [malformed (writeBad d), malformed (l.surface && decide (l.st ≠ .free) && (decide (l.surfW < wrX d + wrW d) || decide (l.surfH < wrY d + wrH d)))] ++ friskRefusals i ++
    [authWrong (wrFenced d && decide (448 ≤ f) && i.sq != 15), badState (wrFenced d && decide (f < 448) && i.sq == 15) 0,
     badState (decide (l.st = .free ∨ l.st = .removing) || !l.surface) 1, badState (s.groupFull d) 5]

end Sys2Proof.Machine
end

