-- ==== Sys2Proof/Machine/QuireOps.lean ====
section
/-! DEFINITION. Shared operations of the quire section: lane-ends, the Frisket mask (R160, R220), leaf commands (R331 to R333), the feed plan, reaches and CLAIMs (R347 to R353, R360). -/

namespace Sys2Proof.Machine

open Sys2Proof

/-- LEAVES of a quire. -/
def State.nLeaves (s : State) (q : Nat) : Nat := s.regBits (0x7100 + 32 * q) 0 7

/-- A leaf in use: IN_SERVICE or DEGRADED. -/
def Leaf.inUse (l : Leaf) : Bool := decide (l.unit = .inService) || decide (l.unit = .degraded)

/-- The feed of a leaf: that of the plan while it is in use, otherwise none (R347; log entry 19). -/
def Leaf.fed (l : Leaf) : Nat := if l.inUse then l.feed else 0

/-- Positions of a quire in use. -/
def State.usedLeaves (s : State) (q : Nat) : List Nat := (List.range (s.nLeaves q)).filter fun i => (s.leaf (64 * q + i)).inUse

/-- The lane that carries the A-end (d = 0) or B-end (d = 1) of a quire. -/
def State.endLane (s : State) (q d : Nat) : Option Nat :=
  (List.range 80).find? fun i => (s.lane i).func == 2 + d && (s.lane i).quire == q

/-- A lane-end is UP: its lane is UP, or holds alignment through electrical idle. -/
def State.endUp (s : State) (q d : Nat) : Bool :=
  match s.endLane q d with
  | some i => decide ((s.lane i).link = .up) || decide ((s.lane i).link = .idle)
  | none => false

/-- Lane-ends UP as directions: 0 A, 1 B, 2 both. -/
def State.upDirs (s : State) (q : Nat) : Option Nat :=
  if s.endUp q 0 && s.endUp q 1 then some 2 else if s.endUp q 0 then some 0 else if s.endUp q 1 then some 1 else none

/-- Direction record of a quire. -/
def Quire.dir (x : Quire) (d : Nat) : Dir := if d = 0 then x.dirA else x.dirB
def Quire.setDir (x : Quire) (d : Nat) (y : Dir) : Quire := if d = 0 then { x with dirA := y } else { x with dirB := y }

/-- A packet queued on lane-ends of a quire under its session (R307). -/
def State.sendQ (q dirs : Nat) (p : QPkt) (s : State) : State := s.emit (.packet q dirs (s.quire q).tag p)

/-- A QUIRE trace record (Table 16-3). -/
def State.traceQuire (q d ev : Nat) (s : State) : State :=
  let x := s.quire q
  let sa := match x.dirA.stop with | none => 255 | some v => uns 8 v
  let sb := match x.dirB.stop with | none => 255 | some v => uns 8 v
  s.trace 0x30 (2 * q + d) (s.imp.counter + 1) (ev + x.epoch.toNat * 256 + sa * 2 ^ 40 + sb * 2 ^ 48)

/-! ### Frisket mask -/

/-- A region's rectangle in the mask: X, Y, W, H in units of 16 canvas pixels, widened to whole units (Table 9-5; log entry 14). -/
def maskRect (l : Layer) : Nat × Nat × Nat × Nat :=
  if l.st = .placed ∧ 0 < l.dstW ∧ 0 < l.dstH then
    let x0 := (max 0 l.dstX / 256).toNat
    let y0 := (max 0 l.dstY / 256).toNat
    let x1 := (max 0 (l.dstX + l.dstW + 255) / 256).toNat
    let y1 := (max 0 (l.dstY + l.dstH + 255) / 256).toNat
    (x0 % 65536, y0 % 65536, (x1 - x0) % 65536, (y1 - y0) % 65536)
  else (0, 0, 0, 0)

/-- The mask of a scene: region and rectangle. -/
def maskOf (ls : Tab Layer) : List (Nat × Nat × Nat × Nat × Nat) :=
  (ls.filter fun e => decide (64 ≤ e.1) && (decide (e.2.st = .placed) || decide (e.2.st = .defined))).map fun e => (e.1 - 64, maskRect e.2)

/-- Bit r for each region defined. -/
def regionBits (m : List (Nat × Nat × Nat × Nat × Nat)) : Half := BitVec.ofNat 16 (sumN (m.map fun e => 2 ^ e.1))

/-- The region whose mask rectangle holds a canvas pixel (R221). -/
def maskAt (m : List (Nat × Nat × Nat × Nat × Nat)) (p : Int × Int) : Option Nat :=
  (m.find? fun e => let (_, x, y, w, h) := e
    decide (Int.ofNat (16 * x) ≤ p.1 ∧ p.1 < Int.ofNat (16 * (x + w)) ∧ Int.ofNat (16 * y) ≤ p.2 ∧ p.2 < Int.ofNat (16 * (y + h)))).map (·.1)

/-- The canvas has the pixel. -/
def State.onCanvas (s : State) (p : Int × Int) : Bool := (s.tileAt p).isSome

/-- Slug i of a leaf holds a Frisket lamp. -/
def State.friskSlug (s : State) (m : List (Nat × Nat × Nat × Nat × Nat)) (k i : Nat) : Bool :=
  ((s.geom k).slugLamps i).any fun l => (maskAt m l.1).isSome

/-- The Frisket slugs of a leaf. -/
def State.friskSlugs (s : State) (m : List (Nat × Nat × Nat × Nat × Nat)) (k : Nat) : List Nat :=
  if m = [] then [] else (List.range (s.geom k).slugs).filter (s.friskSlug m k)

/-! ### Leaf commands -/

/-- Commands sent and not answered. -/
def Leaf.outCmds (l : Leaf) : Nat := (l.cmds.filter fun c => c.sent && !c.dead).length

/-- A command may go to a leaf: its quire runs a session, and its feed is not none; DARK also goes to a leaf that has left use, by the plan's feed (R325, R331, R369). -/
def State.cmdGoes (s : State) (k : Nat) (c : LCmd) : Bool :=
  let l := s.leaf k
  decide ((s.quire (k / 64)).st = .running) && !l.foreign && decide ((if c.opcode = 4 then l.feed else l.fed) ≠ 0)

/-- A command's packet on both directions; none where it cannot go (R331, R369). -/
def State.emitCmd (k : Nat) (c : LCmd) (s : State) : State :=
  if !s.cmdGoes k c then s
  else (s.sendQ (k / 64) 2 (.command (k % 64) c.seq c.opcode c.target c.data)).count (0x400 + 16 * (k / 64) + 12) 1

/-- Commands waiting for one of the 8 places are sent as places come free (R331). -/
def State.pumpCmds (k : Nat) (s : State) : State :=
  (s.leaf k).cmds.foldl (fun s c =>
    if !c.sent && !c.dead && decide ((s.leaf k).outCmds < 8) then
      let on (x : LCmd) : LCmd := if x.seq = c.seq then { x with sent := true, firstImp := s.opened } else x
      (s.modLeaf k fun l => { l with cmds := l.cmds.map on }).emitCmd k c
    else s) s

/-- A command for a leaf under its next SEQ: the SEQ and the new state (R331). -/
def State.sendCmd (k : Nat) (op : Half) (target : Nat) (data : List Byte) (item : Option Nat) (s : State) : Nat × State :=
  let l := s.leaf k
  let c : LCmd := { seq := l.nextSeq, opcode := op, target := target, data := data, firstImp := s.opened, item := item, sent := false }
  (l.nextSeq, (s.setLeaf k { l with nextSeq := l.nextSeq + 1, cmds := l.cmds ++ [c] }).pumpCmds k)

/-- The GEOMETRY record of a leaf (Table 9-11). -/
def geomData (g : Geom) : List Byte :=
  beFields ([(2, g.x0), (2, g.y0), (2, g.w - 1), (2, g.h - 1), (1, g.rot + 4 * b2n g.mirror), (1, g.n - 1), (1, bits g.cfg 8 8), (1, g.nRuns)] ++
    (List.range g.nRuns).flatMap fun r => let x := g.run r
      [(2, x.u), (2, x.v), (1, x.dir), (1, 0), (2, x.line), (2, x.lines), (2, x.stride)])

/-- The SINK record: every setting named (Table 9-11). -/
def sinkData (mask : Nat) (v : List Nat) : List Byte := beFields ([(1, mask)] ++ v.map (fun x => (1, x)) ++ [(2, 0)])

/-- The leaf's geometry sent, naming the impression at which it takes effect (R209). -/
def State.sendGeom (k imp : Nat) (s : State) : State :=
  let g := s.geom k
  let r := s.sendCmd k 2 imp (geomData g) none
  r.2.modLeaf k fun l => { l with geomSent := some g }

/-- DARK sent to a leaf (R337); its SEQ. -/
def State.sendDark (k : Nat) (item : Option Nat) (s : State) : Nat × State := s.sendCmd k 4 0 [] item

/-! ### Reach and feed -/

/-- Direction A or B reaches a leaf (R360). -/
def Quire.reach (x : Quire) (d i : Nat) : Bool :=
  match (x.dir d).stop with
  | none => true
  | some t => if d = 0 then decide (Int.ofNat i < t) else decide (t < Int.ofNat i)

/-- The loop of R360 for one leaf: the feed it has after the reaches are taken into account. -/
def Quire.adjust (x : Quire) (i feed : Nat) : Nat :=
  if feed = 1 ∧ !x.reach 0 i then (if x.reach 1 i then 2 else 0)
  else if feed = 2 ∧ !x.reach 1 i then (if x.reach 0 i then 1 else 0)
  else feed

/-- The epoch after e (R352). -/
def nextEpoch (e : Word) : Word := if e + 1 = 0 then 1 else e + 1

/-- FIRST and LAST of the run fed by an end, of the leaves in use: 0xFF and 0 when it is empty (R347, R353). -/
def State.runOf (s : State) (q f : Nat) : Nat × Nat :=
  let l := (List.range (s.nLeaves q)).filter fun i => (s.leaf (64 * q + i)).fed == f
  match l.head? with
  | none => (0xFF, 0)
  | some a => (a, (l.getLast?).getD a)

/-- Both CLAIMs of the plan in force (R353). -/
def State.sendClaims (q : Nat) (s : State) : State :=
  let e := (s.quire q).epoch
  let a := s.runOf q 1
  let b := s.runOf q 2
  ((s.sendQ q 2 (.claim e 0 a.1 a.2)).sendQ q 2 (.claim e 1 b.1 b.2)).count (0x40B + 16 * q) 2

/-- Feeds set for every position of a quire, in use or not, the epoch raised, the CLAIMs queued (R347, R353; log entry 19). -/
def State.setPlan (q : Nat) (f : Nat → Nat) (s : State) : State :=
  let s := (List.range (s.nLeaves q)).foldl (fun s i =>
    s.modLeaf (64 * q + i) fun l => { l with feed := (s.quire q).adjust i (f i) }) s
  let s := s.modQuire q fun x => { x with epoch := nextEpoch x.epoch }
  (s.sendClaims q).traceQuire q 0 2

/-- Non-Frisket slugs of a position in the set-up in force (R348). -/
def State.bulkSlugs (s : State) (q i : Nat) : Nat :=
  let g := s.geom (64 * q + i)
  if g.en then g.slugs - (s.friskSlugs (maskOf s.cmp.layers) (64 * q + i)).length else 0

/-- k of R348. -/
def State.balancedK (s : State) (q : Nat) : Nat :=
  let n := s.nLeaves q
  let c := (List.range n).map (s.bulkSlugs q)
  let load (k : Nat) : Nat := max (sumN (c.take k)) (sumN (c.drop k))
  ((List.range (n + 1)).foldl (fun b k => if load k < b.2 then (k, load k) else b) (0, load 0)).1

/-- The plan that splits at k: leaves below k to A, the others to B. -/
def splitAt (k i : Nat) : Nat := if i < k then 1 else 2

end Sys2Proof.Machine
end

