-- ==== Sys2Proof/Machine/Lamp.lean ====
section
/-! DEFINITION. The lamp section: corrections and L-codes (R168 to R173), Makeready tables (R176 to R183), dim and sink settings (R184 to R188), thermal and power derating (R189 to R194), the colour keeper (R195 to R200), and the latched leaf registers (R201). -/

namespace Sys2Proof.Machine

open Sys2Proof

/-- An LMP register in force since the last commit point (R201). -/
def State.lmpReg (s : State) (o : Nat) : Word := tget (rwReset o) s.lmp.force o

/-! ### One lamp (R170, R171) -/

/-- X of R170 from a matrix row and a canvas pixel. -/
def matrixX (row : Int × Int × Int × Int) (c : Rgb) : Nat :=
  (clampI 0 (2 ^ 36 - 1) (row.1 * c.r + row.2.1 * c.g + row.2.2.1 * c.b)).toNat

/-- L_out of R171. -/
def lampOut (lin : Nat) (offset dim th pw trim : Int) : Nat :=
  if lin = 0 then 0 else (clampI 1 65535 (Int.ofNat lin + offset - dim - th - pw + trim)).toNat

/-- The default correction of a channel's component (R177). -/
def defaultRow (comp : Nat) : Int × Int × Int × Int :=
  match comp with
  | 0 => (8192, 0, 0, 0)
  | 1 => (0, 8192, 0, 0)
  | 2 => (0, 0, 8192, 0)
  | _ => (2152, 5554, 486, 0)

/-- The leaf's lamps take its table now (R176, R183). -/
def Leaf.tableNow (l : Leaf) : Bool := l.tableUsed && (match l.table with | some t => !t.lost | none => false)

/-- The correction rows of the lamps of a slug, by place in the slug. -/
def State.slugRows (s : State) (k sl : Nat) : Nat → Nat → Int × Int × Int × Int :=
  let l := s.leaf k
  let g := s.geom k
  if l.tableNow then
    match l.table with
    | some t =>
      let pg := ((nthD [] t.pages (sl / 16) |> decompressPage).getD [])
      fun i _ => pageRecord pg ((512 * sl + i) % 8192)
    | none => fun _ ch => defaultRow (g.comp ch)
  else fun _ ch => defaultRow (g.comp ch)

/-- The canvas tile t as generation gen shows it: the newest late join at or below gen that finished it, otherwise the canvas (R157). -/
def State.tileFor (s : State) (gen t : Nat) : Tile :=
  match (s.cmp.late.filter fun j => decide (j.gen ≤ gen) && j.done.any fun e => e.1 == t).getLast? with
  | some j => tget {} j.done t
  | none => tget {} s.cmp.tiles t

/-- The canvas pixel at a leaf pixel: colour, capture time of its tile, INVALID mark; 0 with none outside the canvas (R207, R217). -/
def State.canvasAt (s : State) (gen : Nat) (p : Int × Int) : Rgb × Cap × Bool :=
  match s.tileAt p with
  | none => ({}, .none, false)
  | some (t, i) => let x := s.tileFor gen t
    (nthD {} x.px i, x.cap, nthD false x.inv i)

/-- The hatch code of a canvas pixel (R223). -/
def hatch (a b : Half) (p : Int × Int) : Half := if (p.1 + p.2) / 4 % 2 = 0 then a else b

/-- The mask of the impression in hand. -/
def State.mask (s : State) : List (Nat × Nat × Nat × Nat × Nat) := maskOf s.cmp.layers

/-- L_out of one lamp of leaf k: ordinary or Frisket dim (R184), hatch over INVALID pixels (R224). -/
def State.lampCode (s : State) (gen k : Nat) (row : Int × Int × Int × Int) (p : Int × Int) (ch : Nat) : Half :=
  let (c, _, inv) := s.canvasAt gen p
  let l := s.leaf k
  if inv then hatch s.cmp.invA s.cmp.invB p
  else
    let dim := if (maskAt s.mask p).isSome then min s.lmp.dim (bits (s.lmpReg 0x300C) 0 16) else s.lmp.dim
    BitVec.ofNat 16 (lampOut (lcode (matrixX row c)) row.2.2.2 dim l.dTh l.dPw (nthD 0 l.trimF ch))

/-- The 512 codes of a slug, pad lamps 0 (R168, R235). -/
def State.slugCodes (s : State) (gen k sl : Nat) : List Half :=
  let rows := s.slugRows k sl
  let v := ((s.geom k).slugLamps sl).zipIdx.map fun e => s.lampCode gen k (rows e.2 e.1.2) e.1.1 e.1.2
  v ++ List.replicate (512 - v.length) 0

/-- The capture time of a slug (R217). -/
def State.slugCap (s : State) (gen k sl : Nat) : Cap := oldest (((s.geom k).slugLamps sl).map fun e => (s.canvasAt gen e.1).2.1)

/-! ### The estimator -/

/-- SINK commands of the session not yet answered. -/
def Leaf.sinkCmds (l : Leaf) : List LCmd := l.cmds.filter fun c => c.opcode == 3 && !c.dead

/-- The values still pending of a setting: those of the SINK commands that name it, and the one recorded while it is to be sent (R191). -/
def Leaf.sinkPending (l : Leaf) (i : Nat) : List Nat :=
  (if l.sinkOwed then [nthD 128 l.sink i] else []) ++
    (l.sinkCmds.filter fun c => bit (nthD 0 c.data 0) i).map fun c => (nthD 0 c.data (1 + i)).toNat

/-- A sink setting as the estimator takes it: the largest of that acknowledged and those pending (R191). -/
def Leaf.estSink (l : Leaf) (i : Nat) : Nat := max (nthD 128 l.sinkAck i) (maxD 0 (l.sinkPending i))

/-- PENDING: a setting recorded is not yet acknowledged (Table 5-8). -/
def Leaf.sinkOpen (l : Leaf) : Bool :=
  (l.inUse && l.sinkOwed) || decide (l.sinkCmds ≠ []) || (List.range 5).any fun i => nthD 128 l.sink i != nthD 128 l.sinkAck i

/-- The sink settings in force at a leaf in impression m (R196). -/
def Leaf.sinksAt (l : Leaf) (m : Nat) : List Nat := ((l.sinkLog.find? fun e => decide (e.1 ≤ m)).map (·.2)).getD []

/-- The partial sum of a slug's codes (R191, R192). -/
def State.partSum (s : State) (k sl : Nat) (codes : List Half) : Nat :=
  let l := s.leaf k
  let n := (s.geom k).n
  let lamps := min 512 ((s.geom k).lamps - 512 * sl)
  sumN ((codes.take lamps).zipIdx.map fun e =>
    let ch := (512 * sl + e.2) % n
    linE e.1.toNat * bits l.weights (8 * ch) 8 * l.estSink 0 * l.estSink (1 + ch) / 2 ^ 14)

/-- The part of a slug at a generation: its own, or the newest below (R192). -/
def partAt (ps : List (Nat × Nat)) (g : Nat) : Nat :=
  (((sortBy (fun a b => decide (a.1 ≤ b.1)) (ps.filter fun e => decide (e.1 ≤ g))).getLast?).map (·.2)).getD 0

/-- est of a leaf for the impression in hand over the slugs it has, before it is held at 2^40 - 1 (R191, R192). -/
def State.estOf (s : State) (k : Nat) : Nat :=
  let l := s.leaf k
  let ps := l.parts.filter fun e => decide (e.1 < (s.geom k).slugs)
  maxD 0 ((List.range (s.cmp.gen + 1)).map fun g => sumN (ps.map fun e => partAt e.2 g))

/-- A leaf's budget (R193). -/
def State.budget (s : State) (l : Leaf) : Nat := l.budget * 65536 * bits (s.lmpReg 0x3014) 0 8 / 128

/-- est closed at the commit deadline (R191, R192, R194). -/
def State.closeEst (k : Nat) (s : State) : State :=
  let e := s.estOf k
  let l := s.leaf k
  let sat := decide (2 ^ 40 ≤ e)
  let s1 := s.setLeaf k { l with est := min e (2 ^ 40 - 1), saturated := sat, overBudget := sat || decide (s.budget l < e) }
  if sat && (match l.satAt with | none => true | some t => decide (t + secU ≤ s.clk)) then
    (s1.modLeaf k fun x => { x with satAt := some s.clk }).raise .leafPowerSaturated (instOf 4 k) [] false
  else s1

/-! ### Derating at a commit point -/

/-- th_target of R189. -/
def State.thTarget (s : State) (temp : Int) : Nat :=
  let w := s.lmpReg 0x3010
  let a := Int.ofNat (bits w 8 8) * (temp - 16 * Int.ofNat (bits w 0 8))
  (clampI 0 8192 (-((-a) / 16))).toNat

/-- One step of d_th (R189). -/
def stepTh (d target : Nat) : Nat := (Int.ofNat d + clampI (-16) 16 (Int.ofNat target - Int.ofNat d)).toNat

/-- d_pw of the next impression (R193). -/
def stepPw (l : Leaf) (budget th' : Nat) : Nat :=
  if l.saturated then min (l.dPw + 2048) 8192
  else if budget < l.est then min (l.dPw + (if budget = 0 then 8192 else ceilLog 2048 l.est budget)) 8192
  else
    let freed : Int := max 0 (Int.ofNat l.dTh - Int.ofNat th')
    let m : Int := if l.est = 0 then 65536 else floorLog 2048 budget l.est
    l.dPw - (clampI 0 (min 16 l.dPw) (m - freed)).toNat

/-- d_th and d_pw of a leaf in use updated at a commit point (R189, R193), and the trims of any leaf put in force (R172). -/
def State.derate (k : Nat) (s : State) : State :=
  let l := s.leaf k
  if !l.inUse then s.setLeaf k { l with trimF := l.trim }
  else
    let c := s.lmpReg 0x3004
    let th := stepTh l.dTh (if bit c 1 && l.tempSeen then s.thTarget l.temp else 0)
    let pw := if bit c 2 then stepPw l (s.budget l) th else l.dPw - min 16 l.dPw
    s.setLeaf k { l with dThPrev := l.dTh, dTh := th, dPw := pw, trimF := l.trim }

/-- LEAF_OVER_TEMP judged from a leaf's newest report, when that comes and at each commit point, which may change LMP_THERM (R190). -/
def State.overTemp (k : Nat) (s : State) : State :=
  let l := s.leaf k
  if !l.tempSeen then s else
  let alarm := Int.ofNat (bits (s.lmpReg 0x3010) 16 8)
  let full := decide (8192 ≤ s.thTarget l.temp)
  if !l.overTempEp && (decide (16 * alarm ≤ l.temp) || full) then
    (s.setLeaf k { l with overTempEp := true }).raise .leafOverTemp (instOf 4 k) [] true
  else if l.overTempEp && decide (l.temp ≤ 16 * (alarm - 5)) && !full then
    (s.setLeaf k { l with overTempEp := false }).clear .leafOverTemp (instOf 4 k)
  else s

/-! ### Tables -/

/-- Pages a leaf of a geometry has (R174). -/
def Geom.pages (g : Geom) : Nat := ceilDiv g.slugs 16

/-- A table matches a geometry (R176): page count, N, LAMPS of the last page. -/
def tableMatches (t : Table) (g : Geom) : Bool :=
  t.pages.length == g.pages &&
    (match t.pages.getLast? with
     | none => false
     | some p => match decompressPage p with
       | none => false
       | some b => pageN b == g.n && pageLamps b + 8192 * (g.pages - 1) == g.lamps)

/-- The leaf uses its table for the impression whose commit point this is (R176). -/
def State.useTable (k : Nat) (s : State) : State :=
  s.modLeaf k fun l => { l with tableUsed := (s.geom k).en && (match l.table with | some t => !t.lost && tableMatches t (s.geom k) | none => false) }

/-- Leaves that use their table. -/
def State.tableLeaves (s : State) : List Nat := (s.leaves.filter fun e => e.2.tableNow).map (·.1)

/-- Cache keys of the tables in use. -/
def State.pageKeys (s : State) : List Nat :=
  (s.leaves.map fun e => if e.2.tableNow then (match e.2.table with | some t => (List.range t.pages.length).map fun p => 256 * e.1 + p | none => []) else []).flatten

/-- Resident or streaming mode after the tables in use have changed; pages of tables no longer used leave the cache (R182). -/
def State.pager (s : State) : State :=
  let keys := s.pageKeys
  { s with lmp := { s.lmp with pinned := decide (keys.length ≤ 704), cache := s.lmp.cache.filter fun c => c ∈ keys } }

/-- Pages in the cache of which no slug of the impression in hand has been produced: those the pager is ahead by. -/
def State.pagesAhead (s : State) : Nat :=
  (s.lmp.cache.filter fun c => !s.slg.slugs.any fun x => x.imp == s.win.imp && x.leaf == c / 256 && x.slug / 16 == c % 256).length

/-- The pager may read another page: in streaming mode it keeps at most AHEAD pages ahead of each pipeline (R182; log entry 97). -/
def State.mayFetch (s : State) : Bool := s.lmp.pinned || decide (s.pagesAhead < bits (s.lmpReg 0x301C) 0 10 * max 1 s.encoders.length)

/-- A fetch of a stored page failed (R183): once more, and after a second failure the table is LOST. -/
def State.pageFailed (k p : Nat) (s : State) : State :=
  match (s.leaf k).table with
  | none => s
  | some t =>
    if t.lost ∨ t.pages.length ≤ p then s
    else if p ∈ t.retry then
      let s := s.modLeaf k fun l => { l with table := some { t with lost := true, bad := p :: t.bad, retry := [] } }
      ({ s with lmp := { s.lmp with cache := s.lmp.cache.filter fun c => c / 256 != k } } : State).raise .tablePageMalformed (instOf 4 k) [] false
    else s.modLeaf k fun l => { l with table := some { t with retry := p :: t.retry } }

/-- A page read from DRAM: it takes a place of the 768 when its table is in use; or the fetch fails (R182, R183). -/
def State.pageRead (k p : Nat) (readOk : Bool) (t : Table) (s : State) : State :=
  let c := s.lmp.cache.filter fun c => c != 256 * k + p
  if readOk && (decompressPage (nthD [] t.pages p)).isSome then
    let s := s.modLeaf k fun l => { l with table := some { t with retry := t.retry.filter fun x => x != p } }
    if 256 * k + p ∈ s.pageKeys then { s with lmp := { s.lmp with cache := ((256 * k + p) :: c).take 768 } } else s
  else ({ s with lmp := { s.lmp with cache := c } } : State).pageFailed k p

/-- PAGE_FETCH (R182, R183): a page of a table in use, or one to be fetched once more after a failure, read by the pager. -/
def execPageFetch (dt k p : Nat) (readOk : Bool) (s : State) : Host.Outcome State Fault Refusal :=
  let s := s.elapse dt
  .next (match (s.leaf k).table with
    | none => s
    | some t => if decide (p ∈ t.retry) || (decide (256 * k + p ∈ s.pageKeys) && s.mayFetch) then s.pageRead k p readOk t else s)

/-- Refusals of table.load (R178, R179). -/
def tableLoadRefusals (i : Item) (_ : State) : List Refuse :=
  let d := i.desc
  [malformed (decide (15 < prm d 0 1 ∨ 63 < prm d 1 1 ∨ prm d 2 2 = 0 ∨ 256 < prm d 2 2))]

/-- TABLE_LOAD (R178, R179): taken, and its buffer read. -/
def execTableLoad (dt q : Nat) (desc auth : Slot) (s : State) : Host.Outcome State Fault Refusal :=
  .next ((s.elapse dt).takeCmd 0x0301 q desc auth false 0 tableLoadRefusals
    (fun i s => s.phase i.id .staging))

/-- The leaf a table.load or table.verify names. -/
def tblLeaf (d : Slot) : Nat := 64 * prm d 0 1 + prm d 1 1

/-- The compressed pages of a table.load buffer; none when the directory does not match BUF_LEN (R178). -/
def tblPages (d : Slot) (buf : List Byte) : Option (List (List Byte)) :=
  let n := prm d 2 2
  let lens := (List.range n).map fun i => leNat (slice buf (4 * i) 4)
  if 4 * n + sumN lens ≠ buf.length then none
  else some ((List.range n).map fun i => slice buf (4 * n + sumN (lens.take i)) (nthD 0 lens i))

/-- The contents of a table are as R175 and R179 ask. -/
def tblGood (d : Slot) (pages : List (List Byte)) : Bool :=
  let dec := pages.map decompressPage
  let bs := dec.filterMap id
  let n := pageN (bs.headD [])
  dec.all (·.isSome) && (bs.zipIdx.all fun e => pageOk (tblLeaf d) e.2 pages.length n e.1) && crc32c bs.flatten == BitVec.ofNat 32 (prm d 4 4)

/-- Bytes of the table a leaf may come to have: its own, or the largest accepted for it that waits for its commit point (R179; log entry 97). -/
def State.tableSize (s : State) (k : Nat) : Nat :=
  let own := match (s.leaf k).table with | some t => sumN (t.pages.map List.length) | none => 0
  let wait := (s.hif.items.filter fun i => i.opcode == 0x0301 && decide (i.phase = .landing) && tblLeaf i.desc == k).map fun i => i.buf.length - 4 * prm i.desc 2 2
  max own (maxD 0 wait)

/-- Bytes of the compressed tables of all leaves, but for one leaf, which is to have another (R179). -/
def State.tableBytes (s : State) (but : Nat) : Nat := sumN ((List.range 1024).map fun k => if k = but then 0 else s.tableSize k)

/-- TABLE_LOAD_STAGED (R179, R180): the contents are checked as a whole; a good table waits for its commit point. -/
def execTableLoadStaged (dt id : Nat) (s : State) : Host.Outcome State Fault Refusal :=
  let s := s.elapse dt
  .next (match s.item? id with
    | none => s
    | some i =>
      if i.opcode ≠ 0x0301 ∨ i.phase ≠ .working then s
      else
        match tblPages i.desc i.buf with
        | none => s.refuse id .refusedMalformed 0
        | some pages =>
          if !tblGood i.desc pages then s.refuse id .refusedMalformed 0
          else
            let bytes := sumN (pages.map List.length)
            if 2 ^ 32 < bytes + s.tableBytes (tblLeaf i.desc) then s.refuse id .refusedCapacity 3
            else
              match s.alloc clsPaging (extents bytes) with
              | none => s.refuse id .refusedCapacity 3
              | some (a, s) =>
                let ready (x : Item) : Item := { x with phase := .landing, stagedAt := s.tim.time, aux := a }
                s.modItem id ready)

/-- A staged table becomes the leaf's table (R180). -/
def State.landTable (i : Item) (m : Nat) (s : State) : State :=
  let d := i.desc
  let k := tblLeaf d
  let t : Table := { id := BitVec.ofNat 32 (prm d 8 4), crc := BitVec.ofNat 32 (prm d 4 4), pages := (tblPages d i.buf).getD [], alloc := i.aux }
  let s := match (s.leaf k).table with | some o => s.release [o.alloc] | none => s
  let s : State := { s with lmp := { s.lmp with cache := s.lmp.cache.filter fun c => c / 256 != k } }
  (s.modLeaf k fun l => { l with table := some t }).done i.id m 0

/-- The table.load commands ready for a leaf, up to the first not yet staged (R180). -/
def readyLoads (l : List Item) : List Item := l.takeWhile fun i => decide (i.phase = .landing)

/-- Tables land at a commit point: of several ready for one leaf the last lands and the others are SUPERSEDED (R180). -/
def State.landTables (m : Nat) (s : State) : State :=
  let loads := s.hif.items.filter fun i => i.opcode == 0x0301
  (dedup (loads.map fun i => tblLeaf i.desc)).foldl (fun s k =>
    let r := readyLoads (loads.filter fun i => tblLeaf i.desc == k)
    match r.getLast? with
    | none => s
    | some i => (r.dropLast.foldl (fun s x => (s.release [x.aux]).refuse x.id .superseded 0) s).landTable i m) s

/-- Refusals of table.verify (R181). -/
def tableVerifyRefusals (i : Item) (s : State) : List Refuse :=
  [malformed (decide (15 < prm i.desc 0 1 ∨ 63 < prm i.desc 1 1)), badState (s.leaf (tblLeaf i.desc)).table.isNone 0]

/-- TABLE_VERIFY (R181). -/
def execTableVerify (dt q : Nat) (desc auth : Slot) (s : State) : Host.Outcome State Fault Refusal :=
  .next ((s.elapse dt).takeCmd 0x0302 q desc auth false 0 tableVerifyRefusals
    (fun i s => s.phase i.id .working))

/-- A stored page fails verification: it cannot be read, or does not decompress (R181). -/
def Table.pageBad (t : Table) (bad : Option Nat) (p : Nat) : Bool := decide (p ∈ t.bad) || decide (bad = some p) || (decompressPage (nthD [] t.pages p)).isNone

/-- TABLE_VERIFY_DONE (R181). -/
def execTableVerifyDone (dt : Nat) (v : VerifyEnd) (s : State) : Host.Outcome State Fault Refusal :=
  let s := s.elapse dt
  let id := v.item
  .next (match s.item? id with
    | none => s
    | some i =>
      if i.opcode ≠ 0x0302 ∨ i.phase ≠ .working then s
      else
        match (s.leaf (tblLeaf i.desc)).table with
        | none => s.refuse id .failedUnit 0
        | some t =>
          match (List.range t.pages.length).find? (t.pageBad v.bad) with
          | some p => (s.pageFailed (tblLeaf i.desc) p).refuse id .failedUnit (0x10000 + p)
          | none => s.complete id .done t.id.toNat 0 (crc32c ((t.pages.map fun p => (decompressPage p).getD []).flatten)).toNat false)

/-! ### dim.set -/

/-- Leaves a form 1 addresses (Table 5-6). -/
def dimLeaves (d : Slot) : List Nat :=
  let qs := if prm d 1 1 = 255 then List.range 16 else [prm d 1 1]
  (qs.map fun q => if prm d 2 1 = 255 then (List.range 64).map fun i => 64 * q + i else [64 * q + prm d 2 1]).flatten

/-- MASK of a form 1. -/
def dimMask (d : Slot) : Nat := prm d 3 1 % 32

/-- Refusals of dim.set (R186). -/
def dimSetRefusals (i : Item) (_ : State) : List Refuse :=
  let d := i.desc
  [malformed (decide (1 < prm d 0 1)), malformed (decide (prm d 0 1 = 1) && (decide (15 < prm d 1 1 ∧ prm d 1 1 ≠ 255) || decide (63 < prm d 2 1 ∧ prm d 2 1 ≠ 255) ||
    decide (prm d 1 1 = 255 ∧ prm d 2 1 ≠ 255) || decide (dimMask d = 0)))]

/-- DIM_SET taken (R186); it lands at its target's commit point. -/
def execDimSet (dt q : Nat) (desc auth : Slot) (s : State) : Host.Outcome State Fault Refusal :=
  .next ((s.elapse dt).takeCmd 0x0303 q desc auth true 0 dimSetRefusals
    (fun i s => s.phase i.id .landing))

/-- A later dim.set of one form sets all that an earlier one does (R187). -/
def dimCovers (later earlier : Slot) : Bool :=
  prm later 0 1 == prm earlier 0 1 &&
    (prm later 0 1 == 0 || ((List.range 5).all fun b => dimMask earlier / 2 ^ b % 2 == 0 || dimMask later / 2 ^ b % 2 == 1) &&
      (dimLeaves earlier).all fun k => k ∈ dimLeaves later)

/-- The settings of a form 1 put on a leaf's record (R185). -/
def dimSinks (d : Slot) (l : List Nat) : List Nat :=
  (List.range 5).map fun b => if dimMask d / 2 ^ b % 2 = 1 then prm d (6 + b) 1 else nthD 128 l b

/-- One leaf's sink settings, recorded and, in service, sent with the commit point's target (R185). -/
def State.sinkLeaf (i : Item) (m k : Nat) (s : State) : State :=
  let v := dimSinks i.desc (s.leaf k).sink
  let s := s.modLeaf k fun l => { l with sink := v }
  if (s.leaf k).inUse then
    let r := s.sendCmd k 3 m (sinkData (dimMask i.desc) ((List.range 5).map fun b => prm i.desc (6 + b) 1)) (some i.id)
    let wait (x : Item) : Item := { x with waits := x.waits ++ [(k, r.1)] }
    r.2.modItem i.id wait
  else s

/-- dim.set lands at m (R184 to R187). -/
def State.landDim (i : Item) (m : Nat) (s : State) : State :=
  let landed (x : Item) : Item := { x with phase := .leaves, landedAt := m, applied := m }
  if prm i.desc 0 1 = 0 then ({ s with lmp := { s.lmp with dim := prm i.desc 4 2 } } : State).modItem i.id landed
  else (dimLeaves i.desc).foldl (fun s k => s.sinkLeaf i m k) (s.modItem i.id landed)

/-- Every dim.set due at m lands, in take order; those a later one covers are SUPERSEDED (R187). -/
def State.landDims (m : Nat) (s : State) : State :=
  let l := s.hif.items.filter fun i => i.opcode == 0x0303 && decide (i.phase = .landing) && decide (i.target ≤ m) && !s.heldBack i
  l.foldl (fun s i =>
    if (l.filter fun j => decide (i.id < j.id)).any fun j => dimCovers j.desc i.desc then
      (if prm i.desc 0 1 = 1 then (dimLeaves i.desc).foldl (fun s k => s.modLeaf k fun x => { x with sink := dimSinks i.desc x.sink }) s else s).refuse i.id .superseded 0
    else s.landDim i m) s

/-! ### The colour keeper (R195 to R199) -/

/-- q_c of a reading (R195). -/
def qLog (q : Nat) : Int := if q = 0 then 0 else roundLog q 1

/-- The leaf's newest reading of a channel, when it is not zero and less than 2 s old. -/
def State.freshQ (s : State) (k c : Nat) : Option Nat :=
  let (q, at_) := nthD (0, 0) (s.leaf k).q c
  if q ≠ 0 ∧ s.clk < at_ + 2 * secU then some q else none

/-- Sum and count of a channel's drive in an impression (R195). -/
def driveOf (l : Leaf) (imp c : Nat) : Option (Nat × Nat) := (l.drive.find? fun e => e.1 == imp).map fun e => (nthD 0 e.2.1 c, nthD 0 e.2.2 c)

/-- kappa_r of a MEASURE, with the sink settings in force in the impression it names (R196). -/
def State.kappaR (s : State) (k c y imp : Nat) : Int :=
  let l := s.leaf k
  let (sum, cnt) := (driveOf l imp c).getD (0, 1)
  let g := l.sinksAt imp
  roundLog y 1024 - qLog ((s.freshQ k c).getD 1) - roundLog (sum * nthD 128 g 0 * nthD 128 g (1 + c)) (cnt * 2 ^ 31 * 128 * 128)

/-- A channel's drive in an impression is known and is not 0 (R197). -/
def Leaf.driven (l : Leaf) (imp c : Nat) : Bool :=
  match driveOf l imp c with
  | none => false
  | some x => x.1 * nthD 128 (l.sinksAt imp) 0 * nthD 128 (l.sinksAt imp) (1 + c) != 0

/-- Reference leaves. -/
def State.refLeaves (s : State) : List Nat := (s.leaves.filter fun e => e.2.refLeaf).map (·.1)

/-- The rounded mean of a list, ties toward the larger; 0 of none. -/
def meanRound (l : List Int) : Int :=
  if l = [] then 0 else (2 * l.foldl (· + ·) 0 + Int.ofNat l.length) / (2 * Int.ofNat l.length)

/-- kappa_r values of a channel. -/
def State.kappas (s : State) (c : Nat) : List Int := s.leaves.filterMap fun e => if e.2.refLeaf then (nthD none e.2.kappaR c) else none

/-- kappa_c as the reference leaves give it. -/
def State.setKappa (s : State) : State := { s with lmp := { s.lmp with kappa := (List.range 4).map fun c => meanRound (s.kappas c) } }

/-- Refusals of colour.reference (R196, R197). -/
def colourRefusals (i : Item) (s : State) : List Refuse :=
  let d := i.desc
  let mode := prm d 0 1
  let k := 64 * prm d 1 1 + prm d 2 1
  let c := prm d 3 1
  let meas := decide (mode = 0)
  [malformed (decide (2 < mode)), malformed (decide (mode ≠ 1) && decide (15 < prm d 1 1 ∨ 63 < prm d 2 1)), malformed (meas && (decide (3 < c) || decide (prm d 4 4 = 0))),
   badState (meas && (!(s.leaf k).inUse || (s.freshQ k c).isNone || !(s.leaf k).driven (prm d 8 8) c ||
     (decide (16 ≤ s.refLeaves.length) && !(s.leaf k).refLeaf))) 0]

/-- The scale MEASURE forms (R197), as 32 bits. -/
def State.refScale (s : State) (d : Slot) : Nat :=
  if prm d 0 1 = 0 then uns 32 (s.kappaR (64 * prm d 1 1 + prm d 2 1) (prm d 3 1) (prm d 4 4) (prm d 8 8)) else 0

/-- COLOUR_REFERENCE taken: MEASURE's scale is formed now; it lands at its target's commit point. -/
def execColourReference (dt q : Nat) (desc auth : Slot) (s : State) : Host.Outcome State Fault Refusal :=
  .next ((s.elapse dt).takeCmd 0x0304 q desc auth true 0 colourRefusals
    (fun i s =>
      let v := s.refScale i.desc
      let go (x : Item) : Item := { x with phase := .landing, aux := v }
      s.modItem i.id go))

/-- A leaf captured (R196). -/
def State.captureLeaf (k : Nat) (s : State) : State :=
  s.modLeaf k fun l => { l with
    reports := (List.range 4).map fun c => if (s.freshQ k c).isSome then 0 else nthD 0 l.reports c
    e0 := (List.range 4).map fun c => match s.freshQ k c with
      | some q => some (nthD 0 s.lmp.kappa c + qLog q + nthD 0 l.trim c)
      | none => nthD none l.e0 c }

/-- colour.reference lands at m (R196). -/
def State.landColour (i : Item) (m : Nat) (s : State) : State :=
  let d := i.desc
  let k := 64 * prm d 1 1 + prm d 2 1
  if prm d 0 1 = 0 then
    let s := (s.modLeaf k fun l => { l with refLeaf := true, kappaR := setNth l.kappaR (prm d 3 1) (some (sgn 32 i.aux)) }).setKappa
    s.done i.id m (uns 32 (nthD 0 s.lmp.kappa (prm d 3 1) - nthD 0 s.lmp.kappa0 (prm d 3 1)))
  else if prm d 0 1 = 1 then
    let ls := (s.leaves.filter fun e => e.2.inUse && (List.range 4).any fun c => (s.freshQ e.1 c).isSome).map (·.1)
    let s := ls.foldl (fun s k => s.captureLeaf k) s
    ({ s with lmp := { s.lmp with kappa0 := s.lmp.kappa, captured := true } } : State).done i.id m ls.length
  else ((s.modLeaf k fun l => { l with refLeaf := false, kappaR := [none, none, none, none] }).setKappa).done i.id m 0

/-- One channel of the keeper at a new reading (R198, R199): the trim, and whether its target lies outside ±256. -/
def keeperStep (deadband : Nat) (target trim : Int) : Int × Bool :=
  let spill := decide (256 < target.natAbs)
  if deadband < (target - trim).natAbs then (clampI (-256) 256 (if trim < target then trim + 1 else trim - 1), spill) else (trim, spill)

/-- The trims of a leaf at a SENSOR report (R198, R199). -/
def State.keeper (k : Nat) (qs : List Nat) (s : State) : State :=
  if !bit (s.lmpReg 0x3004) 0 then s
  else
    (List.range 4).foldl (fun s c =>
      let l := s.leaf k
      match nthD none l.e0 c with
      | none => s
      | some e0 =>
        if nthD 0 qs c = 0 ∨ nthD 0 l.reports c < bits (s.lmpReg 0x3018) 8 8 then s
        else
          let target := e0 - nthD 0 s.lmp.kappa c - qLog (nthD 0 qs c)
          let (t, spill) := keeperStep (bits (s.lmpReg 0x3018) 0 8) target (nthD 0 l.trim c)
          let was := nthD false l.trimEp c
          let s := s.setLeaf k { l with trim := setNth l.trim c t, trimEp := setNth l.trimEp c spill }
          if spill && !was then s.raise .colourTrimLimit (instOf 4 k) [c, uns 32 target] true
          else if was && !spill && !((s.leaf k).trimEp.any id) then s.clear .colourTrimLimit (instOf 4 k) else s) s

/-! ### Registers -/

/-- The LMP_LEAF_ registers of a leaf, from LMP_LEAF_STATE to LMP_LEAF_TABLE_ID (Tables 5-8, 5-10). -/
def State.lampRegs (s : State) (k : Nat) : List Word :=
  let l := s.leaf k
  let t2 (a b : Nat) : Word := pack [(0, uns 10 (nthD 0 l.trimF a)), (16, uns 10 (nthD 0 l.trimF b))]
  let lost := match l.table with | some t => t.lost | none => false
  [pack [(0, l.dTh), (14, l.dPw), (28, b2n l.overBudget), (29, b2n l.tableNow), (30, b2n lost), (31, b2n l.refLeaf)], t2 0 1, t2 2 3, loW l.est,
   pack [(0, l.est / 2 ^ 32), (8, b2n l.saturated)], pack ((List.range 4).map fun b => (8 * b, nthD 128 l.sink b)),
   pack [(0, nthD 128 l.sink 4), (8, b2n l.sinkOpen)],
   pack [(0, uns 16 l.temp), (16, if l.tempSeen then satU 16 ((s.clk - l.tempAt) / msU) else 0)], (match l.table with | some t => t.id | none => 0)]

/-- The LMP_LEAF_ registers at reset. -/
def lampRegs0 : List Word := [0, 0, 0, 0, 0, 0x80808080, 0x80, 0, 0]

/-- The LMP_LEAF_ registers of every leaf as they stand (R201). -/
def State.lampTab (s : State) : Tab (List Word) := s.leaves.foldl (fun t e => tput lampRegs0 t e.1 (s.lampRegs e.1)) []

/-- A write of LMP_LEAF_SEL (R201): every LMP_LEAF_ register latched from the last closed impression. -/
def State.selectLamp (v : Word) (s : State) : State :=
  let s := s.writeReg 0x3080 v
  let l := tget lampRegs0 s.lmp.closed (bits v 0 10)
  { s with lmp := { s.lmp with latched := (List.range 9).foldl (fun t j => tput (rwReset (0x3084 + 4 * j)) t (0x3084 + 4 * j) (nthD 0 l j)) [] } }

/-- LMP_LEAF_SELECT. -/
def execLmpLeafSelect (dt : Nat) (v : Word) (s : State) : Host.Outcome State Fault Refusal := .next ((s.elapse dt).selectLamp v)

end Sys2Proof.Machine
end

