-- ==== Sys2Proof/Machine/Imposition.lean ====
section
/-! DEFINITION. Set-ups: IMP_COMMIT and its checks (R211 to R213, Table 6-3), their application at a commit point with staging rings and pool (R256, R257), LIVE (R214), and the egress check (R32). -/

namespace Sys2Proof.Machine

open Sys2Proof

/-! ### Egress (R22, R32) -/

/-- P of a rational in 2^-16 ns, rounded down. -/
def periodU (p : Nat × Nat × Nat) : Nat := p.1 * secU / max 1 p.2.1

/-- Bytes of a COMMAND packet with n bytes of DATA. -/
def cmdBytes (n : Nat) : Nat := 36 + n

/-- COMMAND bits of a quire under a set-up: a GEOMETRY and a SINK for each leaf enabled, and what its leaves have not answered (log entry 15). -/
def Setup.cmdBits (u : Setup) (ls : Tab Leaf) (q : Nat) : Nat :=
  8 * (sumN (u.leaves.map fun e => if e.2.en && e.1 / 64 == q then cmdBytes (12 + 12 * e.2.nRuns) + cmdBytes 8 else 0) +
    sumN (ls.map fun e => if e.1 / 64 = q then sumN ((e.2.cmds.filter fun c => !c.dead).map fun c => cmdBytes c.data.length) else 0))

/-- h_q of R32 but for commands: header parts, two CLAIMs and a TIME for each millisecond and one more (log entry 15). -/
def mirrorBits (dur : Nat) : Nat := 8 * (200 + 804 + 2 * 28 + 44 * (ceilDiv dur msU + 1))

/-- A quire of n slugs and c bits of commands passes R32 with a period and an offset S in microseconds. -/
def egressOk (n c p sUs : Nat) : Bool :=
  let dur := p - marginU p - sUs * usU
  decide ((n * 8320 + mirrorBits dur + c) * secU ≤ 98000000000 * dur)

/-- The first quire of a set-up that fails R32 under a period and S; none without a period, which R32 needs (log entry 15). -/
def Setup.egressFail (u : Setup) (ls : Tab Leaf) (p : Option (Nat × Nat × Nat)) (sUs : Nat) : Option Nat :=
  match p with
  | none => none
  | some p => (List.range 16).find? fun q => decide (0 < u.slugsOf q) && !egressOk (u.slugsOf q) (u.cmdBits ls q) (periodU p) sUs

/-- R32 fails for the set-up in force. -/
def State.egressBad (s : State) : Bool := (s.imp.setup.egressFail s.leaves s.tim.pUse s.cmp.sUs).isSome

/-! ### IMP_COMMIT -/

/-- The shadow copy (R211). -/
def State.shadowSetup (s : State) : Setup := { canvas := s.reg 0x2008, leaves := s.imp.shadow }

/-- IMP_RESULT. -/
def resultWord (st : Status) (leaf reason : Nat) : Word := pack [(0, st.code), (16, leaf), (26, reason)]

/-- The first failing check of Table 6-3: status, leaf named and reason. Leaf by leaf the reasons 1 to 4, then 5 to 7. -/
def Setup.check (u : Setup) (ls : Tab Leaf) (p : Option (Nat × Nat × Nat)) (sUs : Nat) : Option (Status × Nat × Nat) :=
  match u.leaves.find? fun e => e.2.en && decide (e.2.check ≠ 0) with
  | some e => some (.refusedMalformed, e.1, e.2.check)
  | none =>
    if 2 ^ 28 < u.cw * u.ch then some (.refusedMalformed, 0, 5)
    else if 2 ^ 28 < sumN (u.leaves.map fun e => if e.2.en then e.2.lamps else 0) then some (.refusedCapacity, 0, 6)
    else (u.egressFail ls p sUs).map fun q => (.refusedCapacity, 64 * q, 7)

/-- A write of IMP_COMMIT (R212); ignored while CHECKING or PENDING. -/
def State.writeImpCommit (v : Word) (s : State) : State :=
  if bit v 0 && !s.imp.checking && !s.imp.pend then { s with imp := { s.imp with snap := some s.shadowSetup, checking := true } } else s

/-- IMP_COMMIT. -/
def execImpCommit (dt : Nat) (v : Word) (s : State) : Host.Outcome State Fault Refusal := .next ((s.elapse dt).writeImpCommit v)

/-- IMP_CHECK_DONE (R212, Table 6-4). -/
def execImpCheckDone (dt : Nat) (s : State) : Host.Outcome State Fault Refusal :=
  let s := s.elapse dt
  .next (match s.imp.snap with
    | none => s
    | some u =>
      if !s.imp.checking then s
      else
        match u.check s.leaves s.tim.pUse s.cmp.sUs with
        | some (st, leaf, reason) => { s with imp := { s.imp with checking := false, snap := none, result := resultWord st leaf reason } }
        | none => { s with imp := { s.imp with checking := false, pend := true } })

/-! ### Staging rings and pool (R256, R257) -/

/-- Pages a quire's ring needs, and those its extents hold. -/
def ringNeed (n : Nat) : Nat := if n = 0 then 0 else 2 * ceilDiv n 63 + 2
def ringExt (n : Nat) : Nat := ceilDiv (ringNeed n) 32

/-- The rings of a set-up reserved from quire q on: allocations and the new state, or the quire that failed. -/
def State.reserveRings (u : Setup) : Nat → Nat → List Nat → State → Nat ⊕ (List Nat × State)
  | 0, _, as, s => .inr (as, s)
  | n + 1, q, as, s =>
    if u.slugsOf q = 0 then State.reserveRings u n (q + 1) as s
    else
      match s.alloc clsReal (ringExt (u.slugsOf q)) with
      | none => .inl q
      | some (a, s) => State.reserveRings u n (q + 1) (as ++ [a]) s

/-- Extents of the canvas store: two canvases of 9 bytes for each pixel (Table 12-1; log entry 76). -/
def Setup.canvasExt (u : Setup) : Nat := extents (18 * (u.cw * u.ch))

/-- Extents of the reference image: 1 KiB for each slug (R240). -/
def Setup.refExt (u : Setup) : Nat := extents (1024 * sumN ((List.range 16).map u.slugsOf))

/-- Real-time allocations reserved one after another, or none of them. -/
def State.reserveAll : List Nat → List Nat → State → Option (List Nat × State)
  | [], as, s => some (as, s)
  | n :: ns, as, s =>
    match s.alloc clsReal n with
    | none => none
    | some (a, s) => State.reserveAll ns (as ++ [a]) s

/-- What a set-up reserves, its rings, the pool, the canvas store and the reference image: allocations and the new state, or the leaf IMP_RESULT names (REASON 8). -/
def State.reserveStaging (u : Setup) (s : State) : Nat ⊕ (List Nat × State) :=
  match State.reserveRings u 16 0 [] s with
  | .inl q => .inl (64 * q)
  | .inr (as, s1) =>
    match State.reserveAll [ceilDiv (s.regBits 0x5008 0 12) 2, u.canvasExt, u.refExt] as s1 with
    | none => .inl 0
    | some r => .inr r

/-- A leaf's lamp count or lamps per pixel, as its last ENROLL gave them, differ from its descriptor (R210). -/
def State.mismatched (s : State) (k : Nat) : Bool :=
  let l := s.leaf k
  let g := s.geom k
  g.en && decide (l.proto = 1) && (l.lamps != g.lamps || l.nLamp != g.n)

/-- MISMATCH judged for a leaf, and UNIT_STATE_CONFLICT raised for it once for each set-up applied (R210). -/
def State.checkMismatch (k : Nat) (s : State) : State :=
  let bad := s.mismatched k
  let said := (s.leaf k).mismatchSaid
  (s.modLeaf k fun l => { l with mismatch := bad, mismatchSaid := said || bad }).stateConflict (instOf 4 k) (bad && !said)

/-- Geometry records for every enabled leaf in use whose record differs from the last one sent: anything the record carries, the runs included (R209, R533). -/
def State.sendGeoms (m : Nat) (s : State) : State :=
  s.imp.setup.enabled.foldl (fun s k =>
    let l := s.leaf k
    if l.inUse && l.enrolled && !l.foreign && (match l.geomSent with | none => true | some g => decide (geomData g ≠ geomData (s.geom k))) then s.sendGeom k m else s) s

/-- A leaf under a new set-up: nothing is said of a mismatch, and the partial sums of slugs it no longer has are gone (R191, R210). -/
def Leaf.setUp (g : Geom) (l : Leaf) : Leaf := { l with mismatch := false, mismatchSaid := false, parts := l.parts.filter fun e => g.en && decide (e.1 < g.slugs) }

/-- The tiles of a new canvas: 0, with a capture time older than any (R150). -/
def State.blankTiles (s : State) : Tab Tile :=
  (List.range s.nTiles).map fun t => let n := (s.tilePx t).length
    (t, { px := List.replicate n {}, cap := .never, inv := List.replicate n false })

/-- A checked set-up is applied at the commit point of m, with its rings and pool, or fails there (Table 6-4). The flag tells whether the canvas is new. -/
def State.applySetup (s : State) : Bool × State :=
  match s.imp.snap with
  | none => (false, s)
  | some u =>
    if !s.imp.pend then (false, s)
    else
      match u.egressFail s.leaves s.tim.pUse s.cmp.sUs with
      | some q => (false, { s with imp := { s.imp with pend := false, snap := none, result := resultWord .refusedCapacity (64 * q) 7 } })
      | none =>
        match s.reserveStaging u with
        | .inl leaf => (false, { s with imp := { s.imp with pend := false, snap := none, result := resultWord .refusedCapacity leaf 8 } })
        | .inr (as, s1) =>
          let new := !s.imp.applied || decide (u.canvas ≠ s.imp.setup.canvas)
          let rings : Tab Ring := (List.range 16).foldl (fun t q => tmod {} t q fun r => { r with pages := 32 * ringExt (u.slugsOf q), used := [], spill := [] }) s1.slg.rings
          let pool := 32 * ceilDiv (s1.regBits 0x5008 0 12) 2
          let s2 : State := { s1 with
            imp := { s1.imp with setup := u, applied := true, pend := false, snap := none, result := resultWord .done 0 0, allocs := as }
            slg := { s1.slg with rings := rings, poolPages := pool, poolFree := pool, poolMin := if s.imp.applied then min s1.slg.poolMin pool else pool } }
          let s3 := s2.release s1.imp.allocs
          let s4 : State := { s3 with leaves := s3.leaves.foldl (fun t e => tput {} t e.1 (e.2.setUp (tget {} u.leaves e.1))) s3.leaves }
          let s5 := u.enabled.foldl (fun s k => s.checkMismatch k) s4
          (new, if new then { s5 with cmp := { s5.cmp with tiles := s5.blankTiles, heldTiles := [] } } else s5)

/-! ### LIVE (R214) -/

/-- At least one Frisket region is defined. -/
def State.friskDefined (s : State) : Bool := s.cmp.layers.any fun e => decide (64 ≤ e.1) && (decide (e.2.st = .defined) || decide (e.2.st = .placed))

/-- A live write put on the descriptor in force: the origin, or ROTATE, MIRROR and LAMP_ORDER of a value written to IMP_LEAF_CFG; every other register stays shadowed (R214). -/
def liveWrite (off : Nat) (v : Word) (g : Geom) : Geom :=
  if off = 0x4084 then { g with cfg := (g.cfg &&& ~~~0xFF0E#32) ||| (v &&& 0xFF0E#32) }
  else if off = 0x4088 then { g with origin := v }
  else g

/-- A write of IMP_CTRL: LIVE is set only while no region is defined; clearing it copies the values in force, the set-up whole, into the shadow copy (R211, R214). -/
def State.writeImpCtrl (v : Word) (s : State) : State :=
  if bit v 0 then
    if s.friskDefined then { (s.setReg 0x4004 0) with imp := { s.imp with live := false, liveRefused := true } }
    else { (s.setReg 0x4004 1) with imp := { s.imp with live := true, liveRefused := false } }
  else
    let s := if s.imp.live then { (s.setReg 0x2008 s.imp.setup.canvas) with imp := { s.imp with shadow := s.imp.setup.leaves } } else s
    { (s.setReg 0x4004 0) with imp := { s.imp with live := false, liveRefused := false } }

/-- LIVE_WRITE. -/
def execLiveWrite (dt : Nat) (v : Word) (s : State) : Host.Outcome State Fault Refusal := .next ((s.elapse dt).writeImpCtrl v)

/-- The leaf IMP_LEAF_SEL selects. -/
def State.impSel (s : State) : Nat := s.regBits 0x4080 0 10

/-- A write of an IMP_LEAF_ register (R211, R214): the shadow copy, and under LIVE the live fields this write carries. -/
def State.writeImpLeaf (off : Nat) (v : Word) (s : State) : State :=
  let k := s.impSel
  let put (g : Geom) : Geom :=
    if off = 0x4084 then { g with cfg := v &&& rwMask off }
    else if off = 0x4088 then { g with origin := v }
    else if off = 0x408C then { g with size := v &&& rwMask off }
    else { g with runs := tput 0 g.runs (4 * ((off - 0x4100) / 16) + (off - 0x4100) % 16 / 4) (v &&& rwMask off) }
  let sh := tmod {} s.imp.shadow k put
  let live (u : Setup) : Setup := { u with leaves := tmod {} u.leaves k (liveWrite off v) }
  { s with imp := { s.imp with shadow := sh, setup := if s.imp.live then live s.imp.setup else s.imp.setup } }

/-! ### CMP_SOFFSET and the tone map -/

/-- S as stored: at most P/2, in whole microseconds (R138). -/
def State.capS (s : State) (v : Nat) : Nat :=
  match s.tim.pUse with
  | none => v
  | some p => min v (periodU p / 2 / usU)

/-- A write of CMP_SOFFSET (R138). -/
def State.writeSoffset (v : Word) (s : State) : State :=
  let n := s.capS (bits v 0 16)
  let s := s.writeReg 0x200C (BitVec.ofNat 32 n)
  { s with cmp := { s.cmp with sPend := some (n, false), soffRefused := false } }

/-- SOFFSET_WRITE. -/
def execSoffsetWrite (dt : Nat) (v : Word) (s : State) : Host.Outcome State Fault Refusal := .next ((s.elapse dt).writeSoffset v)

/-- The waiting CMP_SOFFSET at the first commit point after the tick that followed it (R138): stored as at most P/2, and put in force when every quire passes R32 with it. -/
def State.applySoffset (s : State) : State :=
  match s.cmp.sPend, s.tim.pUse with
  | some (v, true), some p =>
    let v := s.capS v
    let s1 := s.setReg 0x200C (BitVec.ofNat 32 v)
    match s.imp.setup.egressFail s.leaves (some p) v with
    | some _ => { s1 with cmp := { s1.cmp with sPend := none, soffRefused := true } }
    | none => { s1 with cmp := { s1.cmp with sPend := none, sUs := v } }
  | _, _ => s

/-- A write of CMP_TM_COMMIT (R163). -/
def State.writeTone (v : Word) (s : State) : State := if bit v 0 then { s with cmp := { s.cmp with toneCommit := true } } else s

/-- TONE_MAP_COMMIT. -/
def execToneMapCommit (dt : Nat) (v : Word) (s : State) : Host.Outcome State Fault Refusal := .next ((s.elapse dt).writeTone v)

/-- Offsets of CMP_WALL and the tone sets. -/
def toneOffs : List Nat := 0x2010 :: ((List.range 8).map fun t => [0x2100 + 16 * t, 0x2104 + 16 * t, 0x2108 + 16 * t]).flatten

/-- The shadowed tone registers applied at a commit point, as they stand there (R163; log entry 93). -/
def State.applyTone (s : State) : State :=
  if s.cmp.toneCommit then
    { s with cmp := { s.cmp with toneCommit := false, tone := toneOffs.foldl (fun t o => tput (rwReset o) t o (s.reg o)) s.cmp.tone } }
  else s

end Sys2Proof.Machine
end

