-- ==== Sys2Proof/Machine/Pulse.lean ====
section
/-! DEFINITION. The pulse outputs (R409 to R412): each output's own copy of its settings, its scheduled instants, one-shot targets, and pulse.realign. -/

namespace Sys2Proof.Machine

open Sys2Proof

/-- BAR0 offset of TIM_POUTo_CTRL. -/
def poutReg (o : Nat) : Nat := 0x8300 + 32 * o

/-- The settings the registers in force give an output (Table 11-6, R410): A, P, OFFSET, DIV and WIDTH. -/
def State.poutCopy (s : State) (o : Nat) (x : Pout) : Pout :=
  let p := s.tim.pUse.getD (0, 0, 0)
  { x with align := p.2.2, pNum := p.1, pDen := p.2.1, offset := sgn 32 (s.reg (poutReg o + 4)).toNat, div := max 1 (s.regBits (poutReg o) 8 8),
           width := max 1 (s.regBits (poutReg o) 16 8) }

/-- SHADOW: the registers differ from the copy. -/
def State.poutShadow (s : State) (o : Nat) : Bool := decide (s.poutCopy o (s.pout o) ≠ s.pout o)

/-- Instant j of an output in mode 1 or 2, 2^-16 ns (R391, R409). -/
def Pout.instant (x : Pout) (j : Int) : Int :=
  if x.mode = 1 then Int.ofNat (x.align * nsU) + j * Int.ofNat (x.div * x.pNum * secU) / Int.ofNat (max 1 x.pDen) + x.offset * nsU
  else j * secU + x.offset * nsU

/-- The first scheduled instant of a periodic output after t. -/
def Pout.after (x : Pout) (t : Int) : Option Int :=
  if x.mode = 1 ∧ (x.pNum = 0 ∨ x.pDen = 0) then none
  else
    let step : Int := if x.mode = 1 then Int.ofNat (x.div * x.pNum * secU) else Int.ofNat (secU * max 1 x.pDen)
    let j0 := (t - x.instant 0) * Int.ofNat (max 1 x.pDen) / step - 1
    ((List.range 4).map fun k => x.instant (j0 + Int.ofNat k)).find? fun i => decide (t < i)

/-- WIDTH, or half the spacing when the next pulse is due before it has ended (R409). -/
def Pout.high (x : Pout) (at_ : Int) : Nat :=
  let w := x.width * usU
  match x.after at_ with
  | none => w
  | some n => if n < at_ + Int.ofNat w then ((n - at_) / 2).toNat else w

/-- The pulse in progress on an output is cut at half the spacing to one due at n before its end (R409), no sooner than now. -/
def State.cutPulse (o : Nat) (n : Int) (s : State) : State :=
  let x := s.pout o
  match x.last with
  | none => s
  | some (a, e) =>
    if Int.ofNat a < n ∧ n < Int.ofNat e ∧ s.tim.time < e then
      let w := max ((n - Int.ofNat a) / 2).toNat (s.tim.time - a)
      (s.emit (.pulseCut o a w)).setPout o { x with last := some (a, a + w) }
    else s

/-- An output aligned at an instant: a new copy, for the scheduled instants after it (R410, R411). -/
def State.alignPout (o at_ : Nat) (s : State) : State :=
  let y := s.poutCopy o (s.pout o)
  let s := match y.after (Int.ofNat at_) with
    | some n => if y.mode = 3 then s else s.cutPulse o n
    | none => s
  s.setPout o { y with lastAt := some at_, last := (s.pout o).last }

/-- A write of TIM_POUTo_CTRL (R410): a change of MODE to a value other than 0 aligns the output, and a change disarms it (log entry 103). -/
def State.writePout (o : Nat) (v : Word) (s : State) : State :=
  let old := (s.pout o).mode
  let s := s.writeReg (poutReg o) v
  let new := bits v 0 2
  if new = old then s
  else
    let s := s.setPout o { s.pout o with mode := new, armed := false }
    if new = 0 then s else s.alignPout o s.tim.time

/-- PULSE_MODE_WRITE. -/
def execPulseModeWrite (dt o : Nat) (v : Word) (s : State) : Host.Outcome State Fault Refusal :=
  let s := s.elapse dt
  .next (if o < 4 then s.writePout o v else s)

/-- A write of TIM_POUTo_TGT_NS (R379, R412): in mode 3 it commits the target. -/
def State.writeTarget (o : Nat) (v : Word) (s : State) : State :=
  let b := poutReg o
  let s := s.writeReg (b + 16) v
  let ns := bits v 0 30
  if 999999999 < ns ∨ (s.pout o).mode ≠ 3 then s
  else
    let t := ((s.reg (b + 8)).toNat + (s.reg (b + 12)).toNat * 2 ^ 32) * 1000000000 + ns
    let ok := decide (s.tim.time < t * nsU)
    let s := if ok then s.cutPulse o (Int.ofNat (t * nsU)) else s
    s.setPout o { s.pout o with tgt := t, armed := ok, past := !ok, fired := if ok then false else (s.pout o).fired }

/-- PULSE_TARGET_COMMIT. -/
def execPulseTargetCommit (dt o : Nat) (v : Word) (s : State) : Host.Outcome State Fault Refusal :=
  let s := s.elapse dt
  .next (if o < 4 then s.writeTarget o v else s)

/-- A pulse driven at an instant. -/
def State.pulse (o : Nat) (at_ w : Nat) (s : State) : State :=
  (s.emit (.pulse o at_ w)).setPout o { s.pout o with lastAt := some at_, last := some (at_, at_ + w) }

/-- The pulse that is due on an output no later than an instant (R409, R412). -/
def State.pulseDue (o till : Nat) (s : State) : State :=
  let x := s.pout o
  if x.mode = 3 then
    if x.armed ∧ x.tgt * nsU ≤ till then
      let s := s.pulse o (x.tgt * nsU) (x.width * usU)
      s.setPout o { s.pout o with armed := false, fired := true }
    else s
  else if x.mode = 2 ∨ x.mode = 1 ∧ s.tim.genRun then
    match x.after (Int.ofNat (x.lastAt.getD 0)) with
    | none => s
    | some i => if 0 ≤ i ∧ i ≤ Int.ofNat till then s.pulse o i.toNat (x.high i) else s
  else s

/-- PULSE_DUE. -/
def execPulseDue (dt o : Nat) (s : State) : Host.Outcome State Fault Refusal :=
  let s := s.elapse dt
  .next (if o < 4 then s.pulseDue o s.tim.time else s)

/-- Refusals of pulse.realign (R411). -/
def realignRefusals (i : Item) (s : State) : List Refuse :=
  let m := prm i.desc 0 1
  [malformed (decide (m = 0 ∨ 15 < m)), badState (!s.tim.genRun && (List.range 4).any fun o => decide (m / 2 ^ o % 2 = 1) && decide ((s.pout o).mode = 1)) 0]

/-- PULSE_REALIGN (R411). -/
def execPulseRealign (dt q : Nat) (desc auth : Slot) (s : State) : Host.Outcome State Fault Refusal :=
  .next ((s.elapse dt).takeCmd 0x0502 q desc auth true 0 realignRefusals
    (fun i s => s.phase i.id .landing))

/-- pulse.realign lands at m: a pulse of the old copy still due up to the commit point comes first. -/
def State.landRealign (i : Item) (m : Nat) (s : State) : State :=
  let k := prm i.desc 0 1
  let at_ := s.win.t0 + s.win.s
  ((List.range 4).foldl (fun s o => if k / 2 ^ o % 2 = 1 then (s.pulseDue o at_).alignPout o at_ else s) s).done i.id m k

end Sys2Proof.Machine
end

