-- ==== Sys2Proof/Machine/Keeper.lean ====
section
/-! DEFINITION. The calibration image of Tables 14-3 and 14-4: its sections, how they are written and read, and the keeper's section as it lands (R477, R478). -/

namespace Sys2Proof.Machine

open Sys2Proof

/-- Length of the data of a section (Table 14-4). -/
def secLen (id : Nat) : Nat := if id = 1 then 16 else if id = 2 then 80 else if id = 3 then 640 else if id = 4 then 640 else if id = 5 then 29008 else 0

/-- Sections a SECTIONS mask selects; 0 selects every one. -/
def secIds (mask : Nat) : List Nat := (List.range 5).filterMap fun k => if mask = 0 ∨ mask / 2 ^ k % 2 = 1 then some (k + 1) else none

/-- The size of an image. -/
def imgLen (ids : List Nat) : Nat := 64 + sumN (ids.map fun k => 8 + secLen k)

/-- A signed number in n bytes. -/
def leSigned (n : Nat) (v : Int) : List Byte := leBytes n (uns (8 * n) v)

/-- The 4 values of a list, 0 where there is none. -/
def four (n : Nat) (l : List (Option Int)) : List Byte := ((List.range 4).map fun c => leSigned n ((nthD none l c).getD 0)).flatten

/-- Bit c for each channel that has a value. -/
def chanMask (l : List (Option Int)) : Nat := sumN ((List.range 4).map fun c => b2n ((nthD none l c).isSome) * 2 ^ c)

/-- Section KEEPER: the trims are those in force since the last commit point (R172). -/
def State.keeperSection (s : State) : List Byte :=
  let refs := s.refLeaves
  ((List.range 4).map fun c => leSigned 4 (nthD 0 s.lmp.kappa0 c)).flatten ++
    ((List.range 16).map fun n => match refs[n]? with
      | none => leBytes 2 0xFFFF ++ leBytes 18 0
      | some k => leBytes 2 k ++ leBytes 2 (chanMask (s.leaf k).kappaR) ++ four 4 (s.leaf k).kappaR).flatten ++
    ((List.range 1024).map fun k => let l := s.leaf k
      leBytes 4 (chanMask l.e0) ++ four 4 l.e0 ++ ((List.range 4).map fun c => leSigned 2 (nthD 0 l.trimF c)).flatten).flatten

/-- Section REFERENCE. -/
def State.refSection (s : State) : List Byte :=
  leBytes 2 s.cal.trim.toNat ++ leSigned 2 s.cal.resid ++ leBytes 8 s.cal.refTime.toNat ++ leBytes 4 s.cal.refNs

/-- Offset leg and residual of a sensor: from fuses until written or restored (R474). -/
def State.sensCal (s : State) (k : Nat) : Nat × Int := tget ((Config.sensTrim k).toNat, Config.sensResid k) s.cal.sens k

/-- Section SENSOR. -/
def State.sensSection (s : State) : List Byte := ((List.range 20).map fun k => leBytes 2 (s.sensCal k).1 ++ leSigned 2 (s.sensCal k).2).flatten

/-- The largest e of the slices in use. -/
def Lane.worstSlice (x : Lane) : Nat := maxD 0 (((List.range 36).filter fun k => x.inUse k).map fun k => nthD 0 x.sliceE k)

/-- Section LANE. -/
def State.laneSection (s : State) : List Byte := ((List.range 80).map fun i => leBytes 5 (s.lane i).slices ++ leBytes 1 (s.lane i).worstSlice ++ leBytes 2 0).flatten

/-- Section HBM. -/
def State.hbmSection (s : State) : List Byte :=
  ((List.range 64).map fun p => ((List.range 5).map fun k => let t := nthD (0, 0) (s.pc p).sel k
    leBytes 1 t.1 ++ leBytes 1 t.2).flatten).flatten

/-- A section with its header. -/
def State.section_ (s : State) (id : Nat) : List Byte :=
  leBytes 2 id ++ leBytes 2 0 ++ leBytes 4 (secLen id) ++
    (if id = 1 then s.refSection else if id = 2 then s.sensSection else if id = 3 then s.laneSection else if id = 4 then s.hbmSection else s.keeperSection)

/-- An image with its CRC field as given. -/
def State.image (s : State) (ids : List Nat) (crc : Nat) : List Byte :=
  leBytes 4 0x4B43414C ++ leBytes 2 1 ++ leBytes 1 (sumN (ids.map fun k => 2 ^ (k - 1))) ++ leBytes 1 0 ++ leBytes 4 (imgLen ids) ++ leBytes 4 crc ++
    leBytes 8 Config.calId.toNat ++ leBytes 8 (s.ns / 1000000000) ++ leBytes 4 (s.ns % 1000000000) ++ leBytes 28 0 ++ (ids.map s.section_).flatten

/-- The image written by save.calibration. -/
def State.savedImage (s : State) (ids : List Nat) : List Byte := s.image ids (crc32c (s.image ids 0)).toNat

/-! ### Reading an image -/

/-- n bytes at an offset of a buffer as a number. -/
def at_ (l : List Byte) (o n : Nat) : Nat := leNat (slice l o n)

/-- A buffer with n bytes from o taken as 0. -/
def zeroAt (l : List Byte) (o n : Nat) : List Byte := l.take o ++ leBytes n 0 ++ l.drop (o + n)

/-- The sections of an image from an offset on: IDs with their data, or none where one departs from Table 14-4. -/
def readSections : Nat → List Byte → Option (List (Nat × List Byte))
  | 0, _ => none
  | n + 1, l =>
    if l = [] then some []
    else
      let id := at_ l 0 2
      let len := secLen id
      if l.length < 8 + len ∨ at_ l 4 4 ≠ len ∨ len = 0 then none
      else (readSections n (l.drop (8 + len))).map fun t => (id, slice l 8 len) :: t

/-- Every value of a section lies in range. -/
def secGood (e : Nat × List Byte) : Bool :=
  let l := e.2
  if e.1 = 1 then decide (at_ l 0 1 < 128) && decide (at_ l 12 4 < 1000000000)
  else if e.1 = 2 then (List.range 20).all fun k => decide (at_ l (4 * k) 1 < 16)
  else if e.1 = 3 then (List.range 80).all fun i => decide (at_ l (8 * i) 5 < 2 ^ 36)
  else if e.1 = 4 then (List.range 640).all fun k => decide (at_ l k 1 < 160)
  else
    ((List.range 16).all fun n => let o := 16 + 20 * n
      (decide (at_ l o 2 < 1024) || decide (at_ l o 2 = 0xFFFF)) && decide (at_ l (o + 2) 2 < 16)) &&
    (List.range 1024).all fun k => let o := 336 + 28 * k
      decide (at_ l o 4 < 16) && (List.range 4).all fun c => decide ((sgn 16 (at_ l (o + 20 + 2 * c) 2)).natAbs ≤ 256)

/-- The sections of a well-formed image (R478): MAGIC, VERSION, LENGTH, CRC, section headers and values. -/
def imageOf (buf : List Byte) : Option (List (Nat × List Byte)) :=
  let n := at_ buf 8 4
  let img := buf.take n
  if buf.length < 64 ∨ at_ buf 0 4 ≠ 0x4B43414C ∨ at_ buf 4 2 ≠ 1 ∨ n < 64 ∨ buf.length < n ∨ (crc32c (zeroAt img 12 4)).toNat ≠ at_ buf 12 4 then none
  else
    match readSections 6 (img.drop 64) with
    | none => none
    | some l => if l.map (·.1) = (if at_ buf 6 1 = 0 then [] else secIds (at_ buf 6 1)) ∧ at_ buf 6 1 < 32 ∧ l.all secGood then some l else none

/-- The data of a section, if the image has it. -/
def secOf (l : List (Nat × List Byte)) (id : Nat) : Option (List Byte) := (l.find? fun e => e.1 == id).map (·.2)

/-- Four signed values of which a mask tells the ones that stand. -/
def fourOf (l : List Byte) (o mask : Nat) : List (Option Int) :=
  (List.range 4).map fun c => if mask / 2 ^ c % 2 = 1 then some (sgn 32 (at_ l (o + 4 * c) 4)) else none

/-- The keeper's state replaced by a section (R200, R478). -/
def State.applyKeeper (l : List Byte) (s : State) : State :=
  let leafOf (k : Nat) (x : Leaf) : Leaf :=
    let o := 336 + 28 * k
    { x with e0 := fourOf l (o + 4) (at_ l o 4), trim := (List.range 4).map (fun c => sgn 16 (at_ l (o + 20 + 2 * c) 2)), refLeaf := false, kappaR := [none, none, none, none],
             reports := [0, 0, 0, 0] }
  let s := (List.range 1024).foldl (fun s k => s.modLeaf k (leafOf k)) s
  let s := (List.range 16).foldl (fun s n =>
    let o := 16 + 20 * n
    let k := at_ l o 2
    if k < 1024 then s.modLeaf k fun x => { x with refLeaf := true, kappaR := fourOf l (o + 4) (at_ l (o + 2) 2) } else s) s
  let any_ := (List.range 1024).any fun k => decide (at_ l (336 + 28 * k) 4 ≠ 0)
  ({ s with lmp := { s.lmp with kappa0 := (List.range 4).map (fun c => sgn 32 (at_ l (4 * c) 4)), captured := any_ } } : State).setKappa

/-- restore.calibration lands at the first commit point after it was accepted. -/
def State.landKeeper (i : Item) (m : Nat) (s : State) : State :=
  (match (imageOf i.buf).bind fun l => secOf l 5 with
    | some l => s.applyKeeper l
    | none => s).done i.id m 0

end Sys2Proof.Machine
end

