-- ==== Sys2Proof/Machine/Walk.lean ====
section
/-! DEFINITION. The walk of an impression: staging of slugs (R256 to R258), age tables (R217 to R220), the encoders' choice and levels (R239 to R241, R251 to R255), the proof decoder (R232), and what is sent (R349, R369). -/

namespace Sys2Proof.Machine

open Sys2Proof

/-- The impression in hand. -/
def State.m (s : State) : Nat := s.win.imp

/-! ### Cutoffs of the window (R153, R208, R329) -/

/-- The walker's cutoff and the last instant of a late join. -/
def State.walkAt (s : State) : Nat := s.deadlineAt - 100 * usU
def State.lateAt (s : State) : Nat := s.deadlineAt - 500 * usU

/-- Engine or encoder clocks of 1.5 GHz in a time. -/
def clocks (u : Nat) : Nat := u * 3 / (2 * nsU)

/-! ### What is walked -/

/-- Slugs of a leaf are produced in the impression in hand: of every leaf in use that takes part, whether or not they can be sent (R168, R202, R210, R369). -/
def State.walks (s : State) (k : Nat) : Bool := (s.geom k).en && (s.leaf k).inUse && !(s.leaf k).mismatch

/-- Leaves of a quire that are walked. -/
def State.walked (s : State) (q : Nat) : List Nat := ((List.range (s.nLeaves q)).map fun i => 64 * q + i).filter s.walks

/-- A slug of the impression in hand. -/
def State.slug? (s : State) (k sl gen : Nat) : Option Slug := s.slg.slugs.find? fun x => x.leaf == k && x.slug == sl && x.imp == s.m && x.gen == gen

/-- A slug changed. -/
def State.modSlug (k sl imp gen : Nat) (f : Slug → Slug) (s : State) : State :=
  let on (x : Slug) : Slug := if x.leaf = k ∧ x.slug = sl ∧ x.imp = imp ∧ x.gen = gen then f x else x
  { s with slg := { s.slg with slugs := s.slg.slugs.map on } }

/-- Generation-0 slugs of a quire not yet produced. -/
def State.unproduced (s : State) (q : Nat) : List (Nat × Nat) :=
  ((s.walked q).map fun k => ((List.range (s.geom k).slugs).filter fun sl => (s.slug? k sl 0).isNone).map fun sl => (k, sl)).flatten

/-- The tiles under a slug (R217). -/
def State.slugTiles (s : State) (k sl : Nat) : List Nat :=
  dedup (((s.geom k).slugLamps sl).filterMap fun e => (s.tileAt e.1).map (·.1))

/-- Tile t still changes in generation 0: work or a group's side canvas is outstanding (R153, R154). -/
def State.tileOpen (s : State) (t : Nat) : Bool :=
  (s.cmp.jobs.any fun j => j.gen == 0 && j.tile == t) || s.cmp.side.any fun e => e.2.1 == t

/-! ### Staging (R256 to R258) -/

/-- Bytes of a staged slug. -/
def stagedBytes (payload : Nat) : Nat := 16 + 16 * ceilDiv payload 128

/-- Room on the last page of an impression: the pages with n bytes added. -/
def fillPage (imp n : Nat) (l : List (Nat × Nat)) : Option (List (Nat × Nat)) :=
  match l.getLast? with
  | some (i, b) => if i = imp ∧ b + n ≤ 65536 then some (l.dropLast ++ [(i, b + n)]) else none
  | none => none

/-- Slugs of quire q in the impression in hand that are staged. -/
def State.stagedOf (s : State) (q : Nat) : List Slug := s.slg.slugs.filter fun x => x.leaf / 64 == q && x.imp == s.m

/-- The quire fails the impression (R258). -/
def State.failQuire (q : Nat) (s : State) : State :=
  if (s.ring q).failedFor = some s.m then s
  else
    let s1 := s.modRing q fun r => { r with failedFor := some s.m }
    ({ s1 with slg := { s1.slg with poolEmpty := true } } : State).raise .slugDeliveryFailed (instOf 2 q) [s.m, (s.unproduced q).length] false

/-- n bytes staged for a quire in its ring, else in a pool page: the state and whether it is in the ring; none when no page is free (R256, R257). -/
def State.stage (q n : Nat) (s : State) : Option (Bool × State) :=
  let r := s.ring q
  if r.failedFor = some s.m then none
  else
    match fillPage s.m n r.used with
    | some u => some (true, s.setRing q { r with used := u })
    | none =>
      if r.used.length < r.pages then some (true, s.setRing q { r with used := r.used ++ [(s.m, n)] })
      else
        match fillPage s.m n r.spill with
        | some u => some (false, s.setRing q { r with spill := u })
        | none =>
          if s.slg.poolFree = 0 then none
          else
            let f := s.slg.poolFree - 1
            let s1 := s.setRing q { r with spill := r.spill ++ [(s.m, n)], overMax := max r.overMax (r.spill.length + 1) }
            some (false, { s1 with slg := { s1.slg with poolFree := f, poolMin := min s1.slg.poolMin f, overflow := true } })

/-! ### Ages (R218, R219) -/

/-- Index and value of the smallest entry not below an age, or of the largest. -/
def nearestAge (l : List Nat) (age : Nat) : Nat × Nat :=
  let c := l.zipIdx.filter fun e => decide (age ≤ e.1)
  match sortBy (fun a b => decide (a.1 ≤ b.1)) c with
  | e :: _ => (e.2, e.1)
  | [] => match sortBy (fun a b => decide (b.1 ≤ a.1)) l.zipIdx with
    | e :: _ => (e.2, age)
    | [] => (0, age)

/-- The entry of an age: its index from 16, the table's entries from 16 on, and whether ages were merged. -/
def ageEntry (l : List Nat) (age : Nat) : Nat × List Nat × Bool :=
  match l.findIdx? fun x => x == age with
  | some i => (16 + i, l, false)
  | none =>
    if l.length < 224 then (16 + l.length, l ++ [age], false)
    else
      let e := nearestAge l age
      (16 + e.1, setNth l e.1 e.2, true)

/-- The age index of a slug in its quire's table. -/
def State.giveAge (q gen age : Nat) (s : State) : Nat × State :=
  if gen = 0 then
    let e := ageEntry (s.ring q).ages age
    (e.1, s.modRing q fun r => { r with ages := e.2.1, merged := r.merged || e.2.2 })
  else (240 + gen, s.modRing q fun r => { r with genAges := tput 0 r.genAges gen (max age (tget 0 r.genAges gen)) })

/-- A header part queued on both directions; its bit of BATCH 0xFF is noted as sent (R220, R309, R365). -/
def State.sendPart (q part : Nat) (p : QPkt) (s : State) : State :=
  (s.sendQ q 2 p).modQuire q fun x => { x with hdrSent := (x.hdrSent.filter fun e => e.1 != part) ++ [(part, s.clk)] }

/-- The age table of a quire as sent: 256 entries (Table 9-6). -/
def State.ageTable (s : State) (q : Nat) : List Nat :=
  let l := ((List.range 16).map fun r => nthD 0 s.win.regionAges r) ++ (s.ring q).ages
  l ++ List.replicate (256 - l.length) 0

/-- The age part goes once every generation-0 slug of the quire is complete (R219, R220). -/
def State.sendAges (q : Nat) (force : Bool) (s : State) : State :=
  if (s.quire q).ready && !(s.ring q).ageSent && (force || (s.unproduced q).isEmpty) then
    (s.sendPart q 1 (.age s.m (s.ageTable q))).modRing q fun r => { r with ageSent := true }
  else s

/-! ### Sending -/

/-- The direction of a slug: both for Frisket, otherwise its leaf's feed; none without a feed, to a FOREIGN leaf, and where the quire did not run at the commit point or no longer does (R312, R322, R349, R369). -/
def State.slugDir (s : State) (x : Slug) : Option Nat :=
  let f := (s.leaf x.leaf).fed
  let y := s.quire (x.leaf / 64)
  if f = 0 ∨ (s.leaf x.leaf).foreign ∨ !y.ready ∨ y.st ≠ .running then none else if x.frisk then some 2 else some (f - 1)

/-- FLAGS of a copy (Table 7-2). -/
def flagsOf (held intra resend pad : Bool) : Nat := 32 * b2n held + 16 * b2n intra + 8 * b2n resend + 4 * b2n pad

/-- The packet of a copy. -/
def Slug.pkt (x : Slug) (replay : Bool) : QPkt :=
  .slug x.leaf x.slug x.imp x.gen x.method x.level x.ageIx x.len (x.flags + 64 * b2n replay) x.crc x.payload

/-- Bits of a slug as transmitted (R234). -/
def Slug.wire (x : Slug) : Nat := 128 + 8 * ceilDiv x.len 8

/-- The slug has been sent, and is neither acknowledged nor FAILED. -/
def Slug.waiting (x : Slug) : Bool := decide (0 < x.copies) && !x.acked && !x.failed

/-- Two copies of one slug. -/
def Slug.same (x y : Slug) : Bool := x.leaf == y.leaf && x.slug == y.slug && x.imp == y.imp && x.gen == y.gen

/-- Unacknowledged bulk on lane-end d of a quire, but for the slug x (R33). -/
def State.bulkOut (s : State) (q d : Nat) (x : Slug) : Nat :=
  sumN ((s.slg.slugs.filter fun y => y.leaf / 64 == q && y.imp == s.m && !y.frisk && y.waiting && y.sentOn == some d && !y.same x).map Slug.wire)

/-- The slug may go on direction d: with it, the lane-end's unacknowledged bulk is no more than it sends in M/4 at C_end (R33). Mirrored slugs are no bulk. -/
def State.roomFor (s : State) (x : Slug) (d : Nat) : Bool :=
  x.frisk || decide (4 * nsU * (s.bulkOut (x.leaf / 64) d x + x.wire) ≤ 98 * marginU s.win.p)

/-- A first copy sent, when it has a direction and the lane-end has room; without room it waits (R33). -/
def State.sendSlug (x : Slug) (s : State) : State :=
  match s.slugDir x with
  | none => s
  | some d =>
    if !s.roomFor x d then s
    else
      let q := x.leaf / 64
      let s := s.sendQ q d (x.pkt false)
      let s := if d = 1 then s else s.count (0x400 + 16 * q) 1
      let s := if d = 0 then s else s.count (0x401 + 16 * q) 1
      let s := s.modSlug x.leaf x.slug x.imp x.gen fun y => { y with sentOn := some d, sentAt := s.clk, order := s.slg.order, copies := 1 }
      { s with slg := { s.slg with order := s.slg.order + 1 } }

/-! ### Levels (R253 to R255) -/

/-- Clocks an encoder spends on a slug at a level. -/
def slugClocks (throttle : Bool) (level : Nat) : Nat := 43 * max 1 (2 ^ level / 8) + (if throttle then 4 else 0)

/-- The level fixed at a commit point (R254): `window` clocks up to the walker's cutoff and `share` slugs an encoder. -/
def fixLevel (throttle : Bool) (window share : Nat) : Nat → Nat
  | 0 => 0
  | l + 1 => if 3 * window < 4 * (share * slugClocks throttle (l + 1)) then fixLevel throttle window share l else l + 1

/-- Slugs of the set-up and their share of an encoder. -/
def State.slugShare (s : State) : Nat :=
  ceilDiv (sumN ((List.range 16).map s.imp.setup.slugsOf)) (max 1 s.encoders.length)

/-- Levels by which encoder e has lowered its level, after the check it makes at the start of the slug it now completes (R255). The start is the completion less the slug's own clocks. -/
def State.lowered (s : State) (e : Nat) : Nat :=
  let d := tget 0 s.slg.encLevel e
  let t := slugClocks s.win.throttle (s.slg.level - d)
  let left := clocks (s.walkAt - s.tim.time) + t
  if d < s.slg.level ∧ left < (s.slugShare - (s.unit (32 + e)).now) * t then d + 1 else d

/-! ### Producing a slug -/

/-- The entry of the reference image. -/
def State.refEntry (s : State) (k sl : Nat) : RefEntry := tget {} s.slg.refs (4096 * k + sl)

/-- 512 codes, 0 where none are kept. -/
def whole (v : List Half) : List Half := v ++ List.replicate (512 - v.length) 0

/-- The reference of a slug (R238): its codes before the impression in hand. -/
def State.refCodes (s : State) (k sl : Nat) : List Half :=
  let e := s.refEntry k sl
  whole (if e.imp = s.m then e.prev else e.codes)

/-- The reference may be used (R239). -/
def State.refOk (s : State) (k sl : Nat) : Bool := decide (4096 * k + sl ∈ s.slg.certain) && !(s.refEntry k sl).bad

/-- The newest values of a slug written to the reference image (R240). -/
def State.writeRef (k sl : Nat) (codes : List Half) (cap : Cap) (s : State) : State :=
  let e := s.refEntry k sl
  let e' : RefEntry := { codes := codes, cap := cap, imp := s.m, prev := if e.imp = s.m then e.prev else e.codes, bad := false }
  { s with slg := { s.slg with refs := tput {} s.slg.refs (4096 * k + sl) e' } }

/-- The leaf's short last slug. -/
def Geom.short (g : Geom) (sl : Nat) : Bool := decide (g.lamps < 512 * sl + 512)

/-- A slug staged and listed, with its age entry; none of it when its quire fails (R256, R258). -/
def State.putSlug (enc k sl gen level : Nat) (codes : List Half) (cap : Cap) (c : Coded) (held intra : Bool) (checking : Bool) (s : State) : State :=
  let q := k / 64
  let n := stagedBytes c.payload.length
  match s.stage q n with
  | none => s.failQuire q
  | some (ring, s) =>
    let age := cap.age s.win.tFlip
    let a := s.giveAge q gen age
    let x : Slug :=
      { leaf := k, slug := sl, imp := s.m, gen := gen, method := c.method, level := level, len := c.payload.length,
        flags := flagsOf held intra (decide (sl ∈ (s.leaf k).resend)) ((s.geom k).short sl), ageIx := a.1, age := age, cap := cap, crc := crcCodes codes,
        codes := codes, payload := c.payload, encoder := enc, checking := checking, frisk := s.friskSlug s.mask k sl, inRing := ring, bytes := n }
    { a.2 with slg := { a.2.slg with slugs := a.2.slg.slugs ++ [x] } }

/-- A complete slug is counted (Table 7-7) and sent, and the age part when it was the last. -/
def State.releaseSlug (k sl gen : Nat) (s : State) : State :=
  match s.slug? k sl gen with
  | none => s
  | some x =>
    let add (l : List Nat) (i : Nat) : List Nat := setNth l i (nthD 0 l i + 1)
    let i := if x.method = 0 then 0 else x.method
    let now := add s.slg.now i
    let now := if s.refOk k sl then now else add now 4
    let s : State := { s with slg := { s.slg with now := now, bitsNow := s.slg.bitsNow + 8 * x.bytes } }
    (s.sendSlug x).sendAges (k / 64) false

/-- The partial sums of R192 with a new one for a generation. -/
def newPart (gen v : Nat) (l : List (Nat × Nat)) : List (Nat × Nat) := if gen = 0 then [(0, v)] else (l.filter fun e => e.1 != gen) ++ [(gen, v)]

/-- An encoder has coded a slug by a method: whether the proof decoder takes it, every 256th non-standing one of the encoder, and the counts (R232). -/
def State.coded (e method : Nat) (s : State) : Bool × State :=
  let cnt := tget 0 s.slg.encCount e + (if method = 1 then 0 else 1)
  (decide (method ≠ 1 ∧ cnt % 256 = 0),
   (({ s with slg := { s.slg with encCount := tput 0 s.slg.encCount e cnt } } : State).modUnit (32 + e) fun u => { u with now := u.now + 1 }).count (0x792 + e) 1)

/-- An encoder completes a slug of a generation (R168, R217, R235, R251): literal forces that method. -/
def State.produce (e k sl gen : Nat) (asLiteral : Bool) (s : State) : State :=
  let g := s.geom k
  let codes := s.slugCodes gen k sl
  let cap := s.slugCap gen k sl
  let ok := s.refOk k sl
  let d := s.lowered e
  let level := s.slg.level - d
  let c := if asLiteral then { method := 0, payload := literal codes, usesRef := false }
    else encodeSlug ok (bit s.slg.ctrl 3) level g.n (g.lineOf sl) codes (s.refCodes k sl)
  let r := ({ s with slg := { s.slg with encLevel := tput 0 s.slg.encLevel e d } } : State).coded e c.method
  let checking := r.1
  let s := r.2
  let s := s.putSlug e k sl gen level codes cap c false (!c.usesRef) checking
  if (s.slug? k sl gen).isNone then s
  else
    let s := s.writeRef k sl codes cap
    let s := s.modLeaf k fun l => { l with parts := tmod [] l.parts sl (newPart gen (s.partSum k sl codes)) }
    if checking then s.sendAges (k / 64) false else s.releaseSlug k sl gen

/-- The late join of a generation. -/
def State.join? (s : State) (gen : Nat) : Option LateJoin := s.cmp.late.find? fun j => j.gen == gen

/-- The slug belongs to a region of the join, and the join's tiles under it are finished. -/
def State.lateReady (s : State) (k sl gen : Nat) : Bool :=
  match s.join? gen with
  | none => false
  | some j => (j.regions.any fun r => r.1 == k && decide (sl ∈ r.2)) && !decide (k ∈ j.absorbed) && j.tiles.all fun t => j.done.any fun e => e.1 == t

/-- The page of the leaf's table that holds a slug is in the cache, when the leaf uses its table. -/
def State.pageHere (s : State) (k sl : Nat) : Bool := !(s.leaf k).tableNow || decide (256 * k + sl / 16 ∈ s.lmp.cache)

/-- Generation 0 is complete: produced and past the proof decoder on every quire, but for those that failed the impression (R158, R258). -/
def State.gen0Whole (s : State) : Bool :=
  (List.range 16).all (fun q => decide ((s.ring q).failedFor = some s.m) || (s.unproduced q).isEmpty) &&
    !s.slg.slugs.any fun x => x.imp == s.m && x.gen == 0 && x.checking

/-- The tiles under a slug are finished for generation 0, and none is poisoned. -/
def State.tilesDone (s : State) (k sl : Nat) : Bool := (s.slugTiles k sl).all fun t => !s.tileOpen t && !decide (t ∈ s.cmp.poisoned)

/-- The walk of a quire takes slug a before slug b: Frisket slugs first, leaf by leaf; then, of the leaves one end feeds, those farthest from it first; in a leaf the lower index (R208, R350). -/
def State.walkBefore (s : State) (a b : Nat × Nat) : Bool :=
  let fa := s.friskSlug s.mask a.1 a.2
  let fb := s.friskSlug s.mask b.1 b.2
  let ea := (s.leaf a.1).fed
  if a.1 = b.1 ∧ fa = fb then decide (a.2 < b.2)
  else if fa ≠ fb then fa
  else if fa then decide (a.1 < b.1)
  else decide (ea = (s.leaf b.1).fed) && (if ea = 1 then decide (b.1 < a.1) else decide (a.1 < b.1))

/-- Slugs of generation 0 that the walk takes before a slug and that are not yet produced: an ordinary slug whose tiles are unfinished is passed over, a Frisket slug is waited for (R208; log entry 98). -/
def State.walkAhead (s : State) (k sl : Nat) : Nat :=
  ((s.unproduced (k / 64)).filter fun u => s.walkBefore u (k, sl) &&
    (s.tilesDone u.1 u.2 || (s.friskSlug s.mask u.1 u.2 && !(s.slugTiles u.1 u.2).any fun t => decide (t ∈ s.cmp.poisoned)))).length

/-- A slug can be complete now (R183, R208, R232), before the walker's cutoff, whether or not WALKER_CUTOFF has come: in the walk's order, so far as the slugs before it may be in work in the other encoders (log entry 98), and generation 0 before any later one. -/
def State.canEncode (s : State) (e k sl gen : Nat) : Bool :=
  s.win.open_ && !s.win.walkCut && decide (s.tim.time ≤ s.walkAt) && decide (e ∈ s.encoders) && s.walks k && decide (sl < (s.geom k).slugs) &&
    (s.slug? k sl gen).isNone && decide ((s.ring (k / 64)).failedFor ≠ some s.m) &&
    (if gen = 0 then s.tilesDone k sl && decide (s.walkAhead k sl < s.encoders.length)
      else s.lateReady k sl gen && s.gen0Whole)

/-- A stall for a page not yet in the cache (R182). -/
def State.stallPage (s : State) : State := { s with lmp := { s.lmp with stallsNow := s.lmp.stallsNow + 1 } }

/-- SLUG_ENCODED; from an encoder out of service it is traffic its state forbids (R19). -/
def execSlugEncoded (dt e k sl gen : Nat) (s : State) : Host.Outcome State Fault Refusal :=
  let s := (s.elapse dt).strayUnit 10 e (32 + e)
  .next (if s.canEncode e k sl gen then (if s.pageHere k sl then s.produce e k sl gen false else s.stallPage) else s)

/-- Another encoder in service. -/
def State.otherEncoder (s : State) (e : Nat) : Nat := ((s.encoders.filter fun x => x != e).head?).getD e

/-- A slug whose check failed: never sent, its encoder at fault; another encoder codes it literal, one more of its own non-standing slugs (R232). -/
def State.badDecode (x : Slug) (s : State) : State :=
  let s : State := { s with imp := { s.imp with decodeBad := s.imp.decodeBad + 1 }
                            slg := { s.slg with slugs := s.slg.slugs.filter fun y => !(y.leaf == x.leaf && y.slug == x.slug && y.imp == x.imp && y.gen == x.gen) } }
  let r := s.raiseL .proofDecodeMismatch (instOf 10 x.encoder) [] false true
  let s := if 2 ≤ r.1 then r.2.retireEncoder x.encoder else r.2
  let o := s.otherEncoder x.encoder
  let c : Coded := { method := 0, payload := literal x.codes, usesRef := false }
  let r := s.coded o 0
  let s := r.2.putSlug o x.leaf x.slug x.gen x.level x.codes x.cap c false true r.1
  if r.1 then s else s.releaseSlug x.leaf x.slug x.gen

/-- PROOF_DECODE_DONE (R232, R249). -/
def execProofDecodeDone (dt e k sl gen : Nat) (ok : Bool) (s : State) : Host.Outcome State Fault Refusal :=
  let s := s.elapse dt
  .next (match s.slug? k sl gen with
    | none => s
    | some x =>
      if !x.checking || x.encoder != e then s
      else
        let s : State := { s with imp := { s.imp with decodedNow := s.imp.decodedNow + 1 } }
        if ok then (s.modSlug k sl s.m gen fun y => { y with checking := false }).releaseSlug k sl gen else s.badDecode x)

/-! ### The walker's cutoff -/

/-- A held slug (R30, R208, R240): standing where its reference is certain, otherwise a literal copy of its entry; nothing when the entry is poisoned (Table 12-2). -/
def State.produceHeld (k sl : Nat) (s : State) : State :=
  let r := s.refEntry k sl
  if r.bad then s else
  let codes := whole r.codes
  let c : Coded := if s.refOk k sl then { method := 1, payload := [], usesRef := true } else { method := 0, payload := literal codes, usesRef := false }
  (s.putSlug 0 k sl 0 s.slg.level codes r.cap c true (!c.usesRef) false).releaseSlug k sl 0

/-- Every slug of a quire not produced by the cutoff is held, and the age part goes. -/
def State.holdSlugs (q : Nat) (s : State) : State :=
  (((s.unproduced q).foldl (fun s x => if (s.ring q).failedFor = some s.m then s else s.produceHeld x.1 x.2) s)).sendAges q true

/-- A TICK trace record (Table 16-3). -/
def State.traceTick (a v : Nat) (s : State) : State := s.trace 0x10 a s.m (v % 2 ^ 32)

/-- WALKER_CUTOFF (R208). -/
def execWalkerCutoff (dt : Nat) (s : State) : Host.Outcome State Fault Refusal :=
  let s := s.elapse dt
  .next (if s.win.open_ && s.win.pressCut && !s.win.walkCut && decide (s.walkAt ≤ s.tim.time) then
      let n := sumN ((List.range 16).map fun q => (s.unproduced q).length)
      let s : State := { s with win := { s.win with walkCut := true, held := s.win.held || decide (0 < n) } }
      ((List.range 16).foldl (fun s q => s.holdSlugs q) s).traceTick 2 n
    else s)

end Sys2Proof.Machine
end

