-- ==== Sys2Proof/Machine/Sample.lean ====
section
/-! DEFINITION. What the layers sample at a commit point (R99, R113 to R118, R135, R161), the policies in force (R136, Table 4-6), and the tiles a change touches (R150, R151). -/

namespace Sys2Proof.Machine

open Sys2Proof

/-- P rounded up to whole microseconds. -/
def State.pUs (s : State) : Nat :=
  match s.tim.pUse with
  | none => 0
  | some p => ceilDiv (p.1 * 1000000) (max 1 p.2.1)

/-- A limit in force: the larger of the value set and P (R38). -/
def State.limit (s : State) (v : Nat) : Nat := max v s.pUs

/-- The newest version of a surface that impression m may sample (R140). -/
def newestVer (l : Layer) (m : Nat) : Option SurfVer := (l.vers.filter fun v => !v.discarded && v.landed && decide (v.from_ ≤ m)).getLast?

/-- The content offered to a layer for impression m at instant t, with its own capture time; a stream that is not visible or has no frame, and a surface never written, offer none (R99, R123); a Frisket stream is never filled (R114). -/
def State.offer (s : State) (l : Layer) (m t : Nat) : Sample × Cap :=
  if l.surface then
    match newestVer l m with
    | some v => (.surf v, s.surfCap l v)
    | none => (.none, .never)
  else
    let x := s.stream l.source
    if x.st = .free ∨ m < x.visibleFrom then (.none, .never)
    else
      match offeredOf x.closed (l.fill && !x.frisket) t with
      | some f => (.frame f, .at f.cap)
      | none => (.none, .never)

/-- The stream of a layer is frozen, with the frozen-since time (R118). -/
def State.frozenSince (s : State) (l : Layer) : Option Nat :=
  if l.surface then none else let x := s.stream l.source; if x.frozen then some x.runFirst else none

/-- Age policy of a content: what is shown (0 content, 1 INVALID, 2 black) and the capture time it keeps (R136). -/
def byAge (pol : Nat) (spill : Bool) (cap : Cap) : Nat × Cap :=
  if !spill then (0, cap) else if pol = 1 then (1, cap) else if pol = 2 then (2, .none) else (0, cap)

/-- The policies of an ordinary layer for the content it samples: shown, capture time, over age, frozen (R136, Table 4-6). A freeze policy of INVALID or black goes before the age policy (log entry 16). -/
def State.policies (s : State) (l : Layer) (cap : Cap) (flip : Nat) : Nat × Cap × Bool × Bool :=
  let fz := s.frozenSince l
  let cap1 := match fz with | some t => if l.freezePol = 1 then .at t else cap | none => cap
  let spill := decide (s.limit l.maxAge < cap1.age flip)
  let frozen := fz.isSome && l.freezePol != 0
  if frozen && l.freezePol == 3 then (2, .none, false, true)
  else if frozen && l.freezePol == 2 then (1, cap1, spill, true)
  else
    let r := byAge l.agePol spill cap1
    (r.1, r.2, spill, frozen)

/-- A content keeps a layer's policies in its record. -/
def withPolicy (l : Layer) (c : Sample) (p : Nat × Cap × Bool × Bool) : Layer :=
  { l with sample := c, show_ := p.1, capWas := l.cap, cap := p.2.1, overAge := p.2.2.1, frozen := p.2.2.2 }

/-- An ordinary layer with content c of capture time cap for a flip. -/
def State.sampleOrd (s : State) (l : Layer) (c : Sample) (cap : Cap) (flip : Nat) : Layer := withPolicy l c (s.policies l cap flip)

/-- Whether a sample is a complete frame or a surface version: admissible for the Frisket layer as to its content (R161). -/
def wholeContent : Sample → Bool
  | .none => false
  | .frame f => f.complete
  | .surf _ => true

/-- A Frisket region (R161): it samples only complete content within the Frisket limit, with freeze policy AGE_FROM_FREEZE; otherwise it keeps what it has, a surface with the capture time of what its placement now shows (R135). -/
def State.sampleRegion (s : State) (l : Layer) (c : Sample) (cap : Cap) (flip : Nat) : Layer :=
  let cap1 := match s.frozenSince l with | some t => .at t | none => cap
  if wholeContent c && decide (cap1.age flip ≤ s.limit s.cmp.friskAge) then
    { l with sample := c, show_ := 0, capWas := if l.held then l.capWas else l.cap, cap := cap1, overAge := false, frozen := (s.frozenSince l).isSome }
  else
    let keep := match l.sample with | .none => .never | .frame _ => l.cap | .surf v => s.surfCap l v
    { l with capWas := if l.held then l.capWas else l.cap, cap := keep, overAge := decide (s.limit s.cmp.friskAge < keep.age flip), frozen := (s.frozenSince l).isSome }

/-- A layer sampled for impression m whose window opens at t and which flips at flip; layers that are not defined sample nothing. -/
def State.sampleLayer (s : State) (k : Nat) (l : Layer) (m t flip : Nat) : Layer :=
  if l.st = .free ∨ l.st = .removing then { l with sample := .none, show_ := 0, cap := .none }
  else
    let c := s.offer l m t
    if 64 ≤ k then s.sampleRegion l c.1 c.2 flip else s.sampleOrd l c.1 c.2 flip

/-- A layer whose new content is shed keeps what it sampled for the impression before, with that capture time (R152); the policies are judged on it. -/
def State.sampleHeld (s : State) (k : Nat) (old l : Layer) (flip : Nat) : Layer :=
  if 64 ≤ k then l
  else s.sampleOrd l old.sample (match old.sample with | .none => .never | .frame f => .at f.cap | .surf v => s.surfCap l v) flip

/-- The layer changes in the sense of R150 by its content or its policy state. -/
def contentChanged (old l : Layer) : Bool :=
  decide (old.sample ≠ l.sample) || decide (old.show_ ≠ l.show_) || decide (old.overAge ≠ l.overAge) || decide (old.frozen ≠ l.frozen) || decide (old.cap ≠ l.cap)

/-- A layer samples something new (Table 16-1). -/
def newContent (old l : Layer) : Bool := decide (old.sample ≠ l.sample)

/-- Versions still needed once a layer has sampled: the sampled one, the newest landed one, and those to come (R125). -/
def keepVers (l : Layer) (m : Nat) : Layer :=
  let used : List Nat := (match l.sample with | .surf v => [v.id] | _ => []) ++ (match newestVer l m with | some v => [v.id] | none => [])
  { l with vers := l.vers.filter fun v => !v.discarded && (decide (v.id ∈ used) || !v.landed || decide (m < v.from_)) }

/-- tiles(x): the tiles layers change under their old and their new placement (R151). -/
def State.changeTiles (s : State) (old new : Tab Layer) (ks : List Nat) : List Nat :=
  sortBy (fun a b => decide (a ≤ b)) (dedup ((ks.map fun k => s.tilesOf old k ++ s.tilesOf new k).flatten))

/-- Cost of a list of tiles. -/
def State.costOf (s : State) (ls : Tab Layer) (ts : List Nat) : Nat := sumN (ts.map (s.tileCost ls))

/-- Layer number as the records and SCHED show it: 63 for every region. -/
def layerNo (k : Nat) : Nat := min k 63

/-- A SCHED trace record (Table 16-3). -/
def State.traceSched (k code cls cycles tiles imp : Nat) (s : State) : State :=
  s.trace 0x20 (layerNo k) imp (code % 256 + cls % 256 * 256 + cycles % 2 ^ 32 * 2 ^ 16 + tiles % 65536 * 2 ^ 48)

/-- Press time of the window in 2^-16 ns, and the engines' capacity (R151). -/
def State.pressWindow (s : State) : Nat := s.win.p - marginU s.win.p - s.win.s - 200 * usU
def State.pressCap (s : State) : Nat := s.engines.length * clocks s.pressWindow

/-- The Frisket layer's work is beyond 2 engines over the press window (R162). -/
def State.friskHeavy (s : State) (ls : Tab Layer) : Bool :=
  decide (2 * clocks s.pressWindow < s.costOf ls (s.friskTiles ls))

/-- An item lowers or raises nothing but its layers: the keys a command changes. -/
def itemKeys (i : Item) : List Nat := if isLayerOp (dOp i.desc) || dOp i.desc == 0x0104 then [lyrKey i.desc] else []

/-- Surface version of a write marked landed from impression m on. -/
def landVer (id m : Nat) (l : Layer) : Layer :=
  { l with vers := l.vers.map fun v => if v.id = id then { v with landed := true, from_ := m } else v }

end Sys2Proof.Machine
end

