-- ==== Sys2Proof/Machine/Late.lean ====
section
/-! DEFINITION. Late joins (R28, R156 to R158): the check, the reservation, the announcements and the work of a new generation. -/

namespace Sys2Proof.Machine

open Sys2Proof

/-- The slugs of walked leaves that hold a lamp of the given tiles: leaf and slugs. -/
def State.regionsFor (s : State) (ts : List Nat) : List (Nat × List Nat) :=
  (s.imp.setup.enabled.filter s.walks).filterMap fun k =>
    let l := (List.range (s.geom k).slugs).filter fun sl => (s.slugTiles k sl).any fun t => t ∈ ts
    if l = [] then none else some (k, l)

/-- Two sets of regions share a slug. -/
def shareSlug (a b : List (Nat × List Nat)) : Bool := a.any fun x => b.any fun y => x.1 == y.1 && x.2.any fun sl => sl ∈ y.2

/-- T of R156: the tiles of the change and of every earlier late region its slugs overlap. -/
def State.lateTiles (s : State) : Nat → List Nat → List Nat
  | 0, ts => ts
  | n + 1, ts =>
    let r := s.regionsFor ts
    let more := (s.cmp.late.filter fun j => shareSlug r j.regions).map (·.tiles)
    s.lateTiles n (sortBy (fun a b => decide (a ≤ b)) (dedup (ts ++ more.flatten)))

/-- Cost of the work still outstanding. -/
def State.openCost (s : State) : Nat := sumN (s.cmp.jobs.map fun j => s.tileCost (match s.join? j.gen with | some x => x.layers | none => s.cmp.layers) j.tile)

/-- free_cycles of R156: the engines' cycles up to the press cutoff, less the work still outstanding (log entry 17). -/
def State.freeCycles (s : State) : Nat := s.engines.length * clocks (s.pressAt - s.tim.time) - s.openCost

/-- Slugs of quire q of the impression in hand not yet sent, across every generation, late joins' slugs included (R156). -/
def State.unsent (s : State) (q : Nat) : Nat :=
  (s.unproduced q).length + ((s.stagedOf q).filter fun x => x.sentOn.isNone).length +
    sumN (s.cmp.late.map fun j => sumN ((j.regions.filter fun r => r.1 / 64 == q).map fun r => (r.2.filter fun sl => (s.slug? r.1 sl j.gen).isNone).length))

/-- The delivery check of R156 for one quire. -/
def State.quireFits (s : State) (press : Nat) (r : List (Nat × List Nat)) (q : Nat) : Bool :=
  let n := s.unsent q + sumN ((r.filter fun x => x.1 / 64 == q).map fun x => x.2.length)
  let eng := max 1 s.engines.length
  let left : Int := Int.ofNat (s.deadlineAt - s.tim.time) - Int.ofNat (ceilDiv (press * 2 * nsU) (3 * eng))
  decide (Int.ofNat (n * 8320) * nsU ≤ 98 * left)

/-- The scene a change makes of the newest scene: its commands applied, its surface versions landed, its layers sampled for the impression in hand. -/
def State.lateScene (s : State) (is : List Item) : Tab Layer :=
  let ls := is.foldl (fun ls i =>
    if dOp i.desc = 0x0104 then tmod {} ls (lyrKey i.desc) (landVer i.ver s.m) else applyCmd i ls) s.scene
  (dedup ((is.map itemKeys).flatten)).foldl (fun ls k =>
    tput {} ls k (s.sampleLayer k (tget {} ls k) s.m (s.win.t0 + s.win.s) s.win.tFlip)) ls

/-- Capture time of a tile under a scene. -/
def State.tileCap (s : State) (ls : Tab Layer) (t : Nat) : Cap :=
  oldest ((s.tileLayers solidNow (drawOrder ls).reverse t).map fun e => e.2.cap)

/-- The tile's capture time in generation gen: that of the join's scene for the join's tiles, otherwise as the canvas stands; of a tile that generation 0 may still compose, the older of what stands and what is to come (R35). -/
def State.capIn (s : State) (ls : Tab Layer) (ts : List Nat) (gen t : Nat) : Cap :=
  if t ∈ ts then s.tileCap ls t else if s.tileOpen t then (s.tileFor gen t).cap.older (s.tileCap s.cmp.layers t) else (s.tileFor gen t).cap

/-- The oldest age among a join's slugs on a quire: entry 240 + g (R218). -/
def State.genAge (s : State) (ls : Tab Layer) (ts : List Nat) (gen : Nat) (r : List (Nat × List Nat)) (q : Nat) : Nat :=
  maxD 0 (((r.filter fun x => x.1 / 64 == q).map fun x => x.2.map fun sl => (oldest ((s.slugTiles x.1 sl).map (s.capIn ls ts gen))).age s.win.tFlip).flatten)

/-- Ages of the Frisket regions of a scene at a flip: entries 0 to 15 (R218). -/
def regionAgesOf (ls : Tab Layer) (flip : Nat) : List Nat :=
  (List.range 16).map fun r =>
    let l := tget {} ls (64 + r)
    if l.st = .placed ∨ l.st = .defined then l.cap.age flip else 0

/-- MAP of an announcement as the slugs it spans (Table 9-7). -/
def mapBytes (l : List Nat) : Nat × Nat × List Nat :=
  let a := l.headD 0
  let n := (l.getLast?).getD a - a + 1
  (a, n, (List.range (ceilDiv n 8)).map fun b => sumN ((List.range 8).map fun j => if a + 8 * b + j ∈ l then 2 ^ (7 - j) else 0))

/-- The announcement of a leaf's region (R157, R309). -/
def State.announce (gen genAge : Nat) (ages : List Nat) (r : Nat × List Nat) (s : State) : State :=
  let m := mapBytes r.2
  s.sendPart (r.1 / 64) (1 + gen) (.announce s.m gen (r.1 % 64) ages genAge m.1 m.2.1 m.2.2)

/-- A change joins the impression in hand: the generation, its reservation, its announcements and its work (R156, R157). -/
def State.join (is : List Item) (ls : Tab Layer) (ts : List Nat) (r : List (Nat × List Nat)) (s : State) : State :=
  let g := s.cmp.gen + 1
  let old := s.scene
  let absorb (j : LateJoin) : LateJoin :=
    { j with absorbed := dedup (j.absorbed ++ (j.regions.filter fun x => r.any fun y => y.1 == x.1 && x.2.any fun sl => sl ∈ y.2).map (·.1)) }
  let j : LateJoin := { gen := g, items := is.map (·.id), layers := ls, tiles := ts, regions := r, cycles := s.costOf ls ts }
  let ks := dedup ((is.map itemKeys).flatten)
  let touched (k t : Nat) : Bool := decide (t ∈ s.changeTiles old ls [k])
  let jobs : List Job := ts.map fun t => { tile := t, layers := ks.filter fun k => touched k t, gen := g, items := is.map (·.id) }
  let joined (i : Item) : Item := if is.any (fun x => x.id == i.id) then { i with phase := .landed, landedAt := s.m, gen := g } else i
  let ages := regionAgesOf ls s.win.tFlip
  let s1 : State := { s with
    cmp := { s.cmp with gen := g, late := s.cmp.late.map absorb ++ [j], jobs := s.cmp.jobs ++ jobs }
    hif := { s.hif with items := s.hif.items.map joined } }
  let s2 := ks.foldl (fun s k => s.traceSched k 5 (tget {} ls k).cls j.cycles ts.length s.m) s1
  (r.foldl (fun s x => s.announce g (s.genAge ls ts g r (x.1 / 64)) ages x) s2).dispatchAll

/-- The layers of a scene keep within the limits judged where commands land (R131, R160, R162). -/
def State.sceneOk (s : State) (ls : Tab Layer) (frisk : Bool) : Bool := s.depthOk ls && !(friskOverlap ls) && !(frisk && s.friskHeavy ls)

/-- The late join of R156 for a change whose descriptor d names the impression in hand; none where it is not reserved in full, or may not take effect before an earlier command of its queue (R57), and lands at the next impression. -/
def State.tryJoin (d : Slot) (is : List Item) (s : State) : Option State :=
  if !s.win.open_ || decide (s.lateAt < s.tim.time) || !dTargeted d || decide (dTarget d ≠ s.m) ||
      is.any (fun i => ordered i.desc && (decide (s.m < i.floor) || s.heldBack i)) then none
  else
    let ls := s.lateScene is
    let ks := dedup ((is.map itemKeys).flatten)
    let ts := s.lateTiles (s.cmp.late.length + 1) (s.changeTiles s.scene ls ks)
    let press := s.costOf ls ts
    let r := s.regionsFor ts
    if s.cmp.gen = 15 ∨ s.freeCycles < press ∨ !((List.range 16).all (s.quireFits press r)) ∨ !s.sceneOk ls (is.any fun i => isFrisk i.desc) then none
    else some (s.join is ls ts r)

/-- A change that does not join: it lands at the next impression. -/
def State.landsNext (is : List Item) (s : State) : State :=
  is.foldl (fun s i => s.traceSched (lyrKey i.desc) 6 i.cls 0 0 (s.m + 1)) s

end Sys2Proof.Machine
end

