-- ==== Sys2Proof/Machine/SceneCmd.lean ====
section
/-! DEFINITION. The commands of the scene: layer.define, layer.update, layer.remove (R124 to R128), surface.write and its staging (R139 to R144), fence.signal (R143), scene.commit and groups (R145 to R147), stream.release (R101, R102). -/

namespace Sys2Proof.Machine

open Sys2Proof

/-! ### Groups -/

/-- The commands a group can hold. -/
def groupOp (op : Nat) : Bool := isLayerOp op || op == 0x0104

/-- Held members of a queue's group, before its scene.commit. -/
def State.heldMembers (s : State) (q g : Nat) : List Item :=
  s.hif.items.filter fun i => i.sq == q && groupOp (dOp i.desc) && grpNo i.desc == g && decide (g ≠ 0) && i.commitId.isNone

/-- Members of the group a scene.commit has taken, in take order. -/
def State.members (s : State) (c : Nat) : List Item := s.hif.items.filter fun i => i.commitId == some c

/-- A version changed, in the layer and in every generation's scene. -/
def State.modVers (k : Nat) (f : Layer → Layer) (s : State) : State :=
  let s := s.modLayer k f
  let on (j : LateJoin) : LateJoin := { j with layers := tmod {} j.layers k f }
  { s with cmp := { s.cmp with late := s.cmp.late.map on } }

/-- Blocks a rectangle of a w by h surface covers completely, stamped (R123). -/
def stampBlocks (w h : Nat) (r : Nat × Nat × Nat × Nat) (t : Cap) (old : List Cap) : List Cap :=
  let (x, y, rw, rh) := r
  (List.range (ceilDiv h 64 * blocksW w)).map fun i =>
    let bx := i % blocksW w * 64
    let by_ := i / blocksW w * 64
    if x ≤ bx ∧ min (bx + 64) w ≤ x + rw ∧ y ≤ by_ ∧ min (by_ + 64) h ≤ y + rh then t else nthD Cap.never old i

/-- The words of a w by h surface with a rectangle's own words in place. -/
def overlay (w h : Nat) (r : Nat × Nat × Nat × Nat) (own base : List Word) : List Word :=
  let (x, y, rw, rh) := r
  (List.range (w * h)).map fun i =>
    let px := i % w
    let py := i / w
    if x ≤ px ∧ px < x + rw ∧ y ≤ py ∧ py < y + rh then nthD 0 own ((py - y) * rw + (px - x)) else nthD 0 base i

/-- A version over the newest earlier one that is not discarded; pixels never written hold free values (R140, log entry 1). -/
def rebase (w h : Nat) (base : Option SurfVer) (v : SurfVer) : SurfVer :=
  let (px, bl) := match base with
    | some b => (b.px, b.blocks)
    | none => ((List.range (w * h)).map (Config.blankPixel (2 * v.id + 1)), [])
  { v with px := overlay w h v.rect v.own px, blocks := stampBlocks w h v.rect (.at v.stagedAt) bl }

/-- Versions rebuilt in order, without the discarded one (R140). -/
def rebuild (w h : Nat) : Option SurfVer → Bool → List SurfVer → List SurfVer
  | _, _, [] => []
  | base, after, v :: t =>
    let v' := if after then rebase w h base v else v
    v' :: rebuild w h (some v') after t

/-- A version discarded and every later one rebuilt without it (R140). -/
def discardVer (id : Nat) (l : Layer) : Layer :=
  let before := l.vers.takeWhile fun v => v.id != id
  let after := (l.vers.dropWhile fun v => v.id != id).drop 1
  if l.vers.any fun v => v.id == id then { l with vers := before ++ rebuild l.surfW l.surfH before.getLast? true after } else l

/-- What a member held is given back: its version, or the memory a layer.define reserved. -/
def State.dropMember (i : Item) (s : State) : State :=
  if dOp i.desc = 0x0104 then (if i.ver = 0 then s else s.modVers (lyrKey i.desc) (discardVer i.ver))
  else if dOp i.desc = 0x0101 ∧ i.aux ≠ 0 then s.release [i.aux, i.aux + 1]
  else s

/-- Members of a group and, last, its scene.commit end with one status. -/
def State.endGroup (is : List Item) (st : Status) (det imp : Nat) (s : State) : State :=
  is.foldl (fun s i => (s.dropMember i).complete i.id st det imp 0 false) s

/-- A group whose scene.commit has been taken is refused whole (R147). -/
def State.refuseGroup (c : Nat) (s : State) : State :=
  (s.endGroup (s.members c) .refusedState 4 0).refuse c .refusedState 4

/-- A member refused after take (R147): it spoils its group, or takes the whole group with it. -/
def State.refuseMember (i : Item) (st : Status) (det : Nat) (s : State) : State :=
  let s := (s.dropMember i).refuseWith i st det
  match i.commitId with
  | some c => s.refuseGroup c
  | none => s.spoil i.sq (grpNo i.desc)

/-! ### Layer commands -/

/-- An ungrouped layer command joins late or lands at its commit point; a grouped one is held. -/
def State.acceptLayer (i : Item) (s : State) : State :=
  if grpNo i.desc ≠ 0 then s.phase i.id .held
  else
    let s := s.phase i.id .landing
    let i := { i with phase := .landing }
    match s.tryJoin i.desc [i] with
    | some s' => s'
    | none => if dTargeted i.desc && decide (dTarget i.desc ≤ s.opened) then s.landsNext [i] else s

/-- Effective class of a layer.define and whether the queue lowered it (R58). -/
def State.classOf (s : State) (i : Item) : Nat × Bool :=
  let asked := prm i.desc 4 1 % 4
  let c := max asked (bits (s.sqCtrl i.sq) 6 2)
  (c, decide (asked < c) && !isFrisk i.desc)

/-- Bytes of a surface. -/
def surfBytes (d : Slot) : Nat := 4 * prm d 12 2 * prm d 14 2

/-- DRAM class of a layer's surface (Table 12-1). -/
def surfCls (frisk : Bool) : Nat := if frisk then clsFrisket else clsReal

/-- Two versions of the surface can be reserved. -/
def State.versFit (s : State) (d : Slot) : Bool :=
  match s.alloc (surfCls (isFrisk d)) (extents (surfBytes d)) with
  | none => false
  | some (_, s1) => s1.canAlloc (surfCls (isFrisk d)) (extents (surfBytes d))

/-- Refusals of layer.define, with the memory of its surface (R128). -/
def layerDefineRefusals (i : Item) (s : State) : List Refuse := defineRefusals i s ++ [noRoom (defSurf i.desc && !s.versFit i.desc) 3]

/-- LAYER_DEFINE. -/
def execLayerDefine (dt q : Nat) (desc auth : Slot) (s : State) : Host.Outcome State Fault Refusal :=
  .next ((s.elapse dt).takeCmd 0x0101 q desc auth true (grpNo desc) layerDefineRefusals
    (fun i s =>
      let c := s.classOf i
      let r := if defSurf desc then
          let a := s.allocD (surfCls (isFrisk desc)) (extents (surfBytes desc))
          (a.1, (a.2.allocD (surfCls (isFrisk desc)) (extents (surfBytes desc))).2)
        else (0, s)
      let i' : Item := { i with cls := c.1, clamped := c.2, aux := r.1 }
      (r.2.modItem i.id fun _ => i').acceptLayer i'))

/-- LAYER_UPDATE. -/
def execLayerUpdate (dt q : Nat) (desc auth : Slot) (s : State) : Host.Outcome State Fault Refusal :=
  .next ((s.elapse dt).takeCmd 0x0102 q desc auth true (grpNo desc) updateRefusals fun i s => s.acceptLayer i)

/-- LAYER_REMOVE. -/
def execLayerRemove (dt q : Nat) (desc auth : Slot) (s : State) : Host.Outcome State Fault Refusal :=
  .next ((s.elapse dt).takeCmd 0x0103 q desc auth true (grpNo desc) removeRefusals fun i s => s.acceptLayer i)

/-! ### surface.write -/

/-- SURFACE_WRITE taken: its buffer is read at once, or once its fence is reached (R140). -/
def execSurfaceWrite (dt q : Nat) (desc auth : Slot) (s : State) : Host.Outcome State Fault Refusal :=
  .next ((s.elapse dt).takeCmd 0x0104 q desc auth true (grpNo desc) writeRefusals
    (fun i s => s.phase i.id (if wrFenced desc && !s.fenceReached (prm desc 16 2) (prm desc 20 8) then .fencing else .staging)))

/-- The surface as the commands taken before stand: width, height, and versions it has reserved in all. -/
def State.surfOf (s : State) (i : Item) : Nat × Nat :=
  let l := tget {} (s.sceneOf i.sq) (lyrKey i.desc)
  (l.surfW, l.surfH)

/-- A version is free for a write, or can be added up to three (R125): the state in which it is. -/
def State.makeRoom (i : Item) (s : State) : Option State :=
  let k := lyrKey i.desc
  let l := s.layer k
  let n := (l.vers.filter fun v => !v.discarded).length
  let have_ := max 2 l.allocs.length
  if n < have_ then some s
  else if 3 ≤ have_ then none
  else
    let wh := s.surfOf i
    match s.alloc (surfCls (isFrisk i.desc)) (extents (4 * wh.1 * wh.2)) with
    | none => none
    | some (a, s) => some (s.modVers k fun x => { x with allocs := x.allocs ++ [a] })

/-- Words of the rectangle of a write, from its buffer (R139). -/
def ownWords (d : Slot) (buf : List Byte) : List Word :=
  ((List.range (wrH d)).map fun y => (List.range (wrW d)).map fun x => BitVec.ofNat 32 (leNat (slice buf (y * wrStride d + 4 * x) 4))).flatten

/-- The new version of a staged write (R140). -/
def State.newVersion (i : Item) (buf : List Byte) (s : State) : State :=
  let k := lyrKey i.desc
  let d := i.desc
  let wh := s.surfOf i
  let base := ((s.layer k).vers.filter fun v => !v.discarded).getLast?
  let g := grpNo d
  let v : SurfVer :=
    { id := s.cmp.nextVer, item := i.id, sq := i.sq, stagedAt := s.tim.time, from_ := max i.target s.nextImp, rect := (wrX d, wrY d, wrW d, wrH d), own := ownWords d buf,
      px := [], blocks := [], landed := decide (g = 0) }
  let v := rebase wh.1 wh.2 base v
  let s := s.modVers k fun l => { l with vers := l.vers ++ [v] }
  let done (x : Item) : Item := { x with ver := v.id, stagedAt := s.tim.time, phase := .held, target := max x.target s.nextImp,
                                         late := x.late || (decide (g = 0) && !wrFenced d && decide (x.target < s.nextImp)) }
  ({ s with cmp := { s.cmp with nextVer := s.cmp.nextVer + 1 } } : State).modItem i.id done

/-- A version is committed: earlier writes to the surface from the same queue that still wait on a fence are superseded (R144). -/
def State.supersede (k : Nat) (v : SurfVer) (s : State) : State :=
  (s.hif.items.filter fun x => dOp x.desc == 0x0104 && x.sq == v.sq && lyrKey x.desc == k && decide (x.phase = .fencing) && decide (x.id < v.item)).foldl
    (fun s x => s.refuse x.id .superseded 0) s

/-- A version is committed where it first may be sampled: at the commit point of its impression, or at a late join (R144; log entry 92). -/
def State.supersedeAt (m : Nat) (s : State) : State :=
  (s.scene.map fun e => (e.2.vers.filter fun v => v.landed && !v.discarded && v.from_ == m).map fun v => (e.1, v)).flatten.foldl (fun s e => s.supersede e.1 e.2) s

/-- A group whose scene.commit named the impression in hand joins late once its last member is staged; it has no fenced member and no wall settings (R141, R156). -/
def State.joinGroup (c : Nat) (s : State) : State :=
  match s.item? c with
  | none => s
  | some ci =>
    let ms := s.members c
    if ms.any (fun i => decide (i.phase ≠ .held) || wrFenced i.desc && dOp i.desc == 0x0104) || prm ci.desc 1 1 / 2 % 2 == 1 then s
    else
      match s.tryJoin ci.desc (ms ++ [ci]) with
      | some s' => s'.supersedeAt s'.m
      | none => if dTargeted ci.desc && decide (dTarget ci.desc ≤ s.opened) then s.landsNext ms else s

/-- A write waits for a version: its buffer stays, read and checked (R125). -/
def waitVersion (buf : List Byte) (i : Item) : Item := { i with buf := buf, phase := .waiting }

/-- A write taken earlier waits for a version of the same surface. -/
def State.waitsAhead (s : State) (i : Item) : Bool :=
  s.hif.items.any fun j => decide (j.phase = .waiting) && lyrKey j.desc == lyrKey i.desc && decide (j.id < i.id)

/-- A surface.write staged and, on SQ15, verified (Table 4-9). -/
def State.stagedSurface (i : Item) (buf : List Byte) (s : State) : State :=
  match if s.waitsAhead i then none else s.makeRoom i with
  | none => s.modItem i.id (waitVersion buf)
  | some s =>
    let s := s.newVersion i buf
    match s.item? i.id with
    | none => s
    | some i =>
      if grpNo i.desc ≠ 0 then
        match i.commitId with
        | some c => s.joinGroup c
        | none => s
      else
        let fin (s : State) : State := (s.pushBack i.sq i.id i.target).done i.id i.target 0
        if wrFenced i.desc then fin s
        else
          let lift (l : Layer) : Layer := landVer i.ver s.m l
          match s.tryJoin i.desc [i] with
          | some s' => (s'.modVers (lyrKey i.desc) lift).supersedeAt s'.m
          | none => fin s

/-- Writes that wait for a version go on, in take order, once one is free (R125). -/
def State.resumeWrites (s : State) : State :=
  (s.hif.items.filter fun i => decide (i.phase = .waiting)).foldl (fun s x =>
    match s.item? x.id with
    | none => s
    | some i => s.stagedSurface i i.buf) s

/-! ### fence.signal -/

/-- Refusals of fence.signal (R87, R142). -/
def fenceRefusals (i : Item) (_ : State) : List Refuse :=
  let f := prm i.desc 0 2
  [malformed (decide (479 < f)), authWrong (decide (448 ≤ f) && i.sq != 15), badState (decide (f < 448) && i.sq == 15) 0]

/-- FENCE_SIGNAL (R87, R142, R143). -/
def execFenceSignal (dt q : Nat) (desc auth : Slot) (s : State) : Host.Outcome State Fault Refusal :=
  let f := prm desc 0 2
  .next ((s.elapse dt).takeCmd 0x0105 q desc auth false 0 fenceRefusals
    (fun i s =>
      let v := max (prm desc 8 8) (tget 0 s.cmp.fenceSig f).toNat
      let s : State := { s with cmp := { s.cmp with fenceSig := tput 0 s.cmp.fenceSig f (BitVec.ofNat 64 v) } }
      s.fencesGo.complete i.id .done 0 s.nextImp 0 false))

/-! ### scene.commit -/

/-- ABANDON and WALL of scene.commit. -/
def cmAbandon (d : Slot) : Bool := prm d 1 1 % 2 == 1
def cmWall (d : Slot) : Bool := prm d 1 1 / 2 % 2 == 1

/-- Wall settings out of range (Table 4-8). -/
def wallBad (d : Slot) : Bool := cmWall d && (decide (8 < prm d 2 1) || !ageOk (prm d 4 3))

/-- Refusals of scene.commit (R145 to R147, Table 4-5). -/
def commitRefusals (i : Item) (s : State) : List Refuse :=
  let d := i.desc
  let g := prm d 0 1
  let ms := s.heldMembers i.sq g
  [malformed (wallBad d), authWrong (cmWall d && i.sq != 15),
   badState (!cmWall d && decide (ms = []) && !decide ((i.sq, g) ∈ s.cmp.spoiled)) 7]

/-- SCENE_COMMIT (R145 to R147). -/
def State.acceptCommit (i : Item) (s : State) : State :=
  let d := i.desc
  let g := prm d 0 1
  let ms := s.heldMembers i.sq g
  let spoiled := decide ((i.sq, g) ∈ s.cmp.spoiled)
  let s : State := { s with cmp := { s.cmp with spoiled := s.cmp.spoiled.filter fun x => !(x == (i.sq, g)) } }
  if cmAbandon d then
    let s := (s.endGroup ms .refusedState 4 0).resumeWrites
    if cmWall d then s.phase i.id .landing else s.complete i.id .done 0 s.nextImp 0 false
  else if spoiled then ((s.endGroup ms .refusedState 4 0).refuse i.id .refusedState 4).resumeWrites
  else
    let s := s.phase i.id .landing
    let mine (x : Item) : Item := if ms.any (fun y => y.id == x.id) then { x with commitId := some i.id } else x
    let s : State := { s with hif := { s.hif with items := s.hif.items.map mine } }
    if ms = [] then s else s.joinGroup i.id

/-- SCENE_COMMIT. -/
def execSceneCommit (dt q : Nat) (desc auth : Slot) (s : State) : Host.Outcome State Fault Refusal :=
  .next ((s.elapse dt).takeCmd 0x0110 q desc auth true 0 commitRefusals fun i s => s.acceptCommit i)

/-! ### stream.release -/

/-- A layer of the scene as it will stand at impression t refers to stream k (R102). -/
def State.refersAt (s : State) (k t : Nat) : Bool :=
  (s.sceneAfter fun i => decide (i.phase = .held) || decide (i.target ≤ t)).any fun e =>
    !e.2.surface && e.2.source == k && (decide (e.2.st = .defined) || decide (e.2.st = .placed))

/-- Refusals of stream.release (R101, R102). -/
def releaseRefusals (i : Item) (s : State) : List Refuse :=
  let d := i.desc
  let k := prm d 1 1
  let m := if prm d 2 1 = 0 then 3 else prm d 2 1
  let x := s.stream k
  let r := s.legIn k 0
  let b := s.legIn k 1
  let hit := (r && m % 2 == 1) || (b && m / 2 % 2 == 1)
  let last := !(r && m % 2 == 0) && !(b && m / 2 % 2 == 0)
  [malformed (decide (63 < k) || decide (3 < prm d 2 1)), authWrong (x.frisket && i.sq != 15), badState (i.sq == 15 && !x.frisket) 0,
   badState (decide (x.st = .free ∨ x.st = .releasing) || !hit) 0, badState (last && s.refersAt k i.target) 0]

/-- The legs a stream.release takes out: those its mask names, as the stream stands after the commands taken before it (R101). -/
def State.releaseMask (s : State) (d : Slot) : Nat :=
  let m := if prm d 2 1 = 0 then 3 else prm d 2 1
  b2n (s.legIn (prm d 1 1) 0 && m % 2 == 1) + 2 * b2n (s.legIn (prm d 1 1) 1 && m / 2 % 2 == 1)

/-- STREAM_RELEASE taken; it lands at its target's commit point. -/
def execStreamRelease (dt q : Nat) (desc auth : Slot) (s : State) : Host.Outcome State Fault Refusal :=
  .next ((s.elapse dt).takeCmd 0x0202 q desc auth true 0 releaseRefusals
    (fun i s =>
      let n := s.releaseMask i.desc
      let go (x : Item) : Item := { x with phase := .landing, aux := n }
      s.modItem i.id go))

end Sys2Proof.Machine
end

