-- ==== Sys2Proof/Machine/Session.lean ====
section
/-! DEFINITION. Sessions, enrollment and admission (R311 to R325, Table 9-15), inserted packets (R306, R308), leaf commands and their ends (R331 to R335), and the leaves' reports (R195, R229 to R231, R330, R334, R346). -/

namespace Sys2Proof.Machine

open Sys2Proof

/-! ### Tags and ADOPT -/

/-- A session tag from the entropy source: never 0, and no tag drawn before (R311); a value that would be is replaced by the smallest that is not. -/
def freshTag (v : DWord) (tags : List DWord) : DWord :=
  if v ≠ 0 ∧ !decide (v ∈ tags) then v
  else
    (((List.range (tags.length + 2)).map fun n => BitVec.ofNat 64 (n + 1)).find? fun x => !decide (x ∈ tags)).getD 1

/-- What a new session leaves of a leaf: not enrolled, commands numbered from 1 again, those of the session before never sent again (R311, R313, R331). -/
def Leaf.newTag (l : Leaf) : Leaf :=
  { l with enrolled := false, foreign := false, nextSeq := 1, answered := 0, cmds := l.cmds.map fun c => { c with dead := true }, geomSent := none,
           sinkOwed := true, newSession := true }

/-- ADOPT on every lane-end that is UP (R311, R312). -/
def State.sendAdopt (q : Nat) (s : State) : State :=
  let x := s.quire q
  let s := if s.endUp q 0 then s.sendQ q 0 (.adopt x.tag (s.nLeaves q) 0 q) else s
  let s := if s.endUp q 1 then s.sendQ q 1 (.adopt x.tag (s.nLeaves q) 1 q) else s
  s.modQuire q fun x => { x with adoptAt := s.clk }

/-- A quire enters ADOPTING with a new tag. -/
def State.adopt (q : Nat) (s : State) : State :=
  let r := s.draw
  let t := freshTag (Config.entropy r.1) s.upd.tags
  let s1 : State := { r.2 with upd := { r.2.upd with tags := t :: r.2.upd.tags } }
  let s2 := (List.range 64).foldl (fun s i => s.modLeaf (64 * q + i) Leaf.newTag) s1
  let s3 := s2.modQuire q fun x => { x with st := .adopting, tag := t, since := s2.clk, planned := false, ready := false }
  (s3.traceQuire q 0 6).sendAdopt q

/-- The quire enters RUNNING: the first plan of the session, epoch 1 (R347, R348, R352). -/
def State.enterRunning (q : Nat) (s : State) : State :=
  let s := s.modQuire q fun x => { x with st := .running, since := s.clk, epoch := 0, planned := true, ready := false, evid := [], replanning := false }
  let s := s.setPlan q (splitAt (s.balancedK q))
  if (s.quire q).dirA.mismEp then s else s.clear .quireClosureMismatch (instOf 3 (2 * q))

/-- A quire that needs a new tag takes one, once the entropy source is ready; until then it waits (R311, R505). -/
def State.adoptWhenReady (q : Nat) (s : State) : State := if s.upd.entReady then s.adopt q else s

/-- QUIRE_ADOPT_START (R311): WAIT ends once a lane-end is UP and the entropy source is ready; never before stage 6 has ended, nor within 50 ms of a module reset (R532). -/
def execQuireAdoptStart (dt q : Nat) (s : State) : Host.Outcome State Fault Refusal :=
  let s := s.elapse dt
  .next (if q < 16 ∧ (s.quire q).st = .wait ∧ (s.upDirs q).isSome ∧ s.upd.entReady ∧ 6 ≤ s.sys.stage ∧ s.sys.txOffTo ≤ s.clk then s.adopt q else s)

/-- ADOPT is due: every 1 ms while ADOPTING, every ADOPT_MS while RUNNING. -/
def State.adoptDue (s : State) (q : Nat) : Bool :=
  let x := s.quire q
  (decide (x.st = .adopting) && decide (x.adoptAt + msU ≤ s.clk)) || (decide (x.st = .running) && decide (x.adoptAt + s.regBits 0x7004 0 10 * msU ≤ s.clk))

/-- ADOPT_SEND. -/
def execAdoptSend (dt q : Nat) (s : State) : Host.Outcome State Fault Refusal :=
  let s := s.elapse dt
  .next (if q < 16 ∧ s.adoptDue q then s.sendAdopt q else s)

/-- Positions enrolled under the current tag. -/
def State.enrolledAt (s : State) (q : Nat) : List Nat := (List.range (s.nLeaves q)).filter fun i => (s.leaf (64 * q + i)).enrolled

/-- ADOPTING_TIMEOUT (Table 9-15). -/
def execAdoptingTimeout (dt q : Nat) (s : State) : Host.Outcome State Fault Refusal :=
  let s := s.elapse dt
  let x := s.quire q
  .next (if x.st = .adopting ∧ x.since + secU ≤ s.clk then (if s.enrolledAt q = [] then s.adoptWhenReady q else s.enterRunning q) else s)

/-- BAD_COUNT_TIMEOUT (Table 9-15). -/
def execBadCountTimeout (dt q : Nat) (s : State) : Host.Outcome State Fault Refusal :=
  let s := s.elapse dt
  let x := s.quire q
  .next (if x.st = .badCount ∧ x.since + secU ≤ s.clk then s.adoptWhenReady q else s)

/-! ### Inserted packets -/

/-- An entry of the last second. -/
def lastSec (now : Nat) (l : List Nat) : List Nat := l.filter fun t => decide (now < t + secU)

/-- A packet a leaf inserted, of a TYPE and with a BODY, passes R308 under the quire's session. -/
def State.insPass (s : State) (i : Ins) (type : Nat) (body : List Byte) : Bool :=
  let x := s.quire i.quire
  decide (i.quire < 16) && decide (i.leaf < 64) && insCheckOk i type body && !i.errored && decide (x.tag ≠ 0) && decide (i.session = x.tag) &&
    (decide (x.st = .running) || decide (x.st = .adopting) || decide (x.st = .badCount))

/-- A packet counted as accepted or discarded (Tables 9-19, 16-1); one that is accepted ends the leaf's LEAF_LOST episode (R346). -/
def State.inserted (i : Ins) (type : Nat) (body : List Byte) (s : State) : State :=
  let q := i.quire
  let k := 64 * q + i.leaf
  if s.insPass i type body then
    let s := (s.modQuire q fun x => { x with insOk := s.clk :: lastSec s.clk x.insOk }).count (0x40E + 16 * q) 1
    let was := (s.leaf k).lostEp
    let s := s.modLeaf k fun l => { l with lastHeard := s.imp.counter, lostEp := false }
    if was then s.clear .leafLost (instOf 4 k) else s
  else if q < 16 ∧ (s.quire q).st ≠ .off then
    (s.modQuire q fun x => { x with insBad := s.clk :: lastSec s.clk x.insBad }).count (0x40F + 16 * q) 1
  else s

/-- A packet acted on when it passes R308. -/
def State.onInsert (i : Ins) (type : Nat) (body : List Byte) (f : State → State) (s : State) : State :=
  if s.insPass i type body then f (s.inserted i type body) else s.inserted i type body

/-- The packet is the second copy of one taken from the other direction less than 1 ms ago (R306; log entry 96). -/
def secondOf (i : Ins) (b : List Byte) (now : Nat) (e : Nat × Nat × List Byte) : Bool :=
  decide (e.1 ≠ i.dir) && decide (e.2.2 = b) && decide (now < e.2.1 + msU)

/-- A packet acted on once: its second copy, from the other direction, changes nothing more (R306). -/
def State.onFirst (i : Ins) (type : Nat) (body : List Byte) (f : State → State) (s : State) : State :=
  s.onInsert i type body fun s =>
    let k := 64 * i.quire + i.leaf
    let b := insBytes i type body
    let l := (s.leaf k).copies.filter fun e => decide (s.clk < e.2.1 + msU)
    match l.findIdx? (secondOf i b s.clk) with
    | some n => s.modLeaf k fun x => { x with copies := l.eraseIdx n }
    | none => f (s.modLeaf k fun x => { x with copies := l ++ [(i.dir, s.clk, b)] })

/-! ### Enrollment -/

/-- A leaf's record matches an identity (R322). -/
def Admission.fits (a : Admission) (maker model : Half) (serial : DWord) : Bool := a.any || (a.maker == maker && a.model == model && a.serial == serial)

/-- The identity of an ENROLL is the one held. -/
def sameLeaf (l : Leaf) (r : Enroll) : Bool := l.maker == r.maker && l.model == r.model && l.serial == r.serial

/-- An ENROLL is consistent (R321). -/
def State.enrollOk (s : State) (q i : Nat) (r : Enroll) : Bool :=
  let l := s.leaf (64 * q + i)
  decide (r.proto = 1) && decide (i < s.nLeaves q) && (decide (r.hopA = 255 ∨ r.hopB = 255) || decide (r.hopA + r.hopB + 1 = s.nLeaves q)) &&
    (!l.enrolled || sameLeaf l r)

/-- The leaf's admission record matches the identity it holds. -/
def Leaf.admitted (l : Leaf) : Bool := match l.adm with | none => false | some a => a.fits l.maker l.model l.serial

/-- FOREIGN judged: enrolled with no matching record (R322, Table 9-21). -/
def Leaf.judge (l : Leaf) : Leaf := { l with foreign := l.enrolled && !l.admitted }

/-- What is kept of another leaf at the position goes: its sinks and partial sums. -/
def Leaf.replaced (l : Leaf) (r : Enroll) : Leaf := if sameLeaf l r then l else { l with sinkAck := [], sinkLog := [], parts := [] }

/-- A leaf takes the identity and the figures of its ENROLL (R313, R322, Table 9-13). -/
def Leaf.enroll (l : Leaf) (r : Enroll) (at_ dir : Nat) : Leaf :=
  let ok := match l.adm with | none => false | some a => a.fits r.maker r.model r.serial
  { (l.replaced r).newTag with
    enrolled := true, foreign := !ok, foreignSaid := false, entering := ok && decide (l.unit = .spare), maker := r.maker, model := r.model, serial := r.serial, proto := r.proto,
    fw := r.fw, lamps := r.lamps, nLamp := r.n, weights := r.weights, budget := r.budget, driveBits := r.driveBits, hopA := r.hopA, hopB := r.hopB,
    enrAt := at_, enrDir := dir }

/-- The second copy of a report already taken, from the other direction (R306). -/
def State.secondCopy (s : State) (i : Ins) (r : Enroll) : Bool :=
  let l := s.leaf (64 * i.quire + i.leaf)
  l.enrolled && sameLeaf l r && decide (l.enrDir ≠ i.dir) && decide (s.clk < l.enrAt + msU)

/-- LEAF_FOREIGN for a leaf that is FOREIGN, once per enrollment (R322). -/
def State.sayForeign (k : Nat) (s : State) : State :=
  if (s.leaf k).foreign && !(s.leaf k).foreignSaid then (s.modLeaf k fun l => { l with foreignSaid := true }).raise .leafForeign (instOf 4 k) [] false else s

/-- A position enrolled; LEAF_FOREIGN (R322), and MISMATCH judged (R210). -/
def State.enrollAt (i : Ins) (r : Enroll) (s : State) : State :=
  let k := 64 * i.quire + i.leaf
  ((s.modLeaf k fun l => l.enroll r s.clk i.dir).sayForeign k).checkMismatch k

/-- An ENROLL in its session state (Table 9-15, R313). -/
def State.enrolled (i : Ins) (r : Enroll) (s : State) : State :=
  let q := i.quire
  let x := s.quire q
  if s.secondCopy i r then s
  else if x.st = .adopting then
    if s.enrollOk q i.leaf r then
      let s := s.enrollAt i r
      if (s.enrolledAt q).length = s.nLeaves q then s.enterRunning q else s
    else
      (s.modQuire q fun x => { x with st := .badCount, since := s.clk }).raise .quireClosureMismatch (instOf 3 (2 * q)) [] true
  else if x.st = .running ∧ s.enrollOk q i.leaf r then s.enrollAt i r
  else s

/-- ENROLL_REPORT. -/
def execEnrollReport (dt : Nat) (ins : Ins) (r : Enroll) (s : State) : Host.Outcome State Fault Refusal :=
  .next ((s.elapse dt).onInsert ins 9 (enrollBody r) fun s => s.enrolled ins r)

/-! ### leaf.admit, leaf.retire, leaf.command -/

/-- The leaf QUIRE and LEAF name at offsets 0 and 1. -/
def leafOf (d : Slot) : Nat := 64 * prm d 0 1 + prm d 1 1

/-- QUIRE or LEAF out of range. -/
def leafBad (d : Slot) : Bool := decide (15 < prm d 0 1) || decide (63 < prm d 1 1)

/-- Refusals of leaf.admit (R323, R324). -/
def leafAdmitRefusals (i : Item) (s : State) : List Refuse :=
  [malformed (leafBad i.desc), badState (decide (s.nLeaves (prm i.desc 0 1) ≤ prm i.desc 1 1)) 0]

/-- LEAF_ADMIT (R323, R324). -/
def execLeafAdmit (dt q : Nat) (desc auth : Slot) (s : State) : Host.Outcome State Fault Refusal :=
  .next ((s.elapse dt).takeCmd 0x0401 q desc auth true 0 leafAdmitRefusals
    (fun i s => s.phase i.id .landing))

/-- A leaf enters service at the commit point of m: its geometry and its settings are to be sent (R185, R533). -/
def Leaf.enter (m : Nat) (l : Leaf) : Leaf := { l with unit := .inService, entering := false, foreign := false, inUseFrom := m, geomSent := none, sinkOwed := true }

/-- leaf.admit lands (R323). -/
def State.landAdmit (i : Item) (m : Nat) (s : State) : State :=
  let d := i.desc
  let k := leafOf d
  if prm d 2 1 / 2 % 2 = 1 then ((s.modLeaf k fun l => { l with adm := none }.judge).sayForeign k).done i.id m 0
  else
    let a : Admission := { any := prm d 2 1 % 2 == 1, maker := BitVec.ofNat 16 (prm d 4 2), model := BitVec.ofNat 16 (prm d 6 2), serial := BitVec.ofNat 64 (prm d 8 8) }
    let s := (s.modLeaf k fun l => { l with adm := some a }.judge).sayForeign k
    let l := s.leaf k
    if l.enrolled && a.fits l.maker l.model l.serial && decide (l.unit ≠ .inService) then ((s.setLeaf k (l.enter m)).checkMismatch k).done i.id m 1
    else s.done i.id m 0

/-- Admitted SPARE leaves enter service at a commit point (R322). -/
def State.enterLeaves (m : Nat) (s : State) : State :=
  s.leaves.foldl (fun s e => if e.2.entering then (s.setLeaf e.1 (e.2.enter m)).checkMismatch e.1 else s) s

/-- Refusals of leaf.retire (R325). -/
def leafRetireRefusals (i : Item) (_ : State) : List Refuse := [malformed (leafBad i.desc)]

/-- LEAF_RETIRE (R325). -/
def execLeafRetire (dt q : Nat) (desc auth : Slot) (s : State) : Host.Outcome State Fault Refusal :=
  .next ((s.elapse dt).takeCmd 0x0404 q desc auth true 0 leafRetireRefusals (fun i s => s.phase i.id .landing))

/-- leaf.retire lands: RETIRED, and DARK sent (R325). -/
def State.landRetire (i : Item) (m : Nat) (s : State) : State :=
  let k := leafOf i.desc
  let s := s.modLeaf k fun l => { l with unit := .retired, entering := false }
  let landed (x : Item) : Item := { x with phase := .landed, landedAt := m }
  ((s.sendDark k (some i.id)).2).modItem i.id landed

/-- Refusals of leaf.command (R335). -/
def leafCommandRefusals (i : Item) (s : State) : List Refuse :=
  let d := i.desc
  [malformed (leafBad d || decide (prm d 2 2 < 0x8000) || decide (1024 < prm d 4 2) || decide (1024 < prm d 6 2) || decide (dLen d < max (prm d 4 2) (prm d 6 2))),
   badState (!(s.leaf (leafOf d)).inUse) 0]

/-- LEAF_COMMAND (R335): its input bytes are staged at once. -/
def execLeafCommand (dt q : Nat) (desc auth : Slot) (s : State) : Host.Outcome State Fault Refusal :=
  .next ((s.elapse dt).takeCmd 0x0402 q desc auth true 0 leafCommandRefusals
    (fun i s => s.phase i.id (if prm desc 4 2 = 0 then .landing else .staging)))

/-- leaf.command is sent at the commit point of its target (log entry 20). -/
def State.landCommand (i : Item) (m : Nat) (s : State) : State :=
  let d := i.desc
  let landed (x : Item) : Item := { x with phase := .leaves, landedAt := m, late := x.late || (dTargeted d && decide (x.target < m)) }
  ((s.sendCmd (leafOf d) (BitVec.ofNat 16 (prm d 2 2)) (max i.target m) (i.buf.take (prm d 4 2)) (some i.id)).2).modItem i.id landed

/-! ### Results -/

/-- The commit deadline of impression m has passed. -/
def State.deadlinePast (s : State) (m : Nat) : Bool := decide (m < s.win.imp) || (decide (m = s.win.imp) && s.win.deadline)

/-- The leaf's response written back over a leaf.command's buffer (R55, R335). -/
def State.respond (i : Item) (r : ResultRep) (s : State) : State :=
  let out := r.data.take (prm i.desc 6 2)
  let w := if out = [] then (true, s) else s.writeResult (dAddr i.desc) out
  if !w.1 then w.2.refuse i.id .failedUnit 2
  else w.2.complete i.id (if i.late then .doneLate else .done) out.length r.applied r.status.toNat false

/-- A descriptor hears of the answer to a command it caused (R188, R325, R335). -/
def State.answerItem (id k : Nat) (r : ResultRep) (s : State) : State :=
  match s.item? id with
  | none => s
  | some i =>
    if i.opcode = 0x0402 then s.respond i r
    else if i.opcode = 0x0303 then
      let heard (x : Item) : Item := { x with waits := x.waits.filter fun w => w != (k, r.seq), applied := r.applied }
      let s := s.modItem id heard
      if (heard i).waits = [] ∧ s.deadlinePast i.landedAt then s.complete id .doneLate 0 (heard i).applied 0 false else s
    else
      let heard (x : Item) : Item := { x with aux := 1 }
      s.modItem id heard

/-- The settings a SINK record names, put over others (Table 9-11). -/
def sinkOver (data : List Byte) (l : List Nat) : List Nat :=
  (List.range 5).map fun b => if (nthD 0 data 0).toNat / 2 ^ b % 2 = 1 then (nthD 0 data (1 + b)).toNat else nthD 128 l b

/-- Settings acknowledged, as far back as impression m - 15 needs them. -/
def keepSinks (m : Nat) : List (Nat × List Nat) → List (Nat × List Nat)
  | [] => []
  | e :: t => if e.1 + 15 ≤ m then [e] else e :: keepSinks m t

/-- A SINK record acknowledged, in force from the flip to an impression on (R185, R191, R196). -/
def Leaf.sunk (m applied : Nat) (data : List Byte) (l : Leaf) : Leaf :=
  let v := sinkOver data l.sinkAck
  { l with sinkAck := v, sinkLog := keepSinks m ((applied, v) :: l.sinkLog) }

/-- A RESULT ends its command (R331, R333). -/
def State.answer (k : Nat) (r : ResultRep) (s : State) : State :=
  match (s.leaf k).cmds.find? fun c => c.seq == r.seq && c.sent && !c.dead with
  | none => s
  | some c =>
    let s := s.modLeaf k fun l => { l with cmds := l.cmds.filter fun x => !(x.seq == r.seq && !x.dead), answered := max l.answered r.seq }
    let s := (if c.opcode = 3 then s.modLeaf k (Leaf.sunk s.imp.counter r.applied c.data) else s).pumpCmds k
    match c.item with
    | none => s
    | some id => s.answerItem id k r

/-- RESULT_REPORT. -/
def execResultReport (dt : Nat) (ins : Ins) (r : ResultRep) (s : State) : Host.Outcome State Fault Refusal :=
  .next ((s.elapse dt).onInsert ins 9 (resultBody r) fun s => s.answer (64 * ins.quire + ins.leaf) r)

/-- A command has had no RESULT by the commit deadline of m (R333). -/
def LCmd.expired (m : Nat) (c : LCmd) : Bool := if c.target = 0 then c.sent && decide (c.firstImp + 2 ≤ m) else decide (c.target + 2 ≤ m)

/-- A leaf command ends FAILED_NO_RESPONSE: GEOMETRY and SINK are to be sent again, unless a new session has sent them anew, and the descriptor that caused it ends (R188, R333, R335). -/
def State.expire (k : Nat) (c : LCmd) (s : State) : State :=
  let s := s.count (0x400 + 16 * (k / 64) + 13) 1
  let s := s.modLeaf k fun l => { l with geomSent := if c.opcode = 2 ∧ !c.dead then none else l.geomSent, sinkOwed := l.sinkOwed || (c.opcode == 3 && !c.dead) }
  match c.item with
  | none => s
  | some id =>
    match s.item? id with
    | none => s
    | some i => if i.opcode = 0x0404 then s else s.complete id .failedNoResponse 0 0 0 true

/-- The commands that end at the commit deadline of m. -/
def State.expireCmds (m : Nat) (s : State) : State :=
  s.leaves.foldl (fun s e =>
    let l := e.2.cmds.filter (LCmd.expired m)
    if l = [] then s
    else (l.foldl (fun s c => s.expire e.1 c) (s.modLeaf e.1 fun x => { x with cmds := x.cmds.filter fun c => !c.expired m })).pumpCmds e.1) s

/-- Unanswered commands sent again with the same SEQ: on both directions at a commit point, on the feeding one after a re-plan (R331). -/
def State.resendCmds (k : Nat) (feedOnly : Bool) (s : State) : State :=
  let l := s.leaf k
  (l.cmds.filter fun c => c.sent && !c.dead && s.cmdGoes k c).foldl
    (fun s c => (s.sendQ (k / 64) (if feedOnly then l.feed - 1 else 2) (.command (k % 64) c.seq c.opcode c.target c.data)).count (0x400 + 16 * (k / 64) + 12) 1) s

/-- A leaf in use to which its settings are owed is sent them whole (R185, R333, R533). -/
def State.sendSinks (m : Nat) (s : State) : State :=
  s.leaves.foldl (fun s e =>
    let l := s.leaf e.1
    if l.inUse && l.enrolled && !l.foreign && l.sinkOwed then
      ((s.modLeaf e.1 fun l => { l with sinkOwed := false }).sendCmd e.1 3 m (sinkData 31 l.sink) none).2
    else s) s

/-! ### FLIP reports and proofs -/

/-- P in force in 2^-16 ns. -/
def State.periodNow (s : State) : Nat := match s.tim.pUse with | none => 0 | some p => periodU p

/-- The leaf's codes of a slug at the generation it reports showing (R231): the newest one whose bit is set. -/
def State.shownCodes (s : State) (imp k sl : Nat) (gens : Half) : Nat × List Half :=
  match sortBy (fun a b => decide (b.gen ≤ a.gen)) (s.shown.filter fun x => x.imp == imp && x.leaf == k && x.slug == sl && bit gens x.gen) with
  | x :: _ => (x.gen, x.codes)
  | [] => (0, [])

/-- Entry f of the ages of a generation (R218, R221). -/
def Hdr.regionAge (h : Hdr) (g f : Nat) : Nat :=
  if g = 0 then nthD 0 h.ages f else nthD 0 (((h.genAges.find? fun e => e.1 == g).map (·.2)).getD []) f

/-- A lamp as the leaf drives it: whether it is a Frisket lamp, and its code (R221 to R224, R338). -/
def Hdr.lamp (h : Hdr) (r : FlipRep) (g : Nat) (p : Int × Int) (code : Half) : Bool × Half :=
  match maskAt h.mask p with
  | some f =>
    let age := min (h.regionAge g f + r.missed * h.pAge) 16777215
    (true, if bit r.flags 2 || bit r.flags 3 || bit r.flags 4 || decide (h.friskAge < age) then hatch h.invA h.invB p else code)
  | none => (false, if bit r.flags 4 || decide (h.hold < r.missed) then 0 else code)

/-- The lamps of a slug of a leaf as it drives them. -/
def State.drivenSlug (s : State) (h : Hdr) (k : Nat) (r : FlipRep) (sl : Nat) : List (Bool × Half) :=
  let c := s.shownCodes h.imp k sl r.gens
  ((tget {} h.setup.leaves k).slugLamps sl).zipIdx.map fun e => h.lamp r c.1 e.1.1 (nthD 0 c.2 e.2)

/-- Slugs of range j of a leaf of n slugs (R230). -/
def rangeSlugs (n j : Nat) : List Nat := (List.range ((j + 1) * n / 64 - j * n / 64)).map fun i => j * n / 64 + i

/-- The Frisket proof and the range proof the module expects (R228 to R231). -/
def State.expected (s : State) (h : Hdr) (k : Nat) (r : FlipRep) : Word × Word :=
  let g := tget {} h.setup.leaves k
  let fr := ((List.range g.slugs).filter fun sl => (g.slugLamps sl).any fun l => (maskAt h.mask l.1).isSome)
  (crcCodes (((fr.map (s.drivenSlug h k r)).flatten.filter (·.1)).map (·.2)), crcCodes (((rangeSlugs g.slugs (r.shown % 64)).map (s.drivenSlug h k r)).flatten.map (·.2)))

/-- A record group changed. -/
def State.modGroup (imp : Nat) (f : RecGroup → RecGroup) (s : State) : State :=
  let on (g : RecGroup) : RecGroup := if g.w.imp = imp then f g else g
  { s with groups := s.groups.map on }

/-- Proof mismatches since reset (Table 6-8). -/
def State.proofFault (imp k : Nat) (s : State) : State :=
  let add (g : RecGroup) : RecGroup := { g with proofLeaves := dedup (g.proofLeaves ++ [k]) }
  ({ s with imp := { s.imp with proofBad := satU 16 (s.imp.proofBad + 1) } } : State).modGroup imp add

/-- A Frisket proof that mismatched, or was missing three times (R229): the Frisket slugs go non-standing at the next impression (R239). -/
def State.friskMismatch (m : List (Nat × Nat × Nat × Nat × Nat)) (k : Nat) (det : List Nat) (s : State) : State :=
  let bad := s.friskSlugs m k
  ((s.modLeaf k fun l => { l with fproofBad := true, proofBad := dedup (l.proofBad ++ bad) }).raiseL .frisketProofMismatch (instOf 4 k) det false true).2

/-- A range proof that mismatched (R230). -/
def State.rangeMismatch (imp k n j : Nat) (s : State) : State :=
  (s.modLeaf k fun l => { l with rangeBad := true, proofBad := dedup (l.proofBad ++ rangeSlugs n j) }).raise .slugDeliveryFailed (instOf 4 k) [imp, j] false

/-- Both proofs of a report compared (R229 to R231). -/
def State.compareProofs (k : Nat) (r : FlipRep) (s : State) : State :=
  match s.groups.find? fun g => g.w.imp == r.sched, s.hdrs.find? fun h => h.imp == r.shown with
  | some g, some h =>
    if k ∈ g.reported ∨ !(s.leaf k).inUse then s
    else
      let e := s.expected h k r
      let heard (x : RecGroup) : RecGroup := { x with reported := k :: x.reported }
      let s := (s.modGroup r.sched heard).modLeaf k fun l => { l with fproofMissing := 0, fproofBad := false, rangeBad := false }
      let s := if e.1 = r.frisket then s else (s.proofFault r.sched k).friskMismatch h.mask k [e.1.toNat, r.frisket.toNat, r.sched]
      if e.2 = r.range then s else (s.proofFault r.sched k).rangeMismatch r.sched k (tget {} h.setup.leaves k).slugs (r.shown % 64)
  | _, _ => s

/-- A LEAF_FLIP_LATE episode starts (R346). -/
def State.flipLate (k : Nat) (s : State) : State :=
  if (s.leaf k).inUse && !(s.leaf k).lateEp then (s.modLeaf k fun l => { l with lateEp := true }).raise .leafFlipLate (instOf 4 k) [] true else s

/-- A FLIP report: the temperature (R189, R190), the flip (R346) and the proofs. -/
def State.flipped (k : Nat) (r : FlipRep) (s : State) : State :=
  let s := (s.modLeaf k fun l => { l with temp := r.temp, tempAt := s.clk, tempSeen := true, rejected := r.rejected, shows := r.shown }).overTemp k
  let s := if bit r.flags 0 then
      (if (s.leaf k).lateEp then (s.modLeaf k fun l => { l with lateEp := false }).clear .leafFlipLate (instOf 4 k) else s)
    else s.flipLate k
  if r.sched = s.imp.counter ∧ s.tim.time ≤ s.tim.tickAt + s.periodNow / 2 then (s.modLeaf k fun l => { l with lastFlip := r.sched }).compareProofs k r else s

/-- FLIP_REPORT. -/
def execFlipReport (dt : Nat) (ins : Ins) (r : FlipRep) (s : State) : Host.Outcome State Fault Refusal :=
  .next ((s.elapse dt).onInsert ins 9 (flipBody r) fun s => s.flipped (64 * ins.quire + ins.leaf) r)

/-- The report of a leaf for the impression shown has not come by P/2 after its flip (R346). -/
def State.flipMissing (s : State) (k : Nat) : Bool :=
  let l := s.leaf k
  l.inUse && !l.lateEp && decide (0 < s.imp.counter) && decide (s.tim.tickAt + s.periodNow / 2 ≤ s.tim.time) && decide (l.lastFlip ≠ s.imp.counter) &&
    decide (l.inUseFrom ≤ s.imp.counter)

/-- LEAF_FLIP_LATE. -/
def execLeafFlipLate (dt k : Nat) (s : State) : Host.Outcome State Fault Refusal :=
  let s := s.elapse dt
  .next (if s.flipMissing k then s.flipLate k else s)

/-- LEAF_LOST (R346): 8 impressions in a row, after the one in which the leaf was last heard and of those it was in use, brought no packet; at MAJOR or above an IN_SERVICE leaf becomes DEGRADED. -/
def execLeafLost (dt k : Nat) (s : State) : Host.Outcome State Fault Refusal :=
  let s := s.elapse dt
  let l := s.leaf k
  .next (if l.inUse && !l.lostEp && decide (max (l.lastHeard + 1) l.inUseFrom + 8 ≤ s.imp.counter) then
      let r := (s.modLeaf k fun l => { l with lostEp := true }).raiseL .leafLost (instOf 4 k) [] true true
      if 2 ≤ r.1 then r.2.modLeaf k fun l => { l with unit := l.unit.worse .degraded } else r.2
    else s)

/-! ### Other reports -/

/-- A SENSOR report (R195, R198): a reading of 0 is no measurement and changes nothing; the keeper pauses during a supervisor reset (R528). -/
def State.sensed (k : Nat) (q : List Word) (s : State) : State :=
  let v := (List.range 4).map fun c => (nthD 0 q c).toNat
  let s := s.modLeaf k fun l => { l with q := (List.range 4).map (fun c => if nthD 0 v c = 0 then nthD (0, 0) l.q c else (nthD 0 v c, s.clk)),
                                         reports := (List.range 4).map fun c => nthD 0 l.reports c + (if nthD 0 v c = 0 then 0 else 1) }
  if s.sys.supRun then s.keeper k v else s

/-- SENSOR_REPORT. -/
def execSensorReport (dt : Nat) (ins : Ins) (q : List Word) (s : State) : Host.Outcome State Fault Refusal :=
  .next ((s.elapse dt).onFirst ins 9 (sensorBody q) fun s => s.sensed (64 * ins.quire + ins.leaf) q)

/-- CHECKWORD_REPORT (R330): a leaf out of use is sent no slug it could report on (R19). -/
def execCheckwordReport (dt : Nat) (ins : Ins) (imp : Half) (gen slug : Nat) (s : State) : Host.Outcome State Fault Refusal :=
  let k := 64 * ins.quire + ins.leaf
  .next ((s.elapse dt).onFirst ins 9 (checkwordBody imp gen slug) fun s =>
    (((s.modLeaf k fun l => { l with checkwords := satU 16 (l.checkwords + 1) }).raise .leafCheckwordFault (instOf 4 k) [] false).stateConflict (instOf 4 k) (!(s.leaf k).inUse)))

/-- MIRROR_REPORT (R334). -/
def execMirrorReport (dt : Nat) (ins : Ins) (type part slug : Nat) (which : DWord) (s : State) : Host.Outcome State Fault Refusal :=
  .next ((s.elapse dt).onFirst ins 9 (mirrorBody type part slug which) fun s => s.raise .mirrorMismatch (instOf 4 (64 * ins.quire + ins.leaf)) [] false)

end Sys2Proof.Machine
end

