-- ==== Sys2Proof/Machine/Ring.lean ====
section
/-! DEFINITION. The counter-rotating rings: closure of each direction (R356, R357, R370), evidence and the re-plan (R360 to R367, R375), acknowledgements and replays (R241, R328, R366), quire.rebalance (R372, R373). -/

namespace Sys2Proof.Machine

open Sys2Proof

/-! ### Header parts -/

/-- The opening part of the impression in hand (Table 9-5). -/
def State.openingPkt (s : State) : QPkt :=
  let p := s.tim.pUse.getD (0, 1, 0)
  let m := s.mask
  let rect (r : Nat) : Nat × Nat × Nat × Nat := ((m.find? fun e => e.1 == r).map fun e => e.2).getD (0, 0, 0, 0)
  .opening s.m (s.win.tFlip / nsU) p.1 p.2.1 s.pUs (s.limit s.cmp.friskAge) s.cmp.hold s.cmp.invA s.cmp.invB (regionBits m) ((List.range 16).map rect)

/-- Announcements of a generation on a quire sent, or sent again (R157, R366). -/
def State.announceGen (q g : Nat) (s : State) : State :=
  match s.join? g with
  | none => s
  | some j => (j.regions.filter fun r => r.1 / 64 == q).foldl
      (fun s r => s.announce g (s.genAge j.layers j.tiles g j.regions q) (regionAgesOf j.layers s.win.tFlip) r) s

/-- A header part sent again while the quire runs (R366): 0 opening, 1 age, 1 + g announcements of generation g. -/
def State.resendPart (q p : Nat) (s : State) : State :=
  if !(s.quire q).ready then s
  else if p = 0 then s.sendPart q 0 s.openingPkt
  else if p = 1 then s.sendPart q 1 (.age s.m (s.ageTable q))
  else s.announceGen q (p - 1)

/-- Positions in use that must acknowledge a header part. -/
def State.partLeaves (s : State) (q p : Nat) : List Nat :=
  let used := s.usedLeaves q
  if p ≤ 1 then used
  else match s.join? (p - 1) with
    | none => []
    | some j => used.filter fun i => j.regions.any fun r => r.1 == 64 * q + i

/-- Some position has not acknowledged a header part. -/
def State.partOpen (s : State) (q p : Nat) : Bool := (s.partLeaves q p).any fun i => !decide ((i, p) ∈ (s.quire q).hdrAcks)

/-! ### Replay -/

/-- The replay interval (Table 10-6). -/
def State.replayU (s : State) : Nat := max 1 (s.regBits 0x7008 16 8) * (4 * usU)

/-- Copies may still start (R329). -/
def State.delivering (s : State) : Bool := s.win.open_ && !s.win.deadline

/-- The slug re-encoded literal for its later copies (R241). -/
def asLiteral (x : Slug) : Slug :=
  { x with method := 0, len := 8192, payload := literal x.codes, flags := if x.flags / 16 % 2 = 1 then x.flags else x.flags + 16, bytes := stagedBytes 8192 }

/-- A copy sent with REPLAY = 1 on the leaf's feed direction, or on both for a mirrored slug (R366). -/
def State.sendAgain (x : Slug) (d : Nat) (s : State) : State :=
  let q := x.leaf / 64
  let s := ((s.sendQ q d (x.pkt true)).count (0x402 + 16 * q) 1).modQuire q fun y => { y with replayed := y.replayed + 1 }
  let s := s.modSlug x.leaf x.slug x.imp x.gen fun _ => { x with sentOn := some d, sentAt := s.clk, order := s.slg.order, copies := x.copies + 1 }
  { s with slg := { s.slg with order := s.slg.order + 1 } }

/-- A slug replayed; from the second replay on it is literal, and its copy takes room of its own (R241, R257). Without room on its lane-end it waits (R33). -/
def State.replaySlug (x : Slug) (s : State) : State :=
  match s.slugDir x with
  | none => s
  | some d =>
    if !s.delivering || decide (x.imp ≠ s.m) then s
    else if !s.roomFor (if x.copies = 2 then asLiteral x else x) d then s.modSlug x.leaf x.slug x.imp x.gen fun y => { y with sentOn := none }
    else if x.copies ≠ 2 then s.sendAgain x d
    else
      match s.stage (x.leaf / 64) (stagedBytes 8192) with
      | none => s.failQuire (x.leaf / 64)
      | some (_, s) => ({ s with slg := { s.slg with reenc := satU 32 (s.slg.reenc + 1) } } : State).sendAgain (asLiteral x) d

/-- The slugs of a quire that wait for room on a lane-end sent as far as there is room, replays ahead of first copies (R33, R350). -/
def State.pumpSlugs (q : Nat) (s : State) : State :=
  if !s.delivering then s
  else
    let l := (s.stagedOf q).filter fun x => x.sentOn.isNone && !x.checking && !x.acked && !x.failed
    let s := (l.filter fun x => decide (0 < x.copies)).foldl (fun s x => s.replaySlug x) s
    (l.filter fun x => decide (x.copies = 0)).foldl (fun s x => s.sendSlug x) s

/-- REPLAY_TIMEOUT (R366): the slug named, and the header parts of its quire that are due. -/
def execReplayTimeout (dt k sl gen : Nat) (s : State) : Host.Outcome State Fault Refusal :=
  let s := s.elapse dt
  let q := k / 64
  let s1 := match s.slug? k sl gen with
    | none => s
    | some x => if x.waiting ∧ x.sentAt + s.replayU ≤ s.clk then s.replaySlug x else s
  .next ((if s.delivering then
      (s.quire q).hdrSent.foldl (fun t e => if e.2 + s.replayU ≤ s.clk ∧ s.partOpen q e.1 then t.resendPart q e.1 else t) s1
    else s1).pumpSlugs q)

/-! ### Acknowledgements -/

/-- The entry covers a slug of a leaf (Table 9-9). -/
def ackCovers (e : AckEntry) (k : Nat) (x : Slug) : Bool :=
  x.leaf == k && x.imp % 65536 == e.imp.toNat && x.gen == e.gen && x.slug / 64 == e.batch

/-- Two directions share a lane-end. -/
def sameDir (a b : Option Nat) : Bool :=
  match a, b with
  | some x, some y => x == y || x == 2 || y == 2
  | _, _ => false

/-- A gap in an entry: a slug sent after x on its direction is acknowledged in it, and x is not (R366). -/
def ackGap (e : AckEntry) (k : Nat) (l : List Slug) (x : Slug) : Bool :=
  ackCovers e k x && x.waiting && !bit e.bitmap (x.slug % 64) &&
    l.any fun y => ackCovers e k y && bit e.bitmap (y.slug % 64) && decide (x.order < y.order) && sameDir x.sentOn y.sentOn

/-- The slugs an entry acknowledges are marked (R328), and counted (Table 16-1). -/
def State.markAcked (e : AckEntry) (k : Nat) (s : State) : State :=
  let hit (x : Slug) : Bool := ackCovers e k x && x.waiting && bit e.bitmap (x.slug % 64)
  let on (x : Slug) : Slug := if hit x then { x with acked := true } else x
  ({ s with slg := { s.slg with slugs := s.slg.slugs.map on } } : State).count (0x403 + 16 * (k / 64)) (s.slg.slugs.filter hit).length

/-- Header parts an entry acknowledges, and those it leaves behind (R366). -/
def State.ackParts (e : AckEntry) (q i : Nat) (s : State) : State :=
  if e.imp.toNat ≠ s.m % 65536 then s
  else
    let got := (List.range 17).filter fun p => bit e.bitmap p
    let s := s.modQuire q fun x => { x with hdrAcks := dedup (x.hdrAcks ++ got.map fun p => (i, p)) }
    let sent := (s.quire q).hdrSent.map (·.1)
    let gaps := sent.zipIdx.filter fun a => decide (a.1 ∉ got) && decide (i ∈ s.partLeaves q a.1) && (sent.drop (a.2 + 1)).any fun b => decide (b ∈ got)
    if s.delivering then gaps.foldl (fun s a => s.resendPart q a.1) s else s

/-- One entry of an ACK. -/
def State.ackEntry (q i : Nat) (s : State) (e : AckEntry) : State :=
  let k := 64 * q + i
  if e.batch = 255 then s.ackParts e q i
  else
    let s := s.markAcked e k
    (s.slg.slugs.filter (ackGap e k s.slg.slugs)).foldl (fun s x => s.replaySlug x) s

/-- A leaf's state forbids an acknowledgement: any from a RETIRED leaf (R325), and one of slugs from a SPARE leaf, which is sent none (R19, R322). -/
def ackForbidden (u : Unit4) (es : List AckEntry) : Bool := decide (u = .retired) || (decide (u = .spare) && es.any fun e => e.batch != 255)

/-- ACK_RECEIVE (R19, R325, R328, R366). -/
def execAckReceive (dt : Nat) (ins : Ins) (entries : List AckEntry) (s : State) : Host.Outcome State Fault Refusal :=
  .next ((s.elapse dt).onFirst ins 8 (ackBody entries) fun s =>
    let k := 64 * ins.quire + ins.leaf
    let s := s.stateConflict (instOf 4 k) (ackForbidden (s.leaf k).unit entries)
    (entries.foldl (State.ackEntry ins.quire ins.leaf) s).pumpSlugs ins.quire)

/-! ### Closure -/

/-- The direction evidence is about (Table 10-1). -/
def Evid.dir : Evid → Nat
  | .laneLoss d => d
  | .leafU _ => 0
  | .leafD _ => 1
  | .unlocated d => d

/-- Evidence is located, or a lane loss (R375). -/
def Evid.located : Evid → Bool
  | .unlocated _ => false
  | _ => true

/-- A break sheet or BREAK. -/
def Evid.isBreak : Evid → Bool
  | .leafU _ => true
  | .leafD _ => true
  | _ => false

/-- Evidence that counts: three bad sheets only on a direction for which nothing else was gathered (Table 10-1, R375). -/
def countsIn (l : List Evid) (e : Evid) : Bool := e.located || !l.any fun x => x.located && x.dir == e.dir

/-- The stop evidence asks of its direction in a quire of n leaves; none is every leaf (R360). -/
def Evid.stop (n : Nat) : Evid → Option Int
  | .laneLoss _ => none
  | .leafU i => some (Int.ofNat i)
  | .leafD i => some (Int.ofNat i)
  | .unlocated d => if d = 0 then some 0 else some (Int.ofNat n - 1)

/-- A stop narrowed: A's toward 0, B's toward N - 1 (R360). -/
def narrow (d : Nat) (old new : Option Int) : Option Int :=
  match old, new with
  | a, none => a
  | none, some b => some b
  | some a, some b => some (if d = 0 then min a b else max a b)

/-- A quire with the reach of a direction narrowed by evidence. -/
def Quire.narrowed (n : Nat) (x : Quire) (e : Evid) : Quire :=
  let y := x.dir e.dir
  x.setDir e.dir { y with stop := narrow e.dir y.stop (e.stop n) }

/-- A closure failure (R357, R360, R370, R375). -/
def State.closure (q : Nat) (e : Evid) (s : State) : State :=
  let d := e.dir
  let x := s.quire q
  let y := x.dir d
  let n := s.nLeaves q
  if x.st = .off then s
  else
    let more := decide (((x.narrowed n e).dir d).stop ≠ y.stop)
    let first := decide (y.st = .closed)
    let y1 : Dir := { y with st := .open_, goodRun := 0, badRun := 0, broken := y.broken || e.isBreak, breakEp := y.breakEp || e.located, mismEp := y.mismEp || !e.located }
    let s := (s.setQuire q (x.setDir d y1))
    let s := if e.located && !y.breakEp then s.raise .quireBreak (instOf 3 (2 * q + d)) [] true
      else if !e.located && !y.mismEp then s.raise .quireClosureMismatch (instOf 3 (2 * q + d)) [] true
      else s
    let s := if first || decide (y.st = .healing) then s.traceQuire q d 1 else s
    if !first && !more then s
    else if x.st = .running then
      s.modQuire q fun x => { x with evid := x.evid ++ [e], evidAt := if x.evid = [] then s.clk else x.evidAt, replanning := true }
    else s.modQuire q fun x => x.narrowed n e

/-- REPLAN (R360, R361, R367): 1 µs after the first evidence. -/
def State.replan (q : Nat) (s : State) : State :=
  let x := s.quire q
  let n := s.nLeaves q
  let x1 := (x.evid.filter (countsIn x.evid)).foldl (Quire.narrowed n) x
  let s := s.setQuire q { x1 with evid := [], replanning := false, replans := satU 16 (x.replans + 1), replanTime := satU 16 ((s.clk - x.evidAt) / (10 * nsU)) }
  let old := (List.range 64).map fun i => (s.leaf (64 * q + i)).feed
  let s := (s.setPlan q fun i => nthD 0 old i).count (0x40A + 16 * q) 1
  let moved (k : Nat) : Bool := k / 64 == q && (s.leaf k).feed != nthD 0 old (k % 64)
  let l := sortBy (fun a b => decide (a.order ≤ b.order)) (s.slg.slugs.filter fun y => decide (y.imp = s.m) && moved y.leaf && y.waiting && !y.frisk)
  let s := l.foldl (fun s y => s.replaySlug y) s
  ((s.usedLeaves q).foldl (fun s i => s.resendCmds (64 * q + i) true) s).pumpSlugs q

/-- REPLAN. -/
def execReplan (dt q : Nat) (s : State) : Host.Outcome State Fault Refusal :=
  let s := s.elapse dt
  let x := s.quire q
  .next (if x.st = .running ∧ x.evid ≠ [] ∧ x.evidAt + usU ≤ s.clk then s.replan q else s)

/-- A sheet missing or mismatched on direction d (R356, R357): three in a row are a failure of their own where no break and no lane loss explains them (Table 10-1, R375). -/
def State.badSheet (q d : Nat) (s : State) : State :=
  let x := s.quire q
  let y := x.dir d
  let y1 : Dir := { y with badRun := y.badRun + 1, goodRun := 0, badAt := s.clk :: lastSec s.clk y.badAt }
  let s := (s.setQuire q (x.setDir d y1)).count (0x407 + 16 * q + d) 1
  if y1.badRun = 3 ∧ ¬y.broken ∧ s.endUp q (1 - d) then s.closure q (.unlocated d) else s

/-- A matched sheet: its delay, and OPEN to HEALING after 1,024 in a row (R356, R370). -/
def State.goodSheet (q d delay : Nat) (s : State) : State :=
  let x := s.quire q
  let y := x.dir d
  let heal := decide (y.st = .open_) && decide (1024 ≤ y.goodRun + 1)
  let y1 : Dir := { y with badRun := 0, broken := false, goodRun := y.goodRun + 1, delays := (delay :: y.delays).take 1024, st := if heal then .healing else y.st,
                           healAt := if heal then s.clk else y.healAt }
  let s := s.setQuire q (x.setDir d y1)
  if heal then s.traceQuire q d 3 else s

/-- Directions are 0 and 1. -/
def State.ringOn (s : State) (q d : Nat) : Bool := decide (q < 16) && decide (d < 2) && decide ((s.quire q).st ≠ .off)

/-- SEQ of a sheet of KIND 0 or 2 (R267, R269). -/
def dataSeq (seq : Nat) : Bool := decide (seq < 65520) && decide (seq % 20 ≠ 0)

/-- The lane that receives a direction: B-end's for A, A-end's for B (R263). -/
def State.rxLane (s : State) (q d : Nat) : Option Nat := s.endLane q (1 - d)

/-- An aligned receiver takes a valid nick pos sheets after the last one a row gave: a SEQ other than the one expected there is a slip (R274). -/
def State.takeNick (i pos seq : Nat) (s : State) : State :=
  let x := s.lane i
  let slip := match x.rxSeq with
    | some n => decide ((n + pos) % 65520 ≠ seq)
    | none => false
  let s := s.setLane i { x with rxSeq := some seq }
  if slip then s.count (0x503 + 8 * i) 1 else s

/-- SHEET_RECEIVE (R269, R274, R356): a SEQ the module did not send is ignored, and a lane that is not aligned takes no sheet. -/
def execSheetReceive (dt q d : Nat) (at_ : SheetPlace) (digest : Word) (errored : Bool) (s : State) : Host.Outcome State Fault Refusal :=
  let s := s.elapse dt
  .next (match s.rxLane q d with
    | none => s
    | some i =>
    if s.ringOn q d && dataSeq at_.seq && decide ((s.lane i).link = .up) then
      let r := (s.takeNick i at_.pos at_.seq).draw
      match Config.sentSheet q d at_.seq r.1 with
      | none => r.2
      | some (h, delay) => if h = digest ∧ !errored then r.2.goodSheet q d delay else r.2.badSheet q d
    else s)

/-- SHEET_MISSING (R356). -/
def execSheetMissing (dt q d seq : Nat) (s : State) : Host.Outcome State Fault Refusal :=
  let s := s.elapse dt
  .next (if s.ringOn q d && dataSeq seq then s.badSheet q d else s)

/-- The leaf reports its port lost (Table 10-6). -/
def Leaf.broken (port : Nat) (l : Leaf) : Leaf := if port = 0 then { l with breakU := true } else { l with breakD := true }

/-- BREAK_RECEIVE (R357, R358): a leaf without a session sends SESSION 0. -/
def execBreakReceive (dt : Nat) (ins : Ins) (b : BreakRep) (onSheet : Bool) (s : State) : Host.Outcome State Fault Refusal :=
  let s := s.elapse dt
  let q := ins.quire
  let ok := insCheckOk ins 10 (breakBody b) && !ins.errored && s.ringOn q 0 && decide (ins.leaf < s.nLeaves q) && decide (b.port < 2) && (decide (ins.session = (s.quire q).tag) || decide (ins.session = 0))
  let s := if onSheet then (if q < 16 then s.count (0x409 + 16 * q) 1 else s) else s.inserted ins 10 (breakBody b)
  .next (if ok then
      let s := s.modLeaf (64 * q + ins.leaf) (Leaf.broken b.port)
      let s := s.modQuire q fun x => x.setDir b.port { x.dir b.port with goodRun := 0 }
      s.closure q (if b.port = 0 then .leafU ins.leaf else .leafD ins.leaf)
    else s)

/-- A direction returns to CLOSED: a leaf in use whose feed is none takes this end and raises the epoch, a position without one takes it in silence (Table 10-4, R371; log entry 19). -/
def State.heal (q d : Nat) (s : State) : State :=
  let x := s.quire q
  let y := x.dir d
  let y1 : Dir := { y with st := .closed, stop := none, breakEp := false, mismEp := false }
  let s := s.setQuire q { x.setDir d y1 with standby := true }
  let s := (List.range (s.nLeaves q)).foldl (fun s i => s.modLeaf (64 * q + i) fun l => if d = 0 then { l with breakU := false } else { l with breakD := false }) s
  let old := (List.range 64).map fun i => (s.leaf (64 * q + i)).feed
  let given (i : Nat) : Nat := if nthD 0 old i = 0 then d + 1 else nthD 0 old i
  let s := if x.st ≠ .running then s
    else if (s.usedLeaves q).any fun i => nthD 0 old i == 0 then s.setPlan q given
    else (List.range (s.nLeaves q)).foldl (fun s i => s.modLeaf (64 * q + i) fun l => { l with feed := given i }) s
  let s := if y.breakEp then s.clear .quireBreak (instOf 3 (2 * q + d)) else s
  let s := if y.mismEp then s.clear .quireClosureMismatch (instOf 3 (2 * q + d)) else s
  (s.traceQuire q d 4).pumpSlugs q

/-- HEAL_COMPLETE. -/
def execHealComplete (dt q d : Nat) (s : State) : Host.Outcome State Fault Refusal :=
  let s := s.elapse dt
  let y := (s.quire q).dir d
  .next (if s.ringOn q d && decide (y.st = .healing) && decide (y.healAt + s.regBits 0x7008 0 10 * msU ≤ s.clk) then s.heal q d else s)

/-! ### quire.rebalance -/

/-- Refusals of quire.rebalance (R373). -/
def rebalanceRefusals (i : Item) (s : State) : List Refuse :=
  let d := i.desc
  [malformed (decide (15 < prm d 0 1 ∨ 3 < prm d 1 1 ∨ 64 < prm d 2 1) || decide (s.nLeaves (prm d 0 1) < prm d 2 1)),
   badState (decide ((s.quire (prm d 0 1)).st ≠ .running)) 0]

/-- QUIRE_REBALANCE (R373). -/
def execQuireRebalance (dt q : Nat) (desc auth : Slot) (s : State) : Host.Outcome State Fault Refusal :=
  .next ((s.elapse dt).takeCmd 0x0403 q desc auth true 0 rebalanceRefusals
    (fun i s => s.phase i.id .landing))

/-- The plan MODE asks for (R372). -/
def State.modePlan (s : State) (d : Slot) (i : Nat) : Nat :=
  let m := prm d 1 1
  if m = 0 then splitAt (s.balancedK (prm d 0 1)) i else if m = 1 then 1 else if m = 2 then 2 else splitAt (prm d 2 1) i

/-- Step 2: the plan applied at the commit point of m; what DETAIL and RESULT will say is kept (R373). -/
def State.rebalPlan (i : Item) (det m : Nat) (s : State) : State :=
  let q := prm i.desc 0 1
  let f := (List.range 64).map (s.modePlan i.desc)
  let adj := (s.usedLeaves q).any fun p => (s.quire q).adjust p (nthD 0 f p) != nthD 0 f p
  let s := (s.setPlan q fun p => nthD 0 f p).modQuire q fun x => { x with standby := false, rebal := none }
  let landed (x : Item) : Item := { x with phase := .landed, landedAt := m, aux := det + 4 * b2n adj, applied := (s.quire q).epoch.toNat }
  (s.modItem i.id landed).traceQuire q 0 5

/-- The spare that carries an end whose working lane is restored (R291, R372). -/
def State.carried (s : State) (q d : Nat) : Option Nat :=
  match s.endLane q d with
  | none => none
  | some l => if (s.lane l).subst && (s.lane (workingOf l (s.lane l))).standby then some l else none

/-- An end moved from a spare to its working lane, still on trial: it stands by until it is judged. -/
def State.toWorking (sp : Nat) (s : State) : State :=
  let x := s.lane sp
  let w := workingOf sp x
  let s := (s.stopLane sp).modLane sp fun y => { y with unit := .spare, subst := false, for_ := 0, gen := nextGen y.gen }
  ((s.modLane w fun y => { y with unit := .inService, gen := nextGen y.gen }).startLane w x.func x.quire).noteRecord

/-- An end moved back to the spare. -/
def State.toSpare (w : Nat) (s : State) : State :=
  let x := s.lane w
  let s := (s.stopLane w).modLane w fun y => { y with unit := .spare, gen := nextGen y.gen }
  ((s.modLane (spareOf w) fun y => { y with unit := .inService, subst := true, for_ := w % 5, gen := nextGen y.gen }).startLane (spareOf w) x.func x.quire).noteRecord

/-- A quire.rebalance of the quire that i finds waiting: one in step 1, or one taken earlier with a later target (R373). -/
def rebalWaiting (i x : Item) : Bool :=
  x.opcode == 0x0403 && prm x.desc 0 1 == prm i.desc 0 1 && (decide (x.phase = .leaves) || (decide (x.phase = .landing) && decide (x.id < i.id)))

/-- quire.rebalance lands (R372): ends on spares are moved first, and the plan waits for them; ends still on trial for a superseded command stay on their trial. -/
def State.landRebalance (i : Item) (m : Nat) (s : State) : State :=
  let q := prm i.desc 0 1
  let s := (s.hif.items.filter (rebalWaiting i)).foldl (fun s x => s.refuse x.id .superseded 0) s
  let ends := [0, 1].filterMap fun d => (s.carried q d).map fun sp => (d, sp)
  let trial : Option Nat := match (s.quire q).rebal with
    | some (_, _, t + 1) => some t
    | _ => none
  if ends = [] ∧ trial = none then s.rebalPlan i 0 m
  else
    let s := ends.foldl (fun s e => (s.setPlan q fun _ => 2 - e.1).toWorking e.2) s
    let wait (x : Item) : Item := { x with phase := .leaves, landedAt := m }
    (s.modQuire q fun x => { x with rebal := some (i.id, 0, (if ends = [] then trial.getD s.clk else s.clk) + 1) }).modItem i.id wait

/-- Step 2 for the quires whose step 1 is judged. -/
def State.rebalReady (m : Nat) (s : State) : State :=
  (List.range 16).foldl (fun s q =>
    match (s.quire q).rebal with
    | some (id, det, 0) =>
      match s.item? id with
      | some i => s.rebalPlan i det m
      | none => s.modQuire q fun x => { x with rebal := none }
    | _ => s) s

/-- An end on trial is judged: it stays when its lane is UP and both directions are CLOSED. -/
def State.judgeEnd (q : Nat) (r : Nat × State) (d : Nat) : Nat × State :=
  let (det, s) := r
  match s.endLane q d with
  | none => r
  | some w =>
    if !(s.lane w).standby || w % 5 == 4 then r
    else
      let x := s.quire q
      if s.endUp q d ∧ x.dirA.st = .closed ∧ x.dirB.st = .closed then (det ||| 1, s.modLane w fun y => { y with standby := false })
      else (det ||| 2, s.toSpare w)

/-- REBALANCE_LANE_CHECK (R372): 50 ms after the ends moved. -/
def execRebalanceLaneCheck (dt q : Nat) (s : State) : Host.Outcome State Fault Refusal :=
  let s := s.elapse dt
  .next (match (s.quire q).rebal with
    | some (id, _, t + 1) =>
      if t + 50 * msU ≤ s.clk then
        let r := [0, 1].foldl (State.judgeEnd q) (0, s)
        r.2.modQuire q fun x => { x with rebal := some (id, r.1, 0) }
      else s
    | _ => s)

end Sys2Proof.Machine
end

