-- ==== Sys2Proof/Machine/Landing.lean ====
section
/-! DEFINITION. What lands on the scene at a commit point and what the press is charged for it: commands and groups in take order (R131, R137, R145 to R148, R160, R162), fences missed (R141), sampling (R135, R161), the changes (R150), the charge (R151, R152), and the work they make (R153, R154). -/

namespace Sys2Proof.Machine

open Sys2Proof

/-! ### What lands -/

/-- A change of the scene that lands as one unit: an ungrouped command, or a group with its scene.commit. -/
structure Land where
  items : List Item
  commit : Option Item := none
  deriving DecidableEq, Repr

/-- Items of a unit, the scene.commit last. -/
def Land.all (l : Land) : List Item := l.items ++ l.commit.toList

/-- Keys a unit changes. -/
def Land.keys (l : Land) : List Nat := dedup ((l.items.map itemKeys).flatten)

/-- Wall settings of a scene.commit put in force (R146, Table 4-8). -/
def wallSet (d : Slot) (c : Cmp) : Cmp :=
  { c with hold := prm d 2 1, friskAge := prm d 4 3, invA := BitVec.ofNat 16 (prm d 8 2), invB := BitVec.ofNat 16 (prm d 10 2) }

/-- One member applied to the layers. -/
def landItem (m : Nat) (ls : Tab Layer) (i : Item) : Tab Layer :=
  if dOp i.desc = 0x0104 then tmod {} ls (lyrKey i.desc) (landVer i.ver m) else applyCmd i ls

/-- A unit applied to the scene and the wall settings. -/
def landUnit (m : Nat) (c : Cmp) (l : Land) : Cmp :=
  let c1 : Cmp := { c with layers := l.items.foldl (landItem m) c.layers }
  match l.commit with
  | some i => if cmWall i.desc then wallSet i.desc c1 else c1
  | none => c1

/-- Every member of a group is staged. -/
def staged (ms : List Item) : Bool := ms.all fun i => decide (i.phase = .held)

/-- The scene commands due at the commit point of m: ungrouped layer commands, and the scene.commits. -/
def State.sceneDue (s : State) (m : Nat) : List Item :=
  s.hif.items.filter fun i => decide (i.phase = .landing) && decide (i.target ≤ m) && !s.heldBack i && ((isLayerOp (dOp i.desc) && grpNo i.desc == 0) || dOp i.desc == 0x0110)

/-- The units that can land at the commit point of m, in take order (R137): a group only when all its members are staged (R147). -/
def State.units (s : State) (m : Nat) : List Land :=
  (s.sceneDue m).filterMap fun i =>
    if dOp i.desc = 0x0110 then (if staged (s.members i.id) then some { items := s.members i.id, commit := some i } else none)
    else some { items := [i] }

/-- A unit refused at its commit point: each of its commands ends with the status (R131, R148, R160). -/
def State.refuseUnit (l : Land) (st : Status) (det : Nat) (s : State) : State := s.endGroup l.all st det 0

/-- Why a unit may not land on a scene, if so: R131, then R32, then R160, then R162. -/
def State.landRefusal (s : State) (ls : Tab Layer) (frisk : Bool) : Option (Status × Nat) :=
  if !s.depthOk ls then some (.refusedCapacity, 1)
  else if s.egressBad then some (.refusedCapacity, 2)
  else if frisk && friskOverlap ls then some (.refusedState, 6)
  else if frisk && s.friskHeavy ls then some (.refusedCapacity, 1)
  else none

/-- The units that pass the limits judged at the commit point, in order; the others are refused. -/
def State.admitUnits (m : Nat) : List Land → State → List Land × State
  | [], s => ([], s)
  | l :: t, s =>
    let c := landUnit m s.cmp l
    match s.landRefusal c.layers (l.keys.any fun k => decide (64 ≤ k)) with
    | some (st, det) => State.admitUnits m t (s.refuseUnit l st det)
    | none =>
      let r := State.admitUnits m t { s with cmp := c }
      (l :: r.1, r.2)

/-! ### Fences missed -/

/-- A fence not reached is a miss (R141): DELAYED for the write, or its scene.commit, and FENCE_LATE on the first; the last miss ends it with the commit point missed (Table 2-11). -/
def State.missFence (m : Nat) (i : Item) (s : State) : State :=
  let missed (x : Item) : Item := { x with misses := x.misses + 1 }
  let s := s.modItem i.id missed
  let s := if i.misses = 0 then s.raise .fenceLate (instOf 8 (lyrKey i.desc)) [] false else s
  let s := match i.commitId with
    | none => s.delay i.id m
    | some c => s.delay c m
  if wrTimeout i.desc ≤ i.misses + 1 then
    match i.commitId with
    | none => s.complete i.id .failedDeadline 0 m 0 false
    | some c => (s.endGroup (s.members c) .failedDeadline 0 m).complete c .failedDeadline 0 m 0 false
  else s

/-- The fenced writes that could have used the commit point of m: ungrouped ones due, and members of groups due. -/
def State.missFences (m : Nat) (s : State) : State :=
  let due (i : Item) : Bool := match i.commitId with
    | none => decide (grpNo i.desc = 0) && decide (i.target ≤ m)
    | some c => (s.sceneDue m).any fun x => x.id == c
  (s.hif.items.filter fun i => decide (i.phase = .fencing) && due i).foldl (fun s i => if (s.item? i.id).isSome then s.missFence m i else s) s

/-- A group that misses its commit point writes DELAYED to its scene.commit (R147). -/
def State.delayGroups (m : Nat) (s : State) : State :=
  (s.sceneDue m).foldl (fun s i => if dOp i.desc = 0x0110 ∧ !staged (s.members i.id) then s.delay i.id m else s) s

/-! ### Sampling -/

/-- Every layer samples for impression m (R135, R161). -/
def State.sampleAll (m t flip : Nat) (s : State) : State :=
  { s with cmp := { s.cmp with layers := s.cmp.layers.foldl (fun ls e => tput {} ls e.1 (s.sampleLayer e.1 e.2 m t flip)) s.cmp.layers } }

/-- The keys of two scenes. -/
def keysOf (a b : Tab Layer) : List Nat := dedup (a.map (·.1) ++ b.map (·.1))

/-- Keys that change at the commit point (R150): by content or policy, by a command that lands, or all placed layers when all changes. -/
def changing (all : Bool) (old new : Tab Layer) (landed : List Land) : List Nat :=
  (keysOf old new).filter fun k =>
    let a := tget {} old k
    let b := tget {} new k
    contentChanged a b || (landed.any fun l => decide (k ∈ l.keys)) || (all && decide (b.st = .placed))

/-- Layers whose tone set has changed. -/
def State.toneKeys (s : State) (old : Tab Word) : List Nat :=
  (s.cmp.layers.filter fun e => (List.range 3).any fun j =>
    let o := 0x2100 + 16 * e.2.tone + 4 * j
    decide (tget (rwReset o) old o ≠ s.toneReg o)).map (·.1)

/-! ### The charge (R151) -/

/-- A changing layer or group, or tiles held at an earlier cutoff, as R151 charges them. -/
structure Change where
  keys : List Nat
  frisk : Bool
  cls : Nat
  z : Nat
  num : Nat
  /-- tiles held earlier: never shed (R152) -/
  held : Bool := false
  /-- the scene.commit of a group -/
  group : Option Nat := none
  items : List Nat := []
  tiles : List Nat := []
  deriving DecidableEq, Repr

/-- Class, z-order and number a set of keys is charged at (R29, R148): the best class and the highest z-order of its layers. -/
def rankOf (ls : Tab Layer) (ks : List Nat) : Nat × Nat × Nat :=
  let l := ks.map (tget {} ls)
  ((l.map (·.cls)).foldl min 3, maxD 0 (l.map (·.z)), maxD 0 ks)

/-- A change with its place in the charge, which the layers `by_` give. -/
def mkChange (ls : Tab Layer) (by_ ks : List Nat) (held : Bool) (group : Option Nat) (items tiles : List Nat) : Change :=
  let r := rankOf ls by_
  { keys := ks, frisk := by_.any fun k => decide (64 ≤ k), cls := r.1, z := r.2.1, num := r.2.2, held := held, group := group, items := items, tiles := tiles }

/-- A scene in which the layers of held tiles that are FREE by now have the class and z-order they had (R152). -/
def rankedScene (ls : Tab Layer) (jobs : List Job) : Tab Layer :=
  (jobs.map (·.ranks)).flatten.foldl (fun t r => if (tget {} ls r.1).st = .free then tput {} t r.1 { cls := r.2.1, z := r.2.2 } else t) ls

/-- The charge order: Frisket first, then by class, z-order, number; held tiles ahead of new changes (R151, R152, R162). -/
def Change.before (a b : Change) : Bool :=
  if a.frisk ≠ b.frisk then a.frisk
  else if a.cls ≠ b.cls then decide (a.cls < b.cls)
  else if a.z ≠ b.z then decide (b.z < a.z)
  else if a.num ≠ b.num then decide (b.num < a.num)
  else a.held || !b.held

/-- Held tiles as changes (R150, R152): one for each group, one for each layer whose held change they carry, and one for each tile that carries none (a poisoned tile, or one of a new canvas), in the place of the layers contributing in it. -/
def State.heldChanges (s : State) (ls : Tab Layer) (jobs : List Job) : List Change :=
  let rs := rankedScene ls jobs
  let gs := dedup (jobs.filterMap (·.group))
  let free := jobs.filter fun j => j.group.isNone
  let top := (drawOrder ls).reverse
  (gs.map fun g => let l := jobs.filter fun j => j.group == some g
    let ks := dedup (l.map (·.layers)).flatten
    mkChange rs ks ks true (some g) (dedup (l.map (·.items)).flatten) (dedup (l.map (·.tile)))) ++
  ((dedup (free.map (·.layers)).flatten).map fun k => let l := free.filter fun j => decide (k ∈ j.layers)
    mkChange rs [k] [k] true none (dedup (l.map (·.items)).flatten) (dedup (l.map (·.tile)))) ++
  (dedup ((free.filter fun j => decide (j.layers = [])).map (·.tile))).map fun t =>
    mkChange ls ((s.tileLayers solidNow top t).map (·.1)) [] true none [] [t]

/-- The tiles of a new canvas that no layer placed on it touches (R150; log entry 94). -/
def State.bareTiles (s : State) (ls : Tab Layer) : List Job :=
  let top := (drawOrder ls).reverse
  ((List.range s.nTiles).filter fun t => decide (s.tileLayers solidNow top t = [])).map fun t => { tile := t, layers := [] }

/-- New changes: one for each group, one for each layer with commands of its own, and one for each other layer that changes. -/
def State.newChanges (s : State) (old : Tab Layer) (ks : List Nat) (landed : List Land) : List Change :=
  let ls := s.cmp.layers
  let gs := landed.filter fun l => l.commit.isSome && decide (l.items ≠ [])
  let inGroup (k : Nat) : Bool := gs.any fun g => decide (k ∈ g.keys)
  let own (k : Nat) : List Item := ((landed.filter fun l => l.commit.isNone && decide (k ∈ l.keys)).map Land.items).flatten
  let mk (k : List Nat) (g : Option Nat) (is : List Item) : Change := mkChange ls k k false g (is.map (·.id)) (s.changeTiles old ls k)
  (gs.map fun g => mk g.keys (g.commit.map (·.id)) g.all) ++
  (ks.filter fun k => !inGroup k || decide (own k ≠ [])).map fun k => mk [k] none (own k)

/-- The state of a charge: tiles charged in order, cycles used, keys served, and the changes served, held and shed (with the DETAIL). -/
structure Charge where
  tiles : List Nat := []
  used : Nat := 0
  keys : List Nat := []
  served : List Change := []
  stay : List Change := []
  shed : List (Change × Nat) := []
  deriving DecidableEq, Repr

/-- dram_ok of R151 for the ordinary layers served (log entry 13). -/
def State.dramOk (s : State) (ks : List Nat) : Bool :=
  decide (sumN ((ks.filter fun k => decide (k < 64)).map fun k => s.readBytes (tget {} s.cmp.layers k)) * nsU ≤ 1350 * s.pressWindow)

/-- One change charged, held or shed. -/
def State.charge (s : State) (c : Charge) (x : Change) : Charge :=
  let add := x.tiles.filter fun t => !decide (t ∈ c.tiles)
  let cost := s.costOf s.cmp.layers add
  let keys := dedup (c.keys ++ x.keys)
  let fits := decide (c.used + cost ≤ s.pressCap)
  if x.frisk || (fits && s.dramOk keys) then { c with tiles := c.tiles ++ add, used := c.used + cost, keys := keys, served := c.served ++ [x] }
  else if x.held then { c with stay := c.stay ++ [x] }
  else { c with shed := c.shed ++ [(x, if fits then 3 else 1)] }

/-- The whole charge of a commit point. -/
def State.chargeAll (s : State) (l : List Change) : Charge := (sortBy Change.before l).foldl s.charge {}

/-- Tiles that only NO_SKIP selects, charged last as far as they fit (R150). -/
def State.chargeSkip (s : State) (c : Charge) : List Nat × Nat :=
  if s.regBit 0x2004 0 then
    (List.range s.nTiles).foldl (fun a t => if t ∈ c.tiles then a
      else
        let k := s.tileCost s.cmp.layers t
        if a.2 + k ≤ s.pressCap then (a.1 ++ [t], a.2 + k) else a) ([], c.used)
  else ([], c.used)

/-! ### Work -/

/-- Groups of the work: root group, tiles. Groups that share a tile are resolved as one (R154). -/
def mergeGroup (gs : List (Nat × List Nat)) (g : Nat) (ts : List Nat) : List (Nat × List Nat) :=
  let hit := gs.filter fun e => e.2.any fun t => decide (t ∈ ts)
  (gs.filter fun e => !(e.2.any fun t => decide (t ∈ ts))) ++ [((hit.head?.map (·.1)).getD g, dedup ((hit.map (·.2)).flatten ++ ts))]

/-- The groups among some changes. -/
def groupsOf (l : List Change) : List (Nat × List Nat) :=
  l.foldl (fun a x => match x.group with | some g => mergeGroup a g x.tiles | none => a) []

/-- The group a tile belongs to. -/
def groupAt (gs : List (Nat × List Nat)) (t : Nat) : Option Nat := (gs.find? fun g => decide (t ∈ g.2)).map (·.1)

/-- Tiles in order, those of one group one after another (R154). -/
def inGroups (gs : List (Nat × List Nat)) (ts : List Nat) : List Nat :=
  ts.foldl (fun a t =>
    if t ∈ a then a
    else match gs.find? fun g => decide (t ∈ g.2) with
      | some g => a ++ (ts.filter fun u => decide (u ∈ g.2))
      | none => a ++ [t]) []

/-- The job of a tile for some changes, with the group it is resolved with; `was` lists the layers it shows as at m-1. -/
def jobFor (ls : Tab Layer) (l : List Change) (gs : List (Nat × List Nat)) (was : List Nat) (t : Nat) : Job :=
  let l := l.filter fun x => decide (t ∈ x.tiles)
  let ks := dedup (l.map (·.keys)).flatten
  { tile := t, layers := ks, ranks := ks.map (fun k => (k, (tget {} ls k).cls, (tget {} ls k).z)), was := was, group := groupAt gs t, items := dedup (l.map (·.items)).flatten }

/-- The jobs of an impression (R150, R153, R154, R162): Frisket tiles first, then the others in charge order, then the NO_SKIP tiles. A Frisket tile that an ordinary group also touches is composed twice, first with the group's layers as at m-1, so that ordinary work never holds it (log entry 95). -/
def jobsOf (ls : Tab Layer) (c : Charge) (extra : List Nat) : List Job :=
  let all := c.served ++ c.stay
  let fs := c.served.filter (·.frisk)
  let gf := groupsOf fs
  let go := groupsOf (c.served.filter fun x => !x.frisk)
  let isF (t : Nat) : Bool := fs.any fun x => decide (t ∈ x.tiles)
  let ordinary (x : Change) : Bool := x.group.isSome && !x.frisk
  let first (t : Nat) : Job :=
    let apart := (groupAt go t).isSome
    let was := dedup ((all.filter fun x => apart && ordinary x && decide (t ∈ x.tiles)).map (·.keys)).flatten
    jobFor ls (all.filter fun x => !(apart && ordinary x)) gf was t
  let second (t : Nat) : Job := jobFor ls (all.filter fun x => !isF t || ordinary x) go [] t
  (inGroups gf (c.tiles.filter isF)).map first ++ (inGroups go (c.tiles.filter fun t => !isF t || (groupAt go t).isSome)).map second ++
    extra.map fun t => { tile := t, layers := [], extra := true }

/-- The jobs held that were not charged, kept for the next commit point (R152). -/
def keptJobs (held : List Job) (stay : List Change) (charged : List Nat) : List Job :=
  held.filter fun j => !decide (j.tile ∈ charged) && stay.any fun x => decide (j.tile ∈ x.tiles)

/-! ### The scene at a commit point -/

/-- A counter of a layer, by its number in the record (Table 16-1). -/
def State.layerCount (k n : Nat) (s : State) : State := s.count (0x300 + 4 * layerNo k + n) 1

/-- A layer as shed, with the content it sampled for the impression before when it has one (R152). -/
def State.shedLayer (old : Tab Layer) (flip k : Nat) (s : State) : State :=
  let l := s.layer k
  if l.st = .free then s
  else
    let o := tget {} old k
    let l := if o.st = .free ∨ o.st = .removing then l else s.sampleHeld k o { l with cap := o.cap } flip
    s.setLayer k { l with shed := true, capWas := o.cap }

/-- Sheds reported: LAYER_REFUSED, the record's SHED, SCHED (R152). -/
def State.reportShed (m : Nat) (x : Change × Nat) (s : State) : State :=
  x.1.keys.foldl (fun s k =>
    let s := (s.raise .layerRefused (instOf 8 k) [] false).layerCount k 1
    let s : State := { s with win := { s.win with shed := setBit s.win.shed (layerNo k) true } }
    s.traceSched k (if x.2 = 3 then 3 else 2) x.1.cls (s.costOf s.cmp.layers x.1.tiles) x.1.tiles.length m) s

/-- A unit is part of a shed change. -/
def shedUnit (shed : List (Change × Nat)) (l : Land) : Option Nat :=
  (shed.find? fun x => l.all.any fun i => decide (i.id ∈ x.1.items)).map (·.2)

/-- The items a change touches, with its tiles (R258). -/
def touches (l : List Change) (t : Tab (List Nat)) : Tab (List Nat) :=
  l.foldl (fun t x => x.items.foldl (fun t i => tmod [] t i fun o => dedup (o ++ x.tiles)) t) t

/-- The items of units that landed at m. -/
def State.markLanded (m : Nat) (ls : List Land) (s : State) : State :=
  let on (i : Item) : Item := if ls.any fun l => l.all.any fun x => x.id == i.id then { i with phase := .landed, landedAt := m } else i
  { s with hif := { s.hif with items := s.hif.items.map on } }

/-- A FRISKET_AGE_EXCEEDED episode of a region starts or ends (R161). -/
def State.friskEpisode (k : Nat) (s : State) : State :=
  let l := s.layer k
  let live := decide (l.st = .defined) || decide (l.st = .placed)
  if live && l.overAge && !l.ageEp then (s.setLayer k { l with ageEp := true }).raise .frisketAgeExceeded (instOf 8 k) [l.cap.age s.win.tFlip] true
  else if l.ageEp && !(live && l.overAge) then (s.setLayer k { l with ageEp := false }).clear .frisketAgeExceeded (instOf 8 k)
  else s

/-- Layer numbers of the keys a test picks, each once. -/
def numsOf (ls : Tab Layer) (p : Nat → Layer → Bool) : List Nat := dedup ((ls.filter fun e => p e.1 e.2).map fun e => layerNo e.1)

/-- Flags, counters and SCHED of the layers after the charge. -/
def State.layerMarks (m : Nat) (old : Tab Layer) (c : Charge) (s : State) : State :=
  let ls := s.cmp.layers
  let s := (numsOf ls fun k l => newContent (tget {} old k) l && decide (l.sample ≠ .none)).foldl (fun s n => s.layerCount n 0) s
  let s := (numsOf ls fun _ l => l.overAge || l.frozen).foldl (fun s n =>
    ({ s with win := { s.win with overAge := setBit s.win.overAge n true } } : State).layerCount n 3) s
  let s := ls.foldl (fun s e => if 64 ≤ e.1 then s.friskEpisode e.1 else s) s
  c.served.foldl (fun s x => x.keys.foldl (fun s k => s.traceSched k 1 x.cls (s.costOf s.cmp.layers x.tiles) x.tiles.length m) s) s

/-- SHED is judged afresh at every commit point. -/
def unshed (l : Layer) : Layer := { l with shed := false }

/-- Every layer of a scene changed. -/
def mapLayers (f : Layer → Layer) (ls : Tab Layer) : Tab Layer := ls.foldl (fun t e => tput {} t e.1 (f e.2)) ls

/-- The versions of a unit that does not land, discarded (R140, R147). -/
def withdraw (ls : Tab Layer) (l : Land) : Tab Layer :=
  l.items.foldl (fun ls i => if dOp i.desc = 0x0104 then tmod {} ls (lyrKey i.desc) (discardVer i.ver) else ls) ls

/-- A wall-only scene.commit ends where its settings land. -/
def State.endWalls (m : Nat) (ls : List Land) (s : State) : State :=
  ls.foldl (fun s l => if l.items = [] then (match l.commit with | some i => s.done i.id m 0 | none => s) else s) s

/-- The units shed at the charge end (R151). -/
def State.refuseShed (shed : List (Change × Nat)) (landed : List Land) (s : State) : State :=
  landed.foldl (fun s l => match shedUnit shed l with | some d => s.refuseUnit l .refusedCapacity d | none => s) s

/-- The scene without the units that were shed, landed again on the scene before; a unit that no longer passes the limits there is refused too (R131). The units that stay are returned. -/
def State.relandScene (m t flip : Nat) (before : Cmp) (keep gone : List Land) (s : State) : List Land × State :=
  let base : Cmp := { s.cmp with layers := gone.foldl withdraw before.layers, friskAge := before.friskAge, invA := before.invA, invB := before.invB, hold := before.hold }
  let r := State.admitUnits m keep { s with cmp := base }
  (r.1, r.2.sampleAll m t flip)

/-- The scene once the press has shed changes: as it stands where it shed none. -/
def State.afterShed (m t flip : Nat) (before : Cmp) (shed : List (Change × Nat)) (keep gone : List Land) (s : State) : List Land × State :=
  if shed = [] then (keep, s) else s.relandScene m t flip before keep gone

/-- The work of impression m: its capacity, jobs and held tiles, and the regions of its window. -/
def State.setWork (m flip : Nat) (before : Cmp) (held : List Job) (c : Charge) (s : State) : State :=
  let ex := s.chargeSkip c
  let s := s.layerMarks m before.layers c
  { s with
    cmp := { s.cmp with
      cap := s.pressCap, used := ex.2, jobs := jobsOf s.cmp.layers c ex.1, heldTiles := keptJobs held c.stay c.tiles, side := [], prev := before.layers,
      touch := touches (c.served ++ c.stay) [], byEngine := [], layers := mapLayers (fun l => keepVers l m) s.cmp.layers }
    win := { s.win with regionAges := regionAgesOf s.cmp.layers flip, regions := regionBits (maskOf s.cmp.layers) } }

/-- The scene of impression m: what lands, what it samples, what the press is charged for, and the work. `canvas` tells of a new canvas and `all` of a new CMP_WALL; tone is what the tone registers held before. The number of layers that change is returned. -/
def State.composeScene (m t flip : Nat) (canvas all : Bool) (tone : Tab Word) (s : State) : Nat × State :=
  let s : State := { s with cmp := { s.cmp with layers := mapLayers unshed s.cmp.layers } }
  let s := (s.missFences m).delayGroups m
  let before := s.cmp
  let us := s.units m
  let r := State.admitUnits m us s
  let landed := r.1
  let wall := landed.any fun l => match l.commit with | some i => cmWall i.desc | none => false
  let s1 := r.2.sampleAll m t flip
  let ks := dedup (changing (canvas || all || wall) before.layers s1.cmp.layers landed ++ s1.toneKeys tone)
  let held := before.heldTiles ++ (if canvas then s1.bareTiles s1.cmp.layers else [])
  let c := s1.chargeAll (s1.heldChanges s1.cmp.layers held ++ s1.newChanges before.layers ks landed)
  let pass := landed.filter fun l => (shedUnit c.shed l).isNone
  let s2 := s1.refuseShed c.shed landed
  let r3 := s2.afterShed m t flip before c.shed pass (us.filter fun l => !decide (l ∈ pass))
  let keep := r3.1
  let s4 := (dedup ((c.shed.map fun x => x.1.keys).flatten)).foldl (fun s k => s.shedLayer before.layers flip k) r3.2
  let s5 := c.shed.foldl (fun s x => s.reportShed m x) s4
  let s6 := s5.setWork m flip before held c
  let s7 := (s6.markLanded m (keep.filter fun l => decide (l.items ≠ []))).endWalls m keep
  (ks.length, ((s7.supersedeAt m).resumeWrites).dispatchAll)

end Sys2Proof.Machine
end

