-- ==== Sys2Proof/Machine/Commit.lean ====
section
/-! DEFINITION. The commit point of an impression (R20 to R22, R137, R138): the window opens, set-ups and shadowed registers come into force, commands land in take order, the scene is composed, the references are settled (R239), and the opening parts go out (R309, R350, R353). -/

namespace Sys2Proof.Machine

open Sys2Proof

/-- Tick k of a schedule, rounded down to the time unit (R20, R391). -/
def tickTime (p : Nat × Nat × Nat) (k : Nat) : Nat := p.2.2 * nsU + k * p.1 * secU / max 1 p.2.1

/-- The next tick. -/
def State.nextTick (s : State) : Nat :=
  match s.tim.pUse with
  | none => s.tim.tickAt
  | some p => tickTime p (s.tim.tickK + 1)

/-- The window of the next impression opens. -/
def State.openWindow (s : State) : State :=
  { s with
    win := { open_ := true, imp := s.imp.counter + 1, t0 := s.tim.tickAt, tFlip := s.nextTick, p := s.periodNow, s := s.cmp.sUs * usU, throttle := s.thp.throttle,
             engines := s.engines.length }
    cmp := { s.cmp with gen := 0, late := [], poisoned := [], heldTiles := s.cmp.heldTiles ++ s.cmp.poisoned.map fun t => { tile := t, layers := [] } }
    slg := { s.slg with now := [0, 0, 0, 0, 0], bitsNow := 0, encLevel := [],
                        rings := (List.range 16).foldl (fun t q => tmod {} t q fun r => { r with ages := [], merged := false, genAges := [], ageSent := false }) s.slg.rings }
    imp := { s.imp with decodedNow := 0 }
    lmp := { s.lmp with stallsNow := 0 } }

/-- Offsets of the LMP registers that come into force at a commit point (R201). -/
def lmpForce : List Nat := [0x3004, 0x300C, 0x3010, 0x3014, 0x3018, 0x301C]

/-- The LMP registers and SLG_CTRL come into force (R201, R259). -/
def State.forceRegs (s : State) : State :=
  { s with
    lmp := { s.lmp with force := lmpForce.foldl (fun t o => tput (rwReset o) t o (s.reg o)) s.lmp.force }
    slg := { s.slg with ctrl := s.reg 0x5004 } }

/-- The commands that land at the commit point of m, but for those of the scene and of the lamp section. -/
def State.landOne (m : Nat) (i : Item) (s : State) : State :=
  let op := dOp i.desc
  if op = 0x0401 then s.landAdmit i m
  else if op = 0x0404 then s.landRetire i m
  else if op = 0x0402 then s.landCommand i m
  else if op = 0x0403 then s.landRebalance i m
  else if op = 0x0502 then s.landRealign i m
  else if op = 0x0201 then (s.landStream (prm i.desc 1 1) m).done i.id m 0
  else if op = 0x0202 then (s.releaseStream (prm i.desc 1 1) i.aux).done i.id m 0
  else if op = 0x0304 then s.landColour i m
  else if op = 0x0703 then s.landKeeper i m
  else s

/-- Items due at the commit point of m, in take order. -/
def State.due (s : State) (m : Nat) : List Item := s.hif.items.filter fun i => decide (i.phase = .landing) && decide (i.target ≤ m) && !s.heldBack i

/-- Every command due lands in take order (R137). -/
def State.landAll (m : Nat) (s : State) : State := (s.due m).foldl (fun s i => s.landOne m i) s

/-- Commands sent and not answered go again (R331). -/
def State.resendAll (s : State) : State := s.leaves.foldl (fun s e => s.resendCmds e.1 false) s

/-- A leaf's partial sums carried into a new impression: the newest of each slug, at generation 0 (R192). -/
def carryParts (ps : Tab (List (Nat × Nat))) : Tab (List (Nat × Nat)) :=
  ps.foldl (fun t e => tput [] t e.1 (match (sortBy (fun a b => decide (a.1 ≤ b.1)) e.2).getLast? with | some x => [(0, x.2)] | none => [])) []

/-- Two set-ups give a leaf the same lamps. -/
def sameLamps (a b : Geom) : Bool := a.lamps == b.lamps && a.n == b.n

/-- Condition 1 of R239 for a leaf between two set-ups. -/
def State.refLeaf (s : State) (old : Setup) (k : Nat) : Bool :=
  decide (k ∈ s.slg.certainLeaves) && (s.leaf k).inUse && !(s.leaf k).newSession && sameLamps (tget {} old.leaves k) (s.geom k)

/-- The references certain for the impression that opens (R239), and the slugs to send non-standing (R229, R230). -/
def State.settleRefs (old : Setup) (s : State) : State :=
  let ok (x : Nat) : Bool := s.refLeaf old (x / 4096) && !decide (x % 4096 ∈ (s.leaf (x / 4096)).proofBad) && !bit s.slg.ctrl 4
  let certain := s.slg.certain.filter ok
  let leaves := (s.imp.setup.enabled.filter fun k => (s.leaf k).inUse)
  let next (l : Leaf) : Leaf := { l with resend := l.proofBad, proofBad := [], newSession := false, parts := carryParts l.parts }
  { s with
    slg := { s.slg with certain := certain, certainLeaves := leaves }
    leaves := s.leaves.foldl (fun t e => tput {} t e.1 (next e.2)) s.leaves }

/-- A quire at a commit point: RUNNING quires may now send slugs (R312); its header parts start afresh. -/
def Quire.begin (x : Quire) : Quire := { x with ready := decide (x.st = .running), hdrAcks := [], hdrSent := [], replayed := 0 }

/-- The opening part and the CLAIMs of every RUNNING quire (R309, R350, R353). -/
def State.openQuires (s : State) : State :=
  (List.range 16).foldl (fun s q =>
    let s := s.modQuire q Quire.begin
    if (s.quire q).ready then (s.sendPart q 0 s.openingPkt).sendClaims q else s) s

/-- The level fixed for the impression (R254). -/
def State.setLevel (s : State) : State :=
  { s with slg := { s.slg with level := fixLevel s.win.throttle (clocks (s.win.p - marginU s.win.p - s.win.s - 100 * usU)) s.slugShare (bits s.slg.ctrl 0 3) } }

/-- Derating, tables and the page cache for the impression (R176, R182, R189, R190, R193). -/
def State.lampStart (s : State) : State :=
  let s := s.leaves.foldl (fun s e => ((s.derate e.1).overTemp e.1).useTable e.1) s
  s.pager

/-- CMP_WALL as the tone registers in force hold it has changed. -/
def wallChanged (a b : Tab Word) : Bool := decide (tget (rwReset 0x2010) a 0x2010 ≠ tget (rwReset 0x2010) b 0x2010)

/-- The commit point of the next impression. -/
def State.commit (s : State) : State :=
  let m := s.imp.counter + 1
  let tone := s.cmp.tone
  let setup := s.imp.setup
  let r := s.admitEncoders.openWindow.forceRegs.applySetup
  let s := ((r.2.applySoffset.applyTone.resendAll.enterLeaves m).landAll m).rebalReady m
  let c := s.composeScene m (s.win.t0 + s.win.s) s.win.tFlip r.1 (wallChanged tone s.cmp.tone) tone
  let s := ((c.2.landTables m).landDims m).lampStart.settleRefs setup
  ((((s.setLevel.openQuires).sendGeoms m).sendSinks m).fencesGo).traceTick 0 c.1

/-- COMMIT_POINT. -/
def execCommitPoint (dt : Nat) (s : State) : Host.Outcome State Fault Refusal :=
  let s := s.elapse dt
  .next (if s.commitDue then s.commit else s)

end Sys2Proof.Machine
end

