-- ==== Sys2Proof/Machine/Press.lean ====
section
/-! DEFINITION. The milestones of an impression after its commit point (Table 1-5): tiles and the press cutoff (R153, R154), the commit deadline with its delivery entries, ends of commands and output freeze check (R158, R188, R226, R258, R325, R329), the tick (R215, R365, R392), and the record group (R229, R454). -/

namespace Sys2Proof.Machine

open Sys2Proof

/-! ### Tiles -/

/-- The job an engine runs on a tile. -/
def State.running? (s : State) (e t : Nat) : Option Job := s.cmp.jobs.find? fun j => j.engine == some e && j.tile == t

/-- A finished job leaves the work list. -/
def State.dropJob (e t : Nat) (s : State) : State :=
  { s with cmp := { s.cmp with jobs := s.cmp.jobs.filter fun j => !(j.engine == some e && j.tile == t) } }

/-- A tile of the canvas replaced. -/
def State.setTile (t : Nat) (x : Tile) (s : State) : State := { s with cmp := { s.cmp with tiles := tput {} s.cmp.tiles t x } }

/-- A group whose last tile is finished replaces its tiles of the canvas (R154). -/
def State.landSide (g : Nat) (s : State) : State :=
  if s.cmp.jobs.any fun j => j.group == some g then s
  else
    let s := (s.cmp.side.filter fun e => e.1 == g).foldl (fun s e => s.setTile e.2.1 e.2.2) s
    { s with cmp := { s.cmp with side := s.cmp.side.filter fun e => e.1 != g } }

/-- A tile of a late join finished. -/
def doneTile (gen t : Nat) (x : Tile) (j : LateJoin) : LateJoin := if j.gen = gen then { j with done := tput {} j.done t x } else j

/-- A tile finished by an engine (R153, R154, R157). -/
def State.finishTile (e : Nat) (j : Job) (s : State) : State :=
  let t := j.tile
  let s := ((s.dropJob e t).modUnit e fun u => { u with now := u.now + 1 }).count (0x780 + e) 1
  if j.gen ≠ 0 then
    match s.join? j.gen with
    | none => s
    | some l => { s with cmp := { s.cmp with late := s.cmp.late.map (doneTile j.gen t (s.composeTile l.layers t)) } }
  else
    let s : State := { s with cmp := { s.cmp with byEngine := tput 0 s.cmp.byEngine t (e + 1) } }
    let x := s.composeTile (j.was.foldl (fun ls k => tput {} ls k (tget {} s.cmp.prev k)) s.cmp.layers) t
    match j.group with
    | none => s.setTile t x
    | some g => ({ s with cmp := { s.cmp with side := s.cmp.side ++ [(g, t, x)] } } : State).landSide g

/-- TILE_COMPLETE; from an engine out of service it is traffic its state forbids (R19). -/
def execTileComplete (dt e t : Nat) (s : State) : Host.Outcome State Fault Refusal :=
  let s := (s.elapse dt).strayUnit 9 e e
  .next (if s.win.open_ then
      match s.running? e t with
      | some j => (s.finishTile e j).dispatch e
      | none => s
    else s)

/-! ### The press cutoff -/

/-- Groups with a tile not dispatched: held whole (R154). -/
def heldGroups (js : List Job) : List Nat := dedup ((js.filter fun j => j.gen == 0 && !j.extra && j.engine.isNone).filterMap (·.group))

/-- A finished tile of a group that is held whole, as a job. -/
def sideJob (js : List Job) (e : Nat × Nat × Tile) : Job :=
  let l := js.filter fun j => j.group == some e.1
  { tile := e.2.1, layers := dedup (l.map (·.layers)).flatten, group := some e.1, items := dedup (l.map (·.items)).flatten }

/-- The jobs held at the cutoff. -/
def heldAtCutoff (js : List Job) (side : List (Nat × Nat × Tile)) : List Job :=
  let gs := heldGroups js
  let inGroup (j : Job) : Bool := match j.group with | some g => decide (g ∈ gs) | none => false
  (js.filter fun j => j.gen == 0 && !j.extra && (inGroup j || j.engine.isNone)).map unassigned ++ (side.filter fun e => decide (e.1 ∈ gs)).map (sideJob js)

/-- A layer with a held tile or not. -/
def State.markHeld (ks : List Nat) (s : State) : State :=
  { s with cmp := { s.cmp with layers := s.cmp.layers.foldl (fun t e => tput {} t e.1 { e.2 with held := decide (e.1 ∈ ks) }) s.cmp.layers } }

/-- The age of a region whose tiles are held is that of the content it still shows (R218). -/
def State.heldAges (ks : List Nat) (s : State) : State :=
  { s with win := { s.win with regionAges := (List.range 16).map fun r =>
      if 64 + r ∈ ks then (s.layer (64 + r)).capWas.age s.win.tFlip else nthD 0 s.win.regionAges r } }

/-- Reports of what is held (R153). -/
def State.reportHeld (held : List Job) (s : State) : State :=
  let m := s.m
  let ks := dedup (held.map (·.layers)).flatten
  let s := ((held.map (·.items)).flatten.filter fun id => match s.item? id with | some i => i.commitId.isNone | none => false).foldl (fun s id => s.delay id m) s
  let s := (dedup (ks.map layerNo)).foldl (fun s n =>
    ({ s with win := { s.win with delayed := setBit s.win.delayed n true } } : State).layerCount n 2) s
  ks.foldl (fun s k =>
    let ts := (held.filter fun j => decide (k ∈ j.layers)).map (·.tile)
    s.traceSched k 4 (s.layer k).cls (s.costOf s.cmp.layers ts) ts.length m) s

/-- The press cutoff: every tile not dispatched is held (R153, R154). -/
def State.cutPress (s : State) : State :=
  let new := heldAtCutoff s.cmp.jobs s.cmp.side
  let gs := heldGroups s.cmp.jobs
  let held := s.cmp.heldTiles ++ new
  let ks := dedup (held.map (·.layers)).flatten
  let keep (j : Job) : Bool := j.engine.isSome && !(match j.group with | some g => decide (g ∈ gs) | none => false)
  let s : State := { s with
    cmp := { s.cmp with jobs := s.cmp.jobs.filter keep, side := s.cmp.side.filter (fun e => !decide (e.1 ∈ gs)), heldTiles := held }
    win := { s.win with pressCut := true, held := s.win.held || decide (held ≠ []) } }
  let s := if held = [] then s else s.raise .pressBudgetExceeded 0 [] false
  (((s.markHeld ks).heldAges ks).reportHeld held).traceTick 1 held.length

/-- PRESS_CUTOFF. -/
def execPressCutoff (dt : Nat) (s : State) : Host.Outcome State Fault Refusal :=
  let s := s.elapse dt
  .next (if s.win.open_ && !s.win.pressCut && decide (s.pressAt ≤ s.tim.time) then s.cutPress else s)

/-! ### Delivery (R329, Table 9-17) -/

/-- The slugs of a late join that its regions still owe: (leaf, slug, generation), not produced and not absorbed. -/
def State.lateOwed (s : State) (q : Nat) : List (Nat × Nat × Nat) :=
  (s.cmp.late.map fun j => ((j.regions.filter fun r => r.1 / 64 == q && !decide (r.1 ∈ j.absorbed)).map fun r =>
    (r.2.filter fun sl => (s.slug? r.1 sl j.gen).isNone).map fun sl => (r.1, sl, j.gen)).flatten).flatten

/-- Every FAILED slug of a quire: (leaf, slug, generation). -/
def State.failedOf (s : State) (q : Nat) : List (Nat × Nat × Nat) :=
  ((s.stagedOf q).filter fun x => !x.acked).map (fun x => (x.leaf, x.slug, x.gen)) ++ (s.unproduced q).map (fun u => (u.1, u.2, 0)) ++ s.lateOwed q

/-- Leaves in use that have not acknowledged the age part. -/
def State.agesOwed (s : State) (q : Nat) : List Nat := (s.partLeaves q 1).filter fun i => !decide ((i, 1) ∈ (s.quire q).hdrAcks)

/-- Bits of a set of positions. -/
def bitsOf (l : List Nat) : DWord := BitVec.ofNat 64 (sumN ((dedup l).map fun i => 2 ^ i))

/-- The delivery entry of a quire. -/
def State.delivery (s : State) (q : Nat) : Delivery :=
  let f := s.failedOf q
  let a := ((s.stagedOf q).filter fun x => x.acked).length
  { quire := q, status := if (s.ring q).failedFor = some s.m then .failedDeadline else .done, slugs := a + f.length, acked := a, failed := f.length,
    replayed := (s.quire q).replayed, ageMissing := (s.agesOwed q).length, failedLeaves := bitsOf (f.map (fun x => x.1 % 64) ++ s.agesOwed q) }

/-- Quires with EN. -/
def State.enabledQuires (s : State) : List Nat := (List.range 16).filter fun q => s.regBit (0x6080 + 4 * q) 16

/-- FAILED trace records of a quire: one for each leaf, generation and batch (Table 16-3). -/
def State.traceFailed (q : Nat) (s : State) : State :=
  let f := s.failedOf q
  (dedup (f.map fun x => (x.1, x.2.2, x.2.1 / 64))).foldl (fun s k =>
    let bm := sumN ((f.filter fun x => x.1 == k.1 && x.2.2 == k.2.1 && x.2.1 / 64 == k.2.2).map fun x => 2 ^ (x.2.1 % 64))
    s.trace 0x31 q s.m (k.1 % 64 + k.2.1 * 256 + k.2.2 * 65536 + bm * 2 ^ 32)) s

/-- Counts and faults of a quire's delivery. -/
def State.deliverQuire (s : State) (d : Delivery) : State :=
  let s := (s.traceFailed d.quire).count (0x404 + 16 * d.quire) d.failed
  if d.failed ≠ 0 ∧ d.status ≠ .failedDeadline then s.raise .slugDeliveryFailed (instOf 2 d.quire) [s.m, d.failed] false else s

/-- A slug of the impression not acknowledged is FAILED. -/
def failSlug (m : Nat) (x : Slug) : Slug := if x.imp = m ∧ !x.acked then { x with failed := true } else x

/-! ### Ends of commands at the deadline -/

/-- Tiles with a slug that failed under R258. -/
def State.failedTiles (s : State) : List Nat :=
  dedup (((List.range 16).filter fun q => (s.ring q).failedFor == some s.m).map fun q => ((s.unproduced q).map fun u => s.slugTiles u.1 u.2).flatten).flatten

/-- Whether a command's tiles are held. -/
def State.itemHeld (s : State) (id : Nat) : Bool := s.cmp.heldTiles.any fun j => decide (id ∈ j.items)

/-- An item landed after the impression its TARGET named (Table 2-12). -/
def slipped (i : Item) : Bool := dTargeted i.desc && decide (dTarget i.desc < i.landedAt)

/-- Whether an item ends late: with its group's scene.commit. -/
def State.itemLate (s : State) (i : Item) : Bool :=
  match i.commitId with
  | none => i.late || slipped i
  | some c => match s.item? c with | some x => x.late || slipped x | none => false

/-- Target of an item, or of its group. -/
def State.itemTarget (s : State) (i : Item) : Nat :=
  match i.commitId with
  | none => i.target
  | some c => match s.item? c with | some x => x.target | none => i.target

/-- A scene command that landed in generation 0 ends at a deadline (Table 4-9, R258). -/
def State.endScene (bad : List Nat) (i : Item) (s : State) : State :=
  let m := s.m
  if s.itemHeld i.id then (if s.itemTarget i + 16 ≤ m then s.complete i.id .failedDeadline 0 m 0 false else s)
  else if (tget [] s.cmp.touch i.id).any fun t => decide (t ∈ bad) then s.complete i.id .failedDeadline 0 m 0 false
  else s.complete i.id (if s.itemLate i then .doneLate else .done) 0 m 0 false

/-- The items in phase landed in generation 0, of a list of opcodes. -/
def State.landedItems (s : State) (p : Nat → Bool) : List Item := s.hif.items.filter fun i => decide (i.phase = .landed) && decide (i.gen = 0) && p (dOp i.desc)

/-- Every scene command that landed. -/
def State.endScenes (s : State) : State :=
  let bad := s.failedTiles
  (s.landedItems fun op => isLayerOp op || op == 0x0104 || op == 0x0110).foldl (fun s i => s.endScene bad i) s

/-- leaf.retire and quire.rebalance end at the deadline of the impression they landed in (R325, R373). -/
def State.endUnits (s : State) : State :=
  (s.landedItems fun op => op == 0x0404 || op == 0x0403).foldl (fun s i =>
    let st : Status := if i.late then .doneLate else .done
    if dOp i.desc = 0x0404 then s.complete i.id st 0 i.landedAt i.aux false else s.complete i.id st i.aux i.landedAt i.applied false) s

/-- A slug of generation 0 is one that its quire's failure leaves unstaged (R258). -/
def State.slugsFailed (s : State) : Bool := (List.range 16).any fun q => decide ((s.ring q).failedFor = some s.m) && !(s.unproduced q).isEmpty

/-- dim.set at the deadline of the impression it landed in (R188): a wall dim reaches every slug, those that failed under R258 too. -/
def State.endDims (s : State) : State :=
  let bad := s.slugsFailed
  (s.hif.items.filter fun i => i.opcode == 0x0303 && decide (i.phase = .leaves) && decide (i.landedAt = s.m) && decide (i.waits = [])).foldl
    (fun s i => if bad && prm i.desc 0 1 == 0 then s.complete i.id .failedDeadline 0 s.m 0 false else s.done i.id s.m 0) s

/-- The newest generation, g or later, a region of which contains the slug: at that one alone it counts as acknowledged (R328). -/
def State.newestGen (s : State) (k sl g : Nat) : Nat :=
  maxD g ((s.cmp.late.filter fun j => j.regions.any fun r => r.1 == k && decide (sl ∈ r.2)).map (·.gen))

/-- A slug of generation g was acknowledged, at the newest region that contains it (R328). -/
def State.ackedFrom (s : State) (k sl g : Nat) : Bool := match s.slug? k sl (s.newestGen k sl g) with | some x => x.acked | none => false

/-- A slug of a late join is one that its quire's failure leaves unstaged (R258). -/
def State.joinFailed (s : State) (j : LateJoin) : Bool :=
  j.regions.any fun r => decide ((s.ring (r.1 / 64)).failedFor = some s.m) && r.2.any fun sl => (s.slug? r.1 sl (s.newestGen r.1 sl j.gen)).isNone

/-- Late joins end (R158, R258). -/
def State.endJoins (s : State) : State :=
  s.cmp.late.foldl (fun s j =>
    let ok := j.regions.all fun r => r.2.all fun sl => s.ackedFrom r.1 sl j.gen
    if s.joinFailed j then j.items.foldl (fun s id => s.complete id .failedDeadline 0 s.m 0 false) s
    else j.items.foldl (fun s id => s.complete id (if ok then .done else .doneLate) 0 (if ok then s.m else s.m + 1) 0 false) s) s

/-! ### References (R239) -/

/-- The region of a leaf that holds a slug: its generation and slugs. -/
def State.regionOf (s : State) (k sl : Nat) : Option (Nat × List Nat) :=
  (s.cmp.late.findSome? fun j => if k ∈ j.absorbed then none else (j.regions.find? fun r => r.1 == k && decide (sl ∈ r.2)).map fun r => (j.gen, r.2))

/-- Conditions 2 and 3 of R239. -/
def State.refSettled (s : State) (k sl : Nat) : Bool :=
  let ack (sl g : Nat) : Bool := match s.slug? k sl g with | some x => x.acked | none => false
  match s.regionOf k sl with
  | none => ack sl 0
  | some r => ack sl 0 && r.2.all fun x => ack x r.1

/-- The slugs whose references are settled by the deadline. -/
def State.settled (s : State) : List Nat :=
  ((s.slg.slugs.filter fun x => decide (x.imp = s.m) && decide (x.gen = 0) && s.refSettled x.leaf x.slug).map fun x => 4096 * x.leaf + x.slug)

/-! ### Drive sums (R195) -/

/-- Sums of lin32 and lamp counts of a leaf by channel, over the codes last produced. -/
def State.driveNow (s : State) (k : Nat) : List Nat × List Nat :=
  let g := s.geom k
  let codes := ((List.range g.slugs).map fun sl => (whole (s.refEntry k sl).codes).take (g.lamps - 512 * sl)).flatten
  let of (c : Nat) : List Half := (codes.zipIdx.filter fun e => e.2 % g.n == c).map (·.1)
  ((List.range 4).map fun c => sumN ((of c).map fun x => lin32 x.toNat), (List.range 4).map fun c => (of c).length)

/-- The drive of a leaf noted for the impression; the last 16 are kept. -/
def State.noteDrive (k : Nat) (s : State) : State :=
  let d := s.driveNow k
  s.modLeaf k fun l => { l with drive := ((s.m, d.1, d.2) :: l.drive).take 16 }

/-- est closed and the drive noted for every leaf in use. -/
def State.closeLeaves (s : State) : State :=
  (s.imp.setup.enabled.filter fun k => (s.leaf k).inUse).foldl (fun s k => (s.closeEst k).noteDrive k) s

/-! ### Output freeze (R226, R227) -/

/-- Signature of a source: a frame's, or the same sample of a surface. -/
def sourceSig (l : Layer) : Option Word :=
  match l.sample with
  | .frame f => if f.complete then some f.sig else none
  | .surf v => some (crc32c (((List.range (ceilDiv l.surfH 4)).map fun y => ((List.range (ceilDiv l.surfW 4)).map fun x =>
      let w := verPx v l.surfW (4 * x) (4 * y)
      beBytes 2 (if l.source = 0 then bits w 8 8 else bits w 10 10)).flatten).flatten))
  | .none => none

/-- The destination pixels of a layer's sample, raster order. -/
def State.samplePx (s : State) (l : Layer) : List (Nat × Nat) :=
  ((List.range (ceilDiv s.ch 4)).map fun y => ((List.range (ceilDiv s.cw 4)).map fun x => (4 * x, 4 * y)).filter (s.covers l)).flatten

/-- The output signature. -/
def State.outSig (s : State) (k : Nat) (l : Layer) : Word := crc32c ((s.samplePx l).map fun p => beBytes 2 ((s.layerColour k l p).g / 256)).flatten

/-- Engines that composed sampled pixels of a layer. -/
def State.sampleEngines (s : State) (l : Layer) : List Nat :=
  dedup ((s.samplePx l).filterMap fun p => match s.tileAt (Int.ofNat p.1, Int.ofNat p.2) with
    | none => none
    | some t => let e := tget 0 s.cmp.byEngine t.1
      if e = 0 then none else some (e - 1))

/-- The layer is checked in this impression. -/
def State.outChecked (s : State) (k : Nat) (l : Layer) : Bool :=
  let ts := s.tilesOf s.cmp.layers k
  decide (k < 63) && decide (l.st = .placed) && !l.shed && !l.held && !l.overAge && !l.frozen && decide (l.show_ = 0) && decide (ts ≠ []) &&
    ts.all (fun t => decide (tget 0 s.cmp.byEngine t ≠ 0)) && (match sourceSig l with | none => false | some g => decide (l.srcSig ≠ some g))

/-- A layer with another check of its output: its run goes on while the signature stays the same (R227). -/
def Layer.checked (o : Word) (es : List Nat) (l : Layer) : Layer :=
  let same := decide (l.outSig = some o)
  { l with outSig := some o, outRun := if same then l.outRun + 1 else 1, outEngines := (es :: if same then l.outEngines else []).take 255,
           outSaid := same && l.outSaid, srcSig := sourceSig l }

/-- Engines that composed sampled pixels of a layer in each of its last n checks. -/
def Layer.allEngines (n : Nat) (l : Layer) : List Nat := (List.range 18).filter fun e => (l.outEngines.take n).all fun es => decide (e ∈ es)

/-- The check of one layer: OUTPUT_FROZEN once in a run, when it has N equal checks or more (R227). -/
def State.freezeCheck (k : Nat) (s : State) : State :=
  let l := s.layer k
  if !s.outChecked k l then s
  else
    let n := s.regBits 0x4024 0 8
    let y := l.checked (s.outSig k l) (s.sampleEngines l)
    let now := decide (n ≤ y.outRun) && !y.outSaid
    let s := s.setLayer k { y with outSaid := y.outSaid || now }
    if now then
      let r := s.raiseL .outputFrozen (instOf 8 k) [] false true
      if 2 ≤ r.1 then (y.allEngines n).foldl (fun s e => s.retireEngine e) r.2 else r.2
    else s

/-- Every layer's check, while IMP_OFRZ.EN is set. -/
def State.freezeChecks (s : State) : State :=
  if s.regBit 0x4024 8 then s.cmp.layers.foldl (fun s e => s.freezeCheck e.1) s else s

/-! ### The commit deadline -/

/-- Largest count of entries 16 to 239 a quire uses, and whether ages were merged. -/
def State.agesUsed (s : State) : Nat := maxD 0 ((List.range 16).map fun q => (s.ring q).ages.length)
def State.agesMerged (s : State) : Bool := (List.range 16).any fun q => (s.ring q).merged

/-- The record group of the impression in hand. -/
def State.recGroup (s : State) (ds : List Delivery) : RecGroup :=
  { w := { s.win with late := s.win.late || decide (s.cmp.late ≠ []) }, gen := s.cmp.gen, merged := s.agesMerged, level := s.slg.level, deliveries := ds,
    counts := s.slg.now, bits := s.slg.bitsNow, decoded := s.imp.decodedNow, ageUsed := s.agesUsed, stalls := s.lmp.stallsNow, lamps := s.lampTab }

/-- The commit deadline of the impression in hand. -/
def State.cutDelivery (s : State) : State :=
  let s : State := { s with win := { s.win with deadline := true } }
  let ds := s.enabledQuires.map s.delivery
  let s := ds.foldl State.deliverQuire s
  let s := (((s.endScenes.endUnits).endDims).endJoins).expireCmds s.m
  let cert := s.settled
  let s := (s.closeLeaves).freezeChecks
  let n := sumN (ds.map (·.failed))
  let g := s.recGroup ds
  ({ s with
    slg := { s.slg with slugs := s.slg.slugs.map (failSlug s.m), certain := cert }
    groups := s.groups ++ [g] } : State).traceTick 3 n

/-- COMMIT_DEADLINE. -/
def execCommitDeadline (dt : Nat) (s : State) : Host.Outcome State Fault Refusal :=
  let s := s.elapse dt
  .next (if s.win.open_ && s.win.walkCut && !s.win.deadline && decide (s.deadlineAt ≤ s.tim.time) then s.cutDelivery else s)

/-! ### The tick -/

/-- The index, less 1, of the first tick of a new schedule at or after t_c + P_new, t_c being tick k of the old one (R392). -/
def firstNew (p1 p2 : Nat × Nat × Nat) (k : Nat) : Nat :=
  let (n1, d1, a1) := p1
  let (n2, d2, a2) := p2
  let x : Int := Int.ofNat (a1 * d1 * d2 + k * n1 * d2 * 1000000000 + n2 * d1 * 1000000000) - Int.ofNat (a2 * d1 * d2)
  let y : Int := max 1 (Int.ofNat (n2 * d1 * 1000000000))
  ((x + y - 1) / y - 1).toNat

/-- The generator moves on by one tick; at t_c a pending P comes into force and S is capped (R392). -/
def State.advance (s : State) : State :=
  let k := s.tim.tickK + 1
  let t := s.nextTick
  let s1 : State := { s with tim := { s.tim with tickAt := t, tickK := k, ticks := s.tim.ticks + 1 } }
  match s.tim.pUse, s.tim.pPend with
  | some old, some (new, kc) =>
    if kc ≤ k then
      { s1 with
        tim := { s1.tim with pUse := some new, pPend := none, tickK := firstNew old new k }
        cmp := { s1.cmp with sUs := min s1.cmp.sUs (periodU new / 2 / usU) } }
    else s1
  | _, _ => s1

/-- Keys in which two scenes differ. -/
def differ (a b : Tab Layer) : List Nat := (keysOf a b).filter fun k => decide (tget {} a k ≠ tget {} b k)

/-- Late joins become part of the scene: their finished tiles stand on the canvas, and the next impression composes them in the ordinary way (R158). -/
def State.foldJoins (s : State) : State :=
  let new := s.scene
  let ks := differ s.cmp.layers new
  let ts := dedup (s.cmp.late.map (·.tiles)).flatten
  let tiles := s.cmp.late.foldl (fun t j => j.done.foldl (fun t e => tput {} t e.1 e.2) t) s.cmp.tiles
  let job (t : Nat) : Job := { tile := t, layers := ks, ranks := ks.map fun k => (k, (tget {} new k).cls, (tget {} new k).z) }
  { s with cmp := { s.cmp with layers := new, tiles := tiles, late := [], heldTiles := s.cmp.heldTiles ++ ts.map job } }

/-- Tiles never finished are held (R153). -/
def State.holdRest (s : State) : State :=
  { s with cmp := { s.cmp with jobs := [], side := [], heldTiles := s.cmp.heldTiles ++ (s.cmp.jobs.filter fun j => j.gen == 0 && !j.extra).map unassigned } }

/-- The header data of the impression that flips (R229). -/
def State.hdrNow (s : State) : Hdr :=
  { imp := s.m, friskAge := s.limit s.cmp.friskAge, invA := s.cmp.invA, invB := s.cmp.invB, pAge := s.pUs, hold := s.cmp.hold, mask := s.mask,
    ages := s.win.regionAges, genAges := s.cmp.late.map (fun j => (j.gen, regionAgesOf j.layers s.win.tFlip)), setup := s.imp.setup }

/-- A removed layer is FREE once the impression it left has flipped; its memory is returned (R127), and a region's age episode that its removal has not ended ends (R161). -/
def State.freeLayers (s : State) : State :=
  s.cmp.layers.foldl (fun s e => if e.2.st = .removing then
      let s := (s.release e.2.allocs).setLayer e.1 {}
      if e.2.ageEp then s.clear .frisketAgeExceeded (instOf 8 e.1) else s
    else s) s

/-- The replay store of an impression is released at its tick (R365, R257). -/
def State.releasePages (m : Nat) (s : State) : State :=
  let n := sumN ((List.range 16).map fun q => ((s.ring q).spill.filter fun e => decide (e.1 ≤ m)).length)
  let on (r : Ring) : Ring := { r with used := r.used.filter fun e => decide (m < e.1), spill := r.spill.filter fun e => decide (m < e.1) }
  { s with slg := { s.slg with
      rings := (List.range 16).foldl (fun t q => tmod {} t q on) s.slg.rings, poolFree := s.slg.poolFree + n, slugs := s.slg.slugs.filter fun x => decide (m < x.imp) } }

/-- The oldest impression a leaf may still show of those before m: what it last reported, or the one from which it is in use; the impression before m where nothing older counts. -/
def State.showsFrom (s : State) (m k : Nat) : Nat :=
  let l := s.leaf k
  if l.inUse then min (m - 1) (max l.shows l.inUseFrom) else m - 1

/-- The codes and headers of the impression that flips are kept for the proofs, with those of every impression some leaf may still show (R231). -/
def State.keepShown (s : State) : State :=
  let m := s.m
  let from_ := (s.imp.setup.enabled.map (s.showsFrom m)).foldl min (m - 1)
  let new := (s.slg.slugs.filter fun x => decide (x.imp = m)).map fun x => ({ imp := m, leaf := x.leaf, gen := x.gen, slug := x.slug, codes := x.codes } : Shown)
  { s with shown := s.shown.filter (fun x => decide (s.showsFrom m x.leaf ≤ x.imp)) ++ new, hdrs := s.hdrs.filter (fun h => decide (from_ ≤ h.imp)) ++ [s.hdrNow] }

/-- Counts of the window that ends (Tables 4-10, 7-7). -/
def State.endCounts (s : State) : State :=
  (List.range 41).foldl (fun s k => s.modUnit k fun u => { u with last := u.now, now := 0 }) s

/-- The window in hand ends at its tick. Milestones the commands before it did not bring are made up first. -/
def State.endWindow (s : State) : State :=
  if !s.win.open_ then s
  else
    let s := if s.win.pressCut then s else s.cutPress
    let s := if s.win.walkCut then s else
      (List.range 16).foldl (fun s q => s.holdSlugs q) { s with win := { s.win with walkCut := true } }
    let s := if s.win.deadline then s else s.cutDelivery
    let s := s.keepShown.holdRest.foldJoins.freeLayers.resumeWrites
    let s := (s.releasePages s.m).endCounts
    { s with win := { s.win with open_ := false } }

/-- TEMP_SHUTDOWN and SUPPLY_FAIL clear when the first impression after a resume has been flipped (R467). -/
def State.clearStop (s : State) : State :=
  if s.thp.resumedFlip then
    let s : State := { s with thp := { s.thp with resumedFlip := false, shut := false, fail := false } }
    (s.clear .tempShutdown (instOf 12 s.thp.shutBy)).clear .supplyFail 0
  else s

/-- The tick: the counter and the flip time (R215), but at the first tick, which only opens the window of impression 1. -/
def State.tick (s : State) : State :=
  let first := decide (s.tim.ticks = 0)
  let shows := s.win.open_
  let s := s.endWindow.advance
  let s : State := { s with cmp := { s.cmp with sPend := s.cmp.sPend.map fun x => (x.1, true) } }
  let s : State := if first then s else { s with imp := { s.imp with counter := s.imp.counter + 1, flip := s.tim.tickAt / nsU } }
  (if shows then s.clearStop else s).trace 0x10 4 s.imp.counter 0

/-- TICK. -/
def execTick (dt : Nat) (s : State) : Host.Outcome State Fault Refusal :=
  let s := s.elapse dt
  .next (if s.tim.genRun && s.tim.pUse.isSome && decide (s.nextTick ≤ s.tim.time) then s.tick else s)

/-! ### The record group (R454) -/

/-- Leaves in use whose proofs for an impression never came in time. -/
def State.missingProofs (s : State) (g : RecGroup) : List Nat :=
  (s.imp.setup.enabled.filter fun k => (s.leaf k).inUse && decide ((s.leaf k).inUseFrom ≤ g.w.imp)).filter fun k => !decide (k ∈ g.reported)

/-- What a leaf that shows an impression whole would report: the expected proof of a report that never came. -/
def absentReport (imp : Nat) : FlipRep :=
  { sched := imp, shown := imp, gens := 0xFFFF, flags := 1, missed := 0, frisket := 0, range := 0, rangeNo := 0, temp := 0, rejected := 0 }

/-- A missing proof of a leaf with Frisket lamps: three in a row count as a mismatch (R229). -/
def State.missProof (imp : Nat) (h : Option Hdr) (k : Nat) (s : State) : State :=
  let m := (h.map (·.mask)).getD []
  if s.friskSlugs m k = [] then s
  else
    let n := (s.leaf k).fproofMissing + 1
    let s := s.modLeaf k fun l => { l with fproofMissing := n }
    let want := match h with
      | none => 0
      | some h => (s.expected h k (absentReport imp)).1.toNat
    if n = 3 then s.friskMismatch m k [want, 0, imp] else s

/-- FLAGS of the summary record. -/
def groupFlags (g : RecGroup) : Word := pack [(0, b2n g.w.held), (1, b2n g.merged), (2, b2n g.w.throttle), (3, b2n g.w.late), (4, b2n g.stopped)]

/-- The records of a group: the summary, and a quire record for each enabled quire (Tables 13-7, 13-8). -/
def groupRecs (limit : Nat) (g : RecGroup) (bad : List Nat) : List Rec :=
  let spill := (List.range 16).filter fun r => bit g.w.regions r && decide (limit < nthD 0 g.w.regionAges r)
  Rec.summary g.deliveries.length g.gen (groupFlags g) g.w.imp (g.w.tFlip / nsU) (BitVec.ofNat 16 (sumN (spill.map fun r => 2 ^ r))) g.level g.w.engines
      g.w.shed g.w.delayed g.w.overAge (maxD 0 g.w.regionAges) (satU 8 bad.length) ::
    g.deliveries.map fun d => Rec.quire g.w.imp d.quire d.status d.slugs d.acked d.failed d.replayed d.ageMissing d.failedLeaves
      (bitsOf ((bad.filter fun k => k / 64 == d.quire).map fun k => k % 64))

/-- What the registers show of the last closed impression (R201, R233, R259, Table 9-19). -/
def State.showGroup (g : RecGroup) (missing : Nat) (s : State) : State :=
  let s : State := { s with
    slg := { s.slg with last := g.counts, bits := g.bits }
    imp := { s.imp with decoded := g.decoded, ageUsed := g.ageUsed, merged := g.merged, proofMissing := satU 16 missing }
    lmp := { s.lmp with stalls := g.stalls, closed := g.lamps }
    upd := { s.upd with goodImp := s.upd.goodImp || g.deliveries.all fun d => d.failed == 0 } }
  g.deliveries.foldl (fun s d => s.modQuire d.quire fun x =>
    { x with failed := satU 16 d.failed, failedImps := satU 16 (x.failedImps + b2n (decide (d.failed ≠ 0))) }) s

/-- A record group written and closed; a report that never came leaves two proofs missing (R229 to R231, Table 6-8). -/
def State.writeGroup (g : RecGroup) (s : State) : State :=
  let miss := s.missingProofs g
  let h := s.hdrs.find? fun h => h.imp == g.w.imp
  let s := miss.foldl (fun s k => s.missProof g.w.imp h k) s
  let s := s.evq (groupRecs (s.limit s.cmp.friskAge) g (dedup (g.proofLeaves ++ miss))) false
  let s := s.showGroup g (2 * miss.length)
  ({ s with groups := s.groups.drop 1 } : State).trace 0x10 5 g.w.imp g.deliveries.length

/-- The group at the head is due: P/2 after its own flip, while no orderly stop is in progress. -/
def State.groupDue (s : State) (g : RecGroup) : Bool :=
  !s.thp.stopping && (decide (g.w.imp < s.imp.counter) || (decide (g.w.imp = s.imp.counter) && decide (s.tim.tickAt + s.periodNow / 2 ≤ s.tim.time)))

/-- RECORD_GROUP_CLOSE. -/
def execRecordGroupClose (dt : Nat) (s : State) : Host.Outcome State Fault Refusal :=
  let s := s.elapse dt
  .next (match s.groups.head? with
    | none => s
    | some g => if s.groupDue g then s.writeGroup g else s)

end Sys2Proof.Machine
end

