-- ==== Sys2Proof/Machine/Lanes.lean ====
section
/-! DEFINITION. Lanes and the quire physical layer: quads and quires (R261, R262), equalisation entries (R276), loops (R284), link states (Table 8-4), electrical idle (R280 to R282, R351), margins, transients and retirement (R288 to R293), and slice checks (R472). -/

namespace Sys2Proof.Machine

open Sys2Proof

/-! ### Quads and quires -/

/-- Quads enabled in Ethernet mode, other than q. -/
def State.ethQuads (s : State) (q : Nat) : Nat := ((List.range 16).filter fun k => k != q && s.quadEth k).length

/-- An enabled quire names a lane of the quad. -/
def State.quireNames (s : State) (q : Nat) : Bool :=
  (List.range 16).any fun k => let v := s.reg (0x6080 + 4 * k)
    bit v 16 && (bits v 0 7 / 5 == q || bits v 8 7 / 5 == q)

/-- A write of LNQ_QUADq_CFG (R261). -/
def State.writeQuad (q : Nat) (v : Word) (s : State) : State :=
  let o := 0x6040 + 4 * q
  let old := s.reg o
  if bit old 1 then
    if bit v 1 || (s.macOf q).isSome || s.quireNames q then s else s.setReg o (setBit old 1 false)
  else
    let bad := bit v 1 && bit v 0 && decide (8 ≤ s.ethQuads q)
    s.setReg o (pack [(0, b2n (bit v 0)), (1, b2n (bit v 1 && !bad)), (2, bits v 2 4), (6, b2n (if bit v 1 then bad else bit old 6))])

/-- QUAD_ENABLE. -/
def execQuadEnable (dt q : Nat) (v : Word) (s : State) : Host.Outcome State Fault Refusal :=
  let s := s.elapse dt
  .next (if q < 16 then s.writeQuad q v else s)

/-- A lane-end may be lane i (R262). -/
def State.endOk (s : State) (q i : Nat) : Bool :=
  decide (i < 80) && decide (i % 5 ≠ 4) && s.regBit (0x6040 + 4 * (i / 5)) 1 && !s.quadEth (i / 5) && (s.lane i).eqValid &&
    !((List.range 16).any fun k => let v := s.reg (0x6080 + 4 * k)
      k != q && bit v 16 && (bits v 0 7 == i || bits v 8 7 == i))

/-- What a quire that stops keeps: its counts since reset, and a quire.rebalance under way. -/
def Quire.stopped (x : Quire) (now : Nat) : Quire :=
  { st := .off, since := now, replans := x.replans, replanTime := x.replanTime, failed := x.failed, failedImps := x.failedImps, insOk := x.insOk, insBad := x.insBad,
    rebal := x.rebal }

/-- The leaves of a quire that has lost its tag are enrolled under none (Tables 9-20, 9-21). -/
def State.endSession (q : Nat) (s : State) : State :=
  (List.range 64).foldl (fun s i => s.modLeaf (64 * q + i) fun l => { l with enrolled := false, foreign := false }) s

/-- A quire stops (Table 9-15). -/
def State.stopQuire (q : Nat) (s : State) : State :=
  let s := (List.range 80).foldl (fun s i => let x := s.lane i
    if (x.func == 2 || x.func == 3) && x.quire == q then s.stopLane i else s) s
  let s := (s.modQuire q fun x => x.stopped s.clk).endSession q
  let s := (List.range 64).foldl (fun s i => s.modLeaf (64 * q + i) fun l => { l with breakU := false, breakD := false }) s
  [2 * q, 2 * q + 1].foldl (fun s d => (s.clear .quireBreak (instOf 3 d)).clear .quireClosureMismatch (instOf 3 d)) s

/-- A quire starts: both lanes, and WAIT when it has leaves (R262, Table 9-15). -/
def State.startQuire (q a b : Nat) (s : State) : State :=
  let s := (s.giveLane a 2 q).giveLane b 3 q
  s.modQuire q fun x => { x with st := if 1 ≤ s.nLeaves q then .wait else .off, since := s.clk }

/-- A write of LNQ_QUIREq_CFG (R262). -/
def State.writeQuire (q : Nat) (v : Word) (s : State) : State :=
  let o := 0x6080 + 4 * q
  let old := s.reg o
  if bit old 16 then
    if bit v 16 then s else (s.setReg o (setBit old 16 false)).stopQuire q
  else
    let a := bits v 0 7
    let b := bits v 8 7
    let ok := s.endOk q a && s.endOk q b && decide (a ≠ b)
    let s := s.setReg o (pack [(0, a), (8, b), (16, b2n (bit v 16 && ok)), (17, b2n (if bit v 16 then !ok else bit old 17))])
    if bit v 16 && ok then s.startQuire q a b else s

/-- QUIRE_ENABLE. -/
def execQuireEnable (dt q : Nat) (v : Word) (s : State) : Host.Outcome State Fault Refusal :=
  let s := s.elapse dt
  .next (if q < 16 then s.writeQuire q v else s)

/-! ### Equalisation entries -/

/-- The five taps of an entry, in 1/64 of full swing (Table 8-5). -/
def eqTaps (tx0 tx1 : Word) : List Int := [sgn 7 (bits tx0 0 7), sgn 7 (bits tx0 8 7), sgn 7 (bits tx0 16 7), sgn 7 (bits tx0 24 7), sgn 7 (bits tx1 0 7)]

/-- An entry passes the checks of R276. -/
def eqOk (tx0 tx1 : Word) : Bool := decide (0 < sgn 7 (bits tx0 16 7)) && decide (sumN ((eqTaps tx0 tx1).map Int.natAbs) ≤ 64)

/-- An entry that a write changed: LNQ_EQ_RX decides whether it is valid. -/
def Lane.eqWritten (x : Lane) (v : Word) : Lane :=
  let ok := bit v 31 && eqOk x.eqTx0 x.eqTx1
  { x with eqRx := v &&& 0x001F1F1F, eqValid := ok, eqErr := bit v 31 && !ok }

/-- A write of LNQ_EQ_TX0 (0), TX1 (1) or RX (2) for the lane selected; ignored unless its link is OFF. -/
def State.writeEq (r : Nat) (v : Word) (s : State) : State :=
  let i := s.regBits 0x60C0 0 7
  if 80 ≤ i ∨ (s.lane i).link ≠ .off then s
  else s.modLane i fun x => if r = 0 then { x with eqTx0 := v &&& 0x7F7F7F7F } else if r = 1 then { x with eqTx1 := v &&& 0x7F } else x.eqWritten v

/-- EQ_ENTRY_WRITE. -/
def execEqEntryWrite (dt : Nat) (v : Word) (s : State) : Host.Outcome State Fault Refusal := .next ((s.elapse dt).writeEq 2 v)

/-! ### Loops and RESTORE -/

/-- LOOP set to a value the lane may take (R284). -/
def State.setLoop (i n : Nat) (s : State) : State :=
  let old := s.loop i
  let s := (s.setReg (laneReg i) (setBits (s.reg (laneReg i)) 0 2 n)).modLane i fun x => { x with loopRefused := false }
  if n = old ∧ (n = 0 ∨ (s.lane i).link ≠ .off) then s
  else if n = 0 then (if (s.lane i).func = 4 then s.stopLane i else s)
  else if (s.lane i).unit = .retired then s
  else (s.stopLane i).startLane i 4 0

/-- RESTORE (R291): a DEGRADED lane becomes IN_SERVICE; a RETIRED one SPARE, standing by when its quad's spare carries its function. -/
def State.restoreLane (i : Nat) (s : State) : State :=
  let x := s.lane i
  let sp := s.lane (spareOf i)
  if x.unit = .degraded then (s.setLane i { x with unit := .inService }).noteRecord
  else if x.unit = .retired then
    (s.setLane i { x with unit := .spare, standby := decide (i % 5 ≠ 4) && sp.subst && sp.for_ == i % 5, judged := s.clk }).noteRecord
  else s

/-- A write of LNQ_Li_CTRL (Table 8-8). -/
def State.writeLane (i : Nat) (v : Word) (s : State) : State :=
  let s := if bit v 3 then s.restoreLane i else s
  let s := s.setReg (laneReg i) (setBit (s.reg (laneReg i)) 2 (bit v 2))
  let x := s.lane i
  let n := bits v 0 2
  if n = 0 ∨ x.func = 0 ∨ x.func = 4 ∨ x.unit = .spare then s.setLoop i n
  else (s.setLoop i 0).modLane i fun x => { x with loopRefused := true }

/-- LANE_LOOP_WRITE. -/
def execLaneLoopWrite (dt i : Nat) (v : Word) (s : State) : Host.Outcome State Fault Refusal :=
  let s := s.elapse dt
  .next (if i < 80 then s.writeLane i v else s)

/-- LANE_RESTORE. -/
def execLaneRestore (dt i : Nat) (v : Word) (s : State) : Host.Outcome State Fault Refusal :=
  let s := s.elapse dt
  .next (if i < 80 then s.writeLane i v else s)

/-! ### Reports to the quire section -/

/-- The loss report of R275, about the direction a lane receives: the A-end receives direction B. -/
def State.reportLoss (i : Nat) (s : State) : State :=
  let x := s.lane i
  if x.func = 2 then s.closure x.quire (.laneLoss 1) else if x.func = 3 then s.closure x.quire (.laneLoss 0) else s

/-- Both lane-ends of a RUNNING quire DOWN: it returns to WAIT (Table 9-15). -/
def State.bothDown (q : Nat) (s : State) : State :=
  let down (d : Nat) : Bool := match s.endLane q d with
    | some i => decide ((s.lane i).link = .down)
    | none => false
  if (s.quire q).st = .running ∧ down 0 ∧ down 1 then (s.modQuire q fun x => { x with st := .wait, tag := 0, since := s.clk, ready := false }).endSession q else s

/-! ### Retirement -/

/-- Transient events started in the last 10 s (TRANSIENTS). -/
def transients (now : Nat) (x : Lane) : Nat := (x.trans.filter fun t => decide (now < t + 10 * secU)).length

/-- The detail words of LANE_FOM_LOW and LANE_RETIRED (Table 13-6). -/
def laneDetail (now : Nat) (x : Lane) : List Nat := [uns 32 x.fom, min 15 (transients now x)]

/-- SPARE_MAP of a quad. -/
def State.spareMap (s : State) (q : Nat) : Nat := s.regBits (0x6040 + 4 * q) 2 4

/-- The spare of a retired working lane is brought in, if the three conditions of R293 hold; a loop it is in ends (R286). -/
def State.substitute (w func q : Nat) (s : State) : State :=
  let sp := spareOf w
  let x := s.lane sp
  if s.spareMap (w / 5) / 2 ^ (w % 5) % 2 = 1 ∧ x.unit = .spare ∧ x.eqValid then
    let s := (s.endLoop sp).modLane sp fun y => { y with unit := .inService, subst := true, for_ := w % 5, gen := nextGen y.gen, judged := s.clk }
    let s := s.logSub (instOf 1 w) (instOf 1 sp)
    if func = 0 ∨ func = 4 then s else s.startLane sp func q
  else s.raise .laneSpareExhausted (instOf 1 w) [] false

/-- The unit reaction of LANE_RETIRED: the lane stops, and its function passes (R289, R292, R293). -/
def State.retireLane (i : Nat) (s : State) : State :=
  let x := s.lane i
  let others := (s.peers i).filter fun k => k != i
  let s := (s.reportLoss i).setPortLink i false
  let s := others.foldl (fun s k => if (s.lane k).link = .up then (s.modLane k fun y => { y.lost with link := .realign, since := s.clk }).count (0x507 + 8 * k) 1 else s) s
  let s := (s.stopLane i).modLane i fun y => { y with unit := .retired, subst := false, for_ := 0, standby := false, gen := nextGen y.gen }
  let s := s.noteRecord
  if i % 5 = 4 then s else s.substitute i x.func x.quire

/-- The retirement condition is met: LANE_RETIRED, and at MAJOR or above the unit reaction; below, it is judged afresh (R289). -/
def State.laneWorn (i : Nat) (s : State) : State :=
  let x := s.lane i
  let r := s.raiseL .laneRetired (instOf 1 i) (laneDetail s.clk x) false true
  if 2 ≤ r.1 then r.2.retireLane i else r.2.modLane i fun y => { y with judged := s.clk + 1, retSince := none }

/-- The states in which R289 is judged. -/
def judgedIn (l : Link) : Bool := decide (l = .up) || decide (l = .realign) || decide (l = .idle)

/-- The start of what an event beginning at t0 belongs to: a fall of the mean below RETIRE_FOM that is in progress and may yet be an event itself (R288). -/
def Lane.eventFrom (x : Lane) (t0 : Nat) : Nat := match x.dipSince with
  | some d => if t0 ≤ d + secU then min d t0 else t0
  | none => t0

/-- An event starting at t0 is the same event as the last one: they overlap, the fall of the mean in progress joins them, or it starts within 1 ms of the last one's end (R288). -/
def Lane.sameEvent (x : Lane) (t0 : Nat) : Bool := match x.transEnd with
  | some e => decide (x.eventFrom t0 ≤ e + msU)
  | none => false

/-- The starts of events with the newest one beginning no later than t0. -/
def startBy (t0 : Nat) : List Nat → List Nat
  | [] => []
  | t :: r => min t t0 :: r

/-- A transient event on a lane from t0 to t1 (R288, R289). -/
def State.transient (i t0 t1 : Nat) (s : State) : State :=
  let x := s.lane i
  if x.sameEvent t0 then s.setLane i { x with trans := startBy t0 x.trans, transEnd := some (max t1 (x.transEnd.getD t1)) }
  else
    let ts := t0 :: x.trans.filter fun t => decide (t0 < t + 10 * secU)
    let s := (s.setLane i { x with trans := ts, transEnd := some t1 }).count (0x502 + 8 * i) 1
    if judgedIn x.link ∧ 3 ≤ (ts.filter fun t => decide (x.judged ≤ t) && decide (t0 ≤ t + 10 * secU)).length then s.laneWorn i else s

/-! ### Link states (Table 8-4) -/

/-- A lane reaches UP: LANE_LOS clears, and a loss regained within 1 ms counts as a transient event. -/
def State.laneUp (i : Nat) (s : State) : State :=
  let x := s.lane i
  let s := (s.setLane i { x with link := .up, since := s.clk, idleSeq := none, terr := if x.link = .idle then x.terr else 0 }).clear .laneLos (instOf 1 i)
  if x.link = .realign ∧ s.clk ≤ x.since + msU then s.transient i x.since s.clk else s

/-- Links from which an aligned receiver takes its lane UP. -/
def canAlign (l : Link) : Bool := decide (l = .acquire) || decide (l = .realign) || decide (l = .down)

/-- LANE_ALIGNED (R273): an Ethernet port's lanes go UP together, once none of them is missing (R279). -/
def execLaneAligned (dt i : Nat) (s : State) : Host.Outcome State Fault Refusal :=
  let s := (s.elapse dt).stateConflict (instOf 1 i) (decide ((s.lane i).unit = .retired))
  .next (if canAlign (s.lane i).link then
      match s.portOf i with
      | none => s.laneUp i
      | some p =>
        if (s.peers i).length = s.portWidth p then
          ((s.peers i).foldl (fun s k => if canAlign (s.lane k).link then s.laneUp k else s) s).setPortLink i true
        else s
    else s)

/-- A lane that was aligned loses alignment: REALIGN, and the report of R275. -/
def State.laneLoss (i : Nat) (s : State) : State :=
  let s := (s.modLane i fun x => { x.lost with link := .realign, since := s.clk }).count (0x507 + 8 * i) 1
  s.reportLoss i

/-- LANE_ALIGNMENT_LOSS (R274, R275). -/
def execLaneAlignmentLoss (dt i : Nat) (s : State) : Host.Outcome State Fault Refusal :=
  let s := s.elapse dt
  .next (if (s.lane i).link = .up then
      ((s.peers i).foldl (fun s k => if (s.lane k).link = .up then s.laneLoss k else s) s).setPortLink i false
    else s)

/-- ACQUIRE_TIMEOUT: LANE_LOS once for each stay in ACQUIRE. -/
def execAcquireTimeout (dt i : Nat) (s : State) : Host.Outcome State Fault Refusal :=
  let s := s.elapse dt
  let x := s.lane i
  .next (if x.link = .acquire ∧ ¬x.losRaised ∧ x.since + 50 * msU ≤ s.clk then
      (s.setLane i { x with losRaised := true }).raise .laneLos (instOf 1 i) [] true
    else s)

/-- REALIGN_TIMEOUT. -/
def execRealignTimeout (dt i : Nat) (s : State) : Host.Outcome State Fault Refusal :=
  let s := s.elapse dt
  let x := s.lane i
  .next (if x.link = .realign ∧ x.since + msU ≤ s.clk then
      let s := (s.setLane i { x.unaligned with link := .down, since := s.clk, losRaised := true }).raise .laneLos (instOf 1 i) [] true
      if x.func = 2 ∨ x.func = 3 then s.bothDown x.quire else s
    else s)

/-! ### Electrical idle -/

/-- The lane carries an end of a quire. -/
def Lane.isEnd (x : Lane) : Bool := x.func == 2 || x.func == 3

/-- IDLE_NICK_RECEIVE (R280, R282): Ethernet lanes never enter IDLE. -/
def execIdleNickReceive (dt i seq : Nat) (s : State) : Host.Outcome State Fault Refusal :=
  let s := s.elapse dt
  let x := s.lane i
  .next (if x.link = .up ∧ x.func ≠ 1 ∧ seq < 65520 ∧ seq % 20 ≠ 0 then s.setLane i { x with link := .idle, since := s.clk, idleSeq := some seq, rxSeq := some seq } else s)

/-- IDLE_WAKE_RECEIVE (R281, R282): a nick whose SEQ does not follow is not taken; a failure among the 3 that confirm is a loss of alignment. -/
def execIdleWakeReceive (dt i seq : Nat) (confirmed : Bool) (s : State) : Host.Outcome State Fault Refusal :=
  let s := s.elapse dt
  let x := s.lane i
  .next (if x.link = .idle ∧ x.idleSeq.map (fun n => (n + 1) % 65520) = some seq then
      (if confirmed then (s.laneUp i).modLane i fun y => { y with rxSeq := some seq } else s.laneLoss i)
    else s)

/-- IDLE_MAX. -/
def State.idleMax (s : State) : Nat := s.regBits 0x6008 0 10 * usU

/-- IDLE_BURST_TIMEOUT (R282). -/
def execIdleBurstTimeout (dt i : Nat) (s : State) : Host.Outcome State Fault Refusal :=
  let s := s.elapse dt
  let x := s.lane i
  .next (if x.link = .idle ∧ x.since + s.idleMax + 10 * usU ≤ s.clk then s.laneLoss i else s)

/-- 20 sheets of 10,880 symbols at 56.25 GBd (R267, R281). -/
def twentySheets : Nat := ceilDiv (20 * 10880 * 100 * nsU) 5625

/-- TRANSMITTER_IDLE (R351): that nothing waits to be sent and no mirrored item is due is the event's own. -/
def execTransmitterIdle (dt i : Nat) (s : State) : Host.Outcome State Fault Refusal :=
  let s := s.elapse dt
  let x := s.lane i
  .next (if s.regBit 0x6008 16 && x.isEnd && (decide (x.link = .up) || decide (x.link = .idle)) && x.txIdle.isNone && decide (x.txBusyTo ≤ s.clk) then
      (s.setLane i { x with txIdle := some s.clk }).count (0x504 + 8 * i) 1
    else s)

/-- TRANSMITTER_WAKE (R281). -/
def execTransmitterWake (dt i : Nat) (s : State) : Host.Outcome State Fault Refusal :=
  let s := s.elapse dt
  let x := s.lane i
  .next (match x.txIdle with
    | none => s
    | some t => (s.setLane i { x with txIdle := none, txBusyTo := if t + s.idleMax ≤ s.clk then s.clk + twentySheets else x.txBusyTo }).count (0x505 + 8 * i) ((s.clk - t) / usU))

/-! ### Margin and errors -/

/-- CODEWORD_UNCORRECTABLE (R272, R279, R288): one of an Ethernet port counts on every lane of it. -/
def execCodewordUncorrectable (dt i : Nat) (s : State) : Host.Outcome State Fault Refusal :=
  let s := s.elapse dt
  .next (if (s.lane i).link = .up then
      (s.peers i).foldl (fun s k =>
        ((s.modLane k fun x => { x with uncAt := s.clk :: x.uncAt.filter fun t => decide (s.clk < t + 2 * secU) }).count (0x501 + 8 * k) 1).transient k s.clk s.clk) s
    else s)

/-- LOW_FOM and RETIRE_FOM. -/
def State.lowFom (s : State) : Int := sgn 12 (s.regBits 0x6004 0 12)
def State.retireFom (s : State) : Int := sgn 12 (s.regBits 0x6004 16 12)

/-- An instant kept while a condition holds without a break. -/
def sinceWhen (c : Bool) (now : Nat) (t : Option Nat) : Option Nat := if c then some (t.getD now) else none

/-- A condition has held for d. -/
def heldFor (t : Option Nat) (d now : Nat) : Bool := match t with
  | some t => decide (t + d ≤ now)
  | none => false

/-- The figures of a lane after the mean of another millisecond (R278). -/
def Lane.margin (x : Lane) (f lo rt : Int) (now : Nat) : Lane :=
  { x with fom := f, foms := (now, f) :: x.foms.filter (fun e => decide (now < e.1 + secU)), lowSince := sinceWhen (decide (f < lo)) now x.lowSince,
           dipSince := sinceWhen (decide (f < rt)) now x.dipSince, highSince := sinceWhen (decide (lo + 16 ≤ f)) now x.highSince, retSince := sinceWhen (decide (f < rt)) now x.retSince }

/-- R290: LANE_FOM_LOW once per episode, and the end of the episode. -/
def State.judgeLow (i : Nat) (s : State) : State :=
  let x := s.lane i
  if !x.lowEp && heldFor x.lowSince (100 * msU) s.clk then
    let r := (s.setLane i { x with lowEp := true }).raiseL .laneFomLow (instOf 1 i) (laneDetail s.clk x) true true
    if 2 ≤ r.1 then (r.2.modLane i fun y => { y with unit := y.unit.worse .degraded }).noteRecord else r.2
  else if x.lowEp && heldFor x.highSince secU s.clk then (s.setLane i { x with lowEp := false }).clear .laneFomLow (instOf 1 i)
  else s

/-- R288 and R289: a mean below RETIRE_FOM for 1 s, or one that rises again within 1 s. -/
def State.judgeWear (i : Nat) (was : Option Nat) (s : State) : State :=
  let x := s.lane i
  if heldFor x.retSince secU s.clk then s.laneWorn i
  else match was with
    | none => s
    | some t => if x.dipSince.isNone ∧ s.clk ≤ t + secU then s.transient i t s.clk else s

/-- FOM of one window of 2^16 symbols from its SNR in 0.001 dB, and the mean of a millisecond's windows, rounded down (R278; log entry 102). -/
def fomOf (snr : Int) : Int := clampI (-2047) 2047 (16 * (snr - 18100) / 1000)
def fomMean (snrs : List Int) : Int := (snrs.map fomOf).foldl (· + ·) 0 / Int.ofNat snrs.length

/-- The limit of a receiver tap, in 1/64 of the main tap: FFE_LIM, or DFE_LIM for the feedback tap (R277). -/
def Lane.tapLimit (x : Lane) (k : Nat) : Int := Int.ofNat (if k = 16 then bits x.eqRx 16 5 else bits x.eqRx 8 5)

/-- The receiver adapts while its lane is UP and in no near-end parallel loop (R277). -/
def State.adapting (s : State) (i : Nat) : Bool := decide ((s.lane i).link = .up) && decide (s.loop i ≠ 2)

/-- What a lane's receiver did since the last mean: taps adapted within their limits, codewords corrected, and test body bits in error (R277, R284, R294); all free values. -/
def State.received (i : Nat) (s : State) : State :=
  let r := s.draw
  let x := s.lane i
  let n := Config.corrected r.1 i
  let taps := (List.range 17).map fun k => if k = 4 then Config.rxTap r.1 i k else clampI (-x.tapLimit k) (x.tapLimit k) (Config.rxTap r.1 i k)
  (r.2.setLane i { x with taps := if s.adapting i then taps else x.taps, corrAt := (s.clk, n) :: x.corrAt.filter (fun e => decide (s.clk < e.1 + 2 * secU)), terr := if s.regBit (laneReg i) 2 then satU 32 (x.terr + Config.bodyErrors r.1 i) else x.terr }).count (0x500 + 8 * i) n

/-- LANE_FOM_UPDATE, with the SNR of the millisecond's windows (R278): R290 is judged while the receiver is aligned, R289 in REALIGN too. -/
def execLaneFomUpdate (dt i : Nat) (snrs : List Int) (s : State) : Host.Outcome State Fault Refusal :=
  let s := s.elapse dt
  let x := s.lane i
  .next (if (x.link = .up ∨ x.link = .idle) ∧ snrs ≠ [] then
      ((s.received i).modLane i fun y => y.margin (fomMean snrs) s.lowFom s.retireFom s.clk) |>.judgeLow i |>.judgeWear i x.dipSince
    else if x.link = .realign then s.judgeWear i none
    else s)

/-- EQ_LIMIT (R277): a tap other than the main one has rested at a limit for 1 s while the receiver adapted. -/
def execEqLimit (dt : Nat) (l : TapLimit) (s : State) : Host.Outcome State Fault Refusal :=
  let s := s.elapse dt
  let x := s.lane l.lane
  let tap := l.tap
  .next (if s.adapting l.lane ∧ tap < 17 ∧ tap ≠ 4 then
      s.setLane l.lane { x with eqLimit := true, taps := setNth ((List.range 17).map (nthD 0 x.taps)) tap (if l.high then x.tapLimit tap else -x.tapLimit tap) }
    else s)

/-! ### Slices (R472) -/

/-- e of the slices of a lane, 36 of them. -/
def Lane.errors (x : Lane) : List Nat := (List.range 36).map (nthD 0 x.sliceE)

/-- Worst e in use and best e unused (Table 14-6). -/
def Lane.worstE (x : Lane) : Nat := maxD 0 ((List.range 36).filter (x.inUse ·) |>.map (nthD 0 x.errors))
def Lane.bestUnused (x : Lane) : Option Nat := (sliceOrder x.errors).find? fun k => !x.inUse k
def Lane.bestE (x : Lane) : Nat := match x.bestUnused with
  | some k => nthD 0 x.errors k
  | none => 0

/-- Slices u (used, error eu) and k (checked, error ex) measured again; u changes places with the best unused one when it is worse by more than E_SWAP. -/
def Lane.sliceCheck (x : Lane) (u eu k ex eSwap : Nat) : Lane :=
  let y := { x with sliceE := setNth (setNth x.errors u (eu % 256)) k (ex % 256) }
  match y.bestUnused with
  | none => y
  | some b => if nthD 0 y.errors b + eSwap < eu % 256 then { y with slices := y.slices - 2 ^ u + 2 ^ b, swaps := satU 8 (y.swaps + 1) } else y

/-- SLICE_CHECK: in a near-end loop the two are measured and none is swapped. -/
def execSliceCheck (dt i u eu x ex : Nat) (s : State) : Host.Outcome State Fault Refusal :=
  let s := s.elapse dt
  let l := s.lane i
  let eSwap := if s.loop i = 1 ∨ s.loop i = 2 then 255 else s.regBits 0xD008 16 8
  .next (if l.link = .up ∧ u < 36 ∧ x < 36 ∧ l.inUse u ∧ ¬l.inUse x then
      let y := l.sliceCheck u eu x ex eSwap
      let s := s.setLane i y
      if y.slices = l.slices then s else s.count (0x506 + 8 * i) 1
    else s)

end Sys2Proof.Machine
end

