-- ==== Sys2Proof/Machine/Time.lean ====
section
/-! DEFINITION. Module time and PTP (R376 to R389, Table 11-1), the impression generator (R390 to R392), time on the quire (R394 to R401), and link sheets (R271, R285). Times that messages carry are in 2^-16 ns. -/

namespace Sys2Proof.Machine

open Sys2Proof

/-! ### Masters (R381 to R383) -/

/-- An entry of the table matches a source (R382). -/
def State.amMatch (s : State) (e : Nat) (src : PtpSrc) : Bool :=
  let o := 0x8100 + 32 * e
  s.regBit (o + 8) 16 && (s.regBit (o + 8) 17 == src.ipv6) && decide (s.amAddr e = src.addr) &&
    decide (src.clockId.toNat = (s.reg o).toNat + (s.reg (o + 4)).toNat * 2 ^ 32) &&
    (decide (s.regBits (o + 8) 0 16 = 0) || decide (s.regBits (o + 8) 0 16 = src.portNo))

/-- The acceptable-master entry of a message, when the module takes it (R380 to R382). -/
def State.ptpEntry (s : State) (src : PtpSrc) : Option Nat :=
  if s.ptpPort src.port && (s.timCtrl 1 == src.ipv6) && decide (src.domain = s.regBits 0x8004 8 7) then (List.range 8).find? fun e => s.amMatch e src else none

/-- 2^n seconds. -/
def logSec (n : Int) : Nat := if 0 ≤ n then secU * 2 ^ n.toNat else secU / 2 ^ (-n).toNat

/-- Announce interval of a master. -/
def Master.interval (m : Master) : Nat := logSec m.ann.logInt

/-- What the data sets of two masters compare, lower first: the grandmaster, then stepsRemoved and the port (R383). -/
def Master.rank (m : Master) : List Nat :=
  let a := m.ann
  [a.prio1, a.clkClass, a.accuracy, a.variance, a.prio2, a.gm.toNat, a.steps, m.src.port, m.src.clockId.toNat, m.src.portNo]

/-- Lexicographic order. -/
def lexLe : List Nat → List Nat → Bool
  | [], _ => true
  | _, [] => false
  | a :: s, b :: t => if a = b then lexLe s t else decide (a < b)

/-- The best qualified master. -/
def bestMaster (l : List Master) : Option Master := (sortBy (fun a b => lexLe a.rank b.rank) (l.filter (·.qualified))).head?

/-- The record of the selected master. -/
def State.selMaster (s : State) : Option Master := s.tim.masters.find? fun m => decide (s.tim.sel = some m.src)

/-- Entry to TRACKING from HOLDOVER: TIME_MASTER_CHANGE, and TIME_FREERUN's episode ends (Table 11-1). -/
def State.fromHoldover (port : Nat) (s : State) : State :=
  let s : State := { s with tim := { s.tim with servo := .tracking, inRow := 0, outRow := 0, atStart := false, freerunEp := false } }
  (s.raise .timeMasterChange (instOf 7 port) [] false).clear .timeFreerun 0

/-- A master is taken, or none (Table 11-1). -/
def State.takeMaster (new : Option Master) (s : State) : State :=
  let s : State := { s with tim := { s.tim with sel := new.map (·.src), exch := [], syncAt := none, reqAt := none, lastSync := none, nextReq := s.clk, atStart := false } }
  match new, s.tim.servo with
  | some _, .unset => { s with tim := { s.tim with servo := .qualify } }
  | some _, .qualify => s
  | some m, .holdover => s.fromHoldover m.src.port
  | some m, _ => s.raise .timeMasterChange (instOf 7 m.src.port) [] false
  | none, .qualify => { s with tim := { s.tim with servo := .unset } }
  | none, .tracking => ({ s with tim := { s.tim with servo := .holdover, freerunEp := true } } : State).raise .timeFreerun 0 [] true
  | none, .locked => ({ s with tim := { s.tim with servo := .holdover, freerunEp := true } } : State).raise .timeFreerun 0 [] true
  | none, _ => s

/-- The grandmaster's figures shown by TIM_GM and TIM_UTC. -/
def State.showMaster (s : State) : State :=
  match s.selMaster with
  | none => s
  | some m => { s with tim := { s.tim with gm := m.ann.gm, utc := m.ann.utcOffset, utcValid := m.ann.utcValid } }

/-- The selection judged again. -/
def State.reselectMaster (s : State) : State :=
  let b := bestMaster s.tim.masters
  (if b.map (·.src) = s.tim.sel then s else s.takeMaster b).showMaster

/-- The masters that the registers still make acceptable, and the selection among them (R382, R383; log entry 55). -/
def State.judgeMasters (s : State) : State :=
  ({ s with tim := { s.tim with masters := s.tim.masters.filter fun m => (s.ptpEntry m.src).isSome } } : State).reselectMaster

/-- A master that has announced itself: it qualifies at 2 messages within 4 intervals (R380). -/
def Master.announced (m : Master) (e : Nat) (a : Announce) (now : Nat) : Master :=
  let h := now :: m.heard.filter fun t => decide (now ≤ t + 4 * logSec a.logInt)
  { m with entry := e, ann := a, heard := h, qualified := m.qualified || decide (2 ≤ h.length) }

/-- PTP_ANNOUNCE (R380, R383): intervals from 2^-3 s to 2 s are accepted. -/
def execPtpAnnounce (dt : Nat) (src : PtpSrc) (a : Announce) (s : State) : Host.Outcome State Fault Refusal :=
  let s := s.elapse dt
  .next (match s.ptpEntry src with
    | none => s
    | some e =>
      if a.logInt < -3 ∨ 1 < a.logInt then s
      else
        let upd (m : Master) : Master := if m.src = src then m.announced e a s.clk else m
        let l := if s.tim.masters.any fun m => decide (m.src = src) then s.tim.masters.map upd
          else s.tim.masters ++ [{ src := src, entry := e, ann := a, heard := [s.clk] }]
        ({ s with tim := { s.tim with masters := l } } : State).reselectMaster)

/-- ANNOUNCE_RECEIPT_TIMEOUT (R380, R383): 3 intervals without an Announce lose the master of that number. -/
def execAnnounceReceiptTimeout (dt n : Nat) (s : State) : Host.Outcome State Fault Refusal :=
  let s := s.elapse dt
  .next (match s.tim.masters[n]? with
    | none => s
    | some m =>
      if m.heard.head?.getD 0 + 3 * m.interval ≤ s.clk then
        ({ s with tim := { s.tim with masters := s.tim.masters.filter fun x => decide (x.src ≠ m.src) } } : State).reselectMaster
      else s)

/-! ### The servo (Table 11-1, R385 to R387) -/

/-- The bound of RATE: 100 ppm, and 10 ppm, in 2^-40. -/
def ratePpm100 : Int := 109951163
def ratePpm10 : Nat := 10995116

/-- VALID and the P in force hold both from this instant (R392). -/
def State.noteReady (s : State) : State :=
  if s.tim.valid && s.tim.pUse.isSome && s.tim.readyAt.isNone then { s with tim := { s.tim with readyAt := some s.tim.time } } else s

/-- Module time set, once only (R377, R385, R389). -/
def State.setTime (t : Nat) (rate : Int) (v : Servo) (s : State) : State :=
  ({ s with tim := { s.tim with time := t, resid := 0, rate := rate, rateAt := s.clk, servo := v, valid := true, exch := [], inRow := 0, outRow := 0, syncAt := none,
                                reqAt := none, lastSync := none } } : State).noteReady

/-- ASYM of a port in mode 1, in 2^-16 ns (R384). -/
def State.portAsym (s : State) (p : Nat) : Int :=
  let w := s.reg (0x8200 + 4 * p)
  if bit w 0 then sgn 16 (bits w 16 16) * nsU else 0

/-- The single step: 16 exchanges whose offsets span less than 1 µs once the trend is removed (R385). -/
def State.singleStep (off : Int) (s : State) : State :=
  let r := s.draw
  r.2.setTime (Int.ofNat s.tim.time - off).toNat (clampI (-ratePpm100) ratePpm100 (Config.stepRate r.1)) .tracking

/-- An exchange while time is followed: the filtered offset and the rate the firmware asks for are free values (R556, log entry 1); RATE keeps the bounds of R386. -/
def State.follow (s : State) : State :=
  let r := s.draw
  let o := clampI (-2147483648) 2147483647 (Config.servoOffset r.1)
  let d := Int.ofNat (ratePpm10 * (s.clk - s.tim.rateAt) / secU)
  let rate := clampI (s.tim.rate - d) (s.tim.rate + d) (clampI (-ratePpm100) ratePpm100 (Config.servoRate r.1))
  let inR := if o.natAbs ≤ 100 then s.tim.inRow + 1 else 0
  let outR := if 1000 < o.natAbs then s.tim.outRow + 1 else 0
  let v : Servo := if s.tim.servo = .tracking then (if 16 ≤ inR then .locked else .tracking) else if 16 ≤ outR then .tracking else .locked
  let same := decide (v = s.tim.servo)
  { r.2 with tim := { s.tim with offset := o, rate := rate, rateAt := s.clk, servo := v, slewing := decide (1000 < o.natAbs), inRow := if same then inR else 0,
                                 outRow := if same then outR else 0 } }

/-- An exchange complete: the master's time at the departure of a Sync and its arrival. The servo pauses during a supervisor reset (R528). -/
def State.exchange (origin : Nat) (arrival : Int) (s : State) : State :=
  if !s.sys.supRun then s else
  let off := arrival - Int.ofNat origin - Int.ofNat s.tim.path
  let s : State := { s with tim := { s.tim with lastSync := some (origin, arrival.toNat), syncAt := none, pathShown := s.tim.path } }
  match s.tim.servo with
  | .unset => s
  | .qualify =>
    let l := s.tim.exch ++ [off]
    if l.length < 16 then { s with tim := { s.tim with exch := l } }
    else if Config.trendRemovedSpan l < usU then s.singleStep off
    else { s with tim := { s.tim with exch := [] } }
  | .holdover => if s.tim.atStart then s.fromHoldover ((s.tim.sel.map (·.port)).getD 0) else s
  | _ => s.follow

/-- PTP_SYNC (R380): only the selected master's messages drive the servo. -/
def execPtpSync (dt : Nat) (src : PtpSrc) (k : SyncKind) (s : State) : Host.Outcome State Fault Refusal :=
  let s := s.elapse dt
  let t2 := Int.ofNat s.tim.time - s.portAsym src.port
  .next (if s.ptpEntry src = none ∨ s.tim.sel ≠ some src then s
    else match k with
      | .oneStep o => s.exchange o t2
      | .twoStep => { s with tim := { s.tim with syncAt := some t2.toNat } }
      | .followUp o => match s.tim.syncAt with
        | none => s
        | some t => s.exchange o (Int.ofNat t))

/-- The randomised interval to the next Delay_Req (R381). -/
def State.armDelayReq (s : State) : State :=
  let r := s.draw
  { r.2 with tim := { s.tim with nextReq := s.clk + Config.delayReqJitter r.1 % (2 * logSec s.tim.reqLog + 1) } }

/-- PTP_DELAY_RESP (R381): the mean path delay, and the interval clamped to 2^-7 s to 2 s. -/
def execPtpDelayResp (dt : Nat) (src : PtpSrc) (t4 : Nat) (logInt : Int) (s : State) : Host.Outcome State Fault Refusal :=
  let s := s.elapse dt
  .next (if s.ptpEntry src = none ∨ s.tim.sel ≠ some src then s
    else match s.tim.reqAt with
      | none => s
      | some t3 =>
        let path := match s.tim.lastSync with
          | none => s.tim.path
          | some (t1, t2) => ((Int.ofNat t2 - Int.ofNat t1 + (Int.ofNat t4 - Int.ofNat t3)) / 2).toNat
        { s with tim := { s.tim with path := path, reqAt := none, reqLog := clampI (-7) 1 logInt } })

/-- clockIdentity of a port: its MAC address widened to EUI-64 (R381). -/
def State.portClockId (s : State) (p : Nat) : DWord :=
  let hi := s.regBits (portReg p + 12) 0 16
  let lo := (s.reg (portReg p + 8)).toNat
  BitVec.ofNat 64 ((hi * 256 + lo / 2 ^ 24) * 2 ^ 40 + 0xFFFE * 2 ^ 24 + lo % 2 ^ 24)

/-- DELAY_REQ_SEND (R381): to the group, or to the selected master's address. -/
def execDelayReqSend (dt : Nat) (s : State) : Host.Outcome State Fault Refusal :=
  let s := s.elapse dt
  .next (match s.tim.sel with
    | none => s
    | some src =>
      if s.ptpPort src.port ∧ s.tim.nextReq ≤ s.clk then
        let s := s.sendNet src.port (.delayReq (if s.timCtrl 2 then some src.addr else none) (s.portClockId src.port) 1)
        let s : State := { s with tim := { s.tim with reqAt := some (Int.ofNat s.tim.time - s.portAsym src.port).toNat } }
        s.armDelayReq
      else s)

/-! ### Module time registers -/

/-- The number of a servo state (Table 11-7). -/
def Servo.code : Servo → Nat
  | .unset => 0
  | .qualify => 1
  | .tracking => 2
  | .locked => 3
  | .holdover => 4

/-- A write of TIM_SNAP (R378). -/
def State.writeSnap (v : Word) (s : State) : State :=
  if bit v 0 then
    { s with tim := { s.tim with snapS := BitVec.ofNat 64 (s.tim.time / secU), snapNs := BitVec.ofNat 32 (s.tim.time / nsU % 1000000000),
                                 snapFrac := pack [(0, s.tim.time % 65536), (16, s.tim.servo.code), (19, b2n s.tim.valid)] } }
  else s

/-- TIME_SNAP. -/
def execTimeSnap (dt : Nat) (v : Word) (s : State) : Host.Outcome State Fault Refusal := .next ((s.elapse dt).writeSnap v)

/-- A write of TIM_SET_NS (R379, R389). -/
def State.writeSetNs (v : Word) (s : State) : State :=
  let s := s.writeReg 0x8028 v
  let ns := bits v 0 30
  if 999999999 < ns then s
  else if s.timCtrl 3 ∧ (s.tim.servo = .unset ∨ s.tim.servo = .qualify) then
    let t := ((s.reg 0x8020).toNat + (s.reg 0x8024).toNat * 2 ^ 32) * 1000000000 + ns
    let s := s.setTime (t * nsU) 0 .holdover
    { s with tim := { s.tim with atStart := s.tim.sel.isSome } }
  else { s with tim := { s.tim with setIgnored := true } }

/-- HOST_START. -/
def execHostStart (dt : Nat) (v : Word) (s : State) : Host.Outcome State Fault Refusal := .next ((s.elapse dt).writeSetNs v)

/-! ### The impression generator (R390 to R392) -/

/-- The first k whose tick falls at or after a module time. -/
def firstTick (p : Nat × Nat × Nat) (t : Nat) : Int :=
  let x := (Int.ofNat t - Int.ofNat (p.2.2 * nsU)) * Int.ofNat p.2.1
  let y := Int.ofNat (max 1 (p.1 * secU))
  (x + y - 1) / y

/-- The values written pass the checks of R390; the egress check is made while the generator runs. -/
def State.periodOk (s : State) (p : Nat × Nat × Nat) : Bool :=
  let (n, d, a) := p
  decide (n ≠ 0 ∧ d ≠ 0 ∧ d ≤ 240 * n ∧ 24000 * n ≤ 1001 * d ∧ a * d < n * 1000000000) &&
    (!s.tim.genRun || (s.imp.setup.egressFail s.leaves (some p) (min s.cmp.sUs (periodU p / 2 / usU))).isNone)

/-- A write of TIM_P_COMMIT. -/
def State.writePCommit (v : Word) (s : State) : State :=
  if !bit v 0 then s
  else
    let p := ((s.reg 0x8050).toNat, (s.reg 0x8054).toNat, s.regBits 0x8058 0 30)
    if !s.periodOk p then { s with tim := { s.tim with pRefused := true } }
    else
      let s : State := { s with tim := { s.tim with pRefused := false } }
      match s.tim.genRun, s.tim.pUse with
      | true, some old => { s with tim := { s.tim with pPend := some (p, (firstTick old s.tim.time + 2).toNat) } }
      | _, _ => ({ s with tim := { s.tim with pUse := some p, readyAt := none } } : State).noteReady

/-- P_COMMIT. -/
def execPCommit (dt : Nat) (v : Word) (s : State) : Host.Outcome State Fault Refusal := .next ((s.elapse dt).writePCommit v)

/-- The index of the first tick: at least 10 ms after VALID and an accepted P hold both (R392). -/
def State.firstIndex (s : State) : Option Nat :=
  match s.tim.genRun, s.tim.pUse, s.tim.readyAt with
  | false, some p, some t => some (firstTick p (t + 10 * msU)).toNat
  | _, _, _ => none

/-- GENERATOR_START (R392): the first tick, which opens the window of impression 1. -/
def execGeneratorStart (dt : Nat) (s : State) : Host.Outcome State Fault Refusal :=
  let s := s.elapse dt
  .next (match s.firstIndex, s.tim.pUse with
    | some k, some p =>
      if tickTime p k ≤ s.tim.time then
        let t := ({ s with tim := { s.tim with genRun := true, tickK := k - 1 } } : State).tick
        if k = 0 then { t with tim := { t.tim with tickAt := tickTime p 0, tickK := 0 } } else t
      else s
    | _, _ => s)

/-! ### Time on the quire -/

/-- A TIME is due: 1 ms after the one before, or with the opening part just sent (R397). -/
def State.timeDue (s : State) (q : Nat) : Bool :=
  let x := s.quire q
  (decide (x.st = .adopting) || decide (x.st = .running)) &&
    (decide (x.timeAt + msU ≤ s.clk) || x.hdrSent.any fun e => e.1 == 0 && decide (x.timeAt ≤ e.2))

/-- TIME on one lane-end (Table 11-3); the sheet it starts in departs at this instant. -/
def State.sendTime (q d : Nat) (s : State) : State :=
  if s.endUp q d then
    let r := s.draw
    r.2.sendQ q d (.time (Config.sheetSeq r.1) s.tim.time (b2n (decide (s.tim.servo = .locked)) + 2 * b2n (decide (s.tim.servo = .holdover)) + 4 * d) s.tim.rate)
  else s

/-- TIME_PACKET_SEND. -/
def execTimePacketSend (dt q : Nat) (s : State) : Host.Outcome State Fault Refusal :=
  let s := s.elapse dt
  .next (if q < 16 ∧ s.timeDue q then ((s.sendTime q 0).sendTime q 1).modQuire q fun x => { x with timeAt := s.clk } else s)

/-! ### Link sheets (R271, R285, R395, R396, R401) -/

/-- ASYM a lane-end sends, in 1/16 ns (R396). -/
def State.endAsym (s : State) (x : Lane) : Int :=
  let w := s.reg (0x8280 + 8 * x.quire + 4 * (x.func - 2))
  if bit w 0 then 16 * sgn 16 (bits w 16 16) else 0

/-- A lane with another echo: the mean of each second is in force in the next; the first after 1 ms of alignment and 256 echoes (R395). -/
def Lane.echo (x : Lane) (fwd : Int) (now : Nat) : Lane :=
  let y := { x with fwdSum := x.fwdSum + fwd, fwdCount := x.fwdCount + 1 }
  let due := match x.fwd with
    | none => decide (256 ≤ y.fwdCount) && decide (x.since + msU ≤ now)
    | some _ => decide (x.fwdAt + secU ≤ now)
  if due then { y with fwd := some (y.fwdSum / Int.ofNat y.fwdCount), fwdSum := 0, fwdCount := 0, fwdAt := now } else y

/-- What a link sheet tells of its sender, and whether the far end loops (R271, R285). -/
def Lane.heardLink (x : Lane) (l : LinkSheet) : Lane :=
  { x with partnerFom := l.rxFom, partnerCorr := l.fecCorr, partnerUnc := l.fecUnc, loopActive := decide (l.loop = 2), cum := if l.cumValid then some l.cum else none }

/-- The mean delay of a direction, D_X (R356), in ns. -/
def State.ringDelay (s : State) (q d : Nat) : Nat :=
  let l := ((s.quire q).dir d).delays
  if l.length < 1024 then s.nLeaves q * 300 + 1000 else sumN l / l.length / nsU

/-- TIM_Qq_RING of the direction a lane-end receives (R401): the A-end receives direction B. -/
def State.showRing (i : Nat) (s : State) : State :=
  let x := s.lane i
  match x.fwd, x.cum with
  | some f, some c =>
    if x.isEnd then
      let d := if x.func = 2 then 1 else 0
      let ns := ((Int.ofNat c + f) / 16).toNat
      s.modQuire x.quire fun y => y.setDir d { y.dir d with ring := satU 16 ns, ringDiff := satS 16 (Int.ofNat ns - Int.ofNat (s.ringDelay x.quire d)) }
    else s
  | _, _ => s

/-- LINK_SHEET_RECEIVE: a sheet that fails its CRC is ignored. -/
def execLinkSheetReceive (dt i : Nat) (l : LinkSheet) (s : State) : Host.Outcome State Fault Refusal :=
  let s := s.elapse dt
  let x := s.lane i
  .next (if l.crcOk ∧ x.link = .up ∧ x.func ≠ 1 then
      let y := x.heardLink l
      let y := if l.echoValid ∧ x.isEnd then y.echo ((Int.ofNat l.rtt - Int.ofNat l.turn + l.asym - s.endAsym x) / 2) s.clk else y
      (s.setLane i y).showRing i
    else s)

end Sys2Proof.Machine
end

