-- ==== Sys2Proof/Machine/Refs.lean ====
section
/-! DEFINITION. The frequency references of the registration PLL (R402 to R408): quality levels, validity and eligibility of the candidates, selection, phase build-out and free run. -/

namespace Sys2Proof.Machine

open Sys2Proof

/-- Rank of a quality level, lower is better; none for DNU and every other code (R405). -/
def qlRank (q : Nat) : Option Nat := if q = 2 then some 0 else if q = 4 then some 1 else if q = 8 then some 2 else if q = 11 then some 3 else none

/-- A candidate is valid (R405). -/
def Cand.valid (x : Cand) : Bool := x.signal && x.inRange && !x.qlFailed && (qlRank x.ql).isSome

/-- Validity judged: a candidate that is not valid is not eligible; one that becomes valid starts to wait. -/
def Cand.judge (x : Cand) (now : Nat) : Cand := if x.valid then { x with validSince := some (x.validSince.getD now) } else { x with validSince := none, eligible := false }

/-- Waiting time before a candidate is eligible (R405). -/
def Cand.wait (x : Cand) : Nat := if x.everElig then 300 * secU else 10 * secU

/-- The candidate the PLL is to follow: best quality level, then lowest index (R406). -/
def State.bestCand (s : State) : Option Nat :=
  let l := (List.range 10).filterMap fun c => let x := s.cand c
    match x.eligible, qlRank x.ql with
    | true, some r => some (r, c)
    | _, _ => none
  (sortBy (fun a b : Nat × Nat => decide (a.1 < b.1 ∨ a.1 = b.1 ∧ a.2 ≤ b.2)) l).head?.map (·.2)

/-- Free run: REF_FREERUN once for the episode (R408). -/
def State.freeRun (s : State) : State :=
  if s.refs.sel = 15 ∧ ¬s.refs.freeEp then ({ s with refs := { s.refs with freeEp := true } } : State).raise .refFreerun 0 [] true else s

/-- The PLL follows its choice (R406, R408). -/
def State.reselectRef (s : State) : State :=
  let b := s.bestCand.getD 15
  if b = s.refs.sel then s
  else if b = 15 then ({ s with refs := { s.refs with sel := 15, freerun := true, buildout := false, locked := false } } : State).freeRun
  else
    let s := ({ s with refs := { s.refs with sel := b, freerun := false, freeEp := false, buildout := true, locked := false } } : State).raise .refSwitch (instOf 13 b) [] false
    s.clear .refFreerun 0

/-- A candidate changed, and judged. -/
def State.judgeCand (c : Nat) (f : Cand → Cand) (s : State) : State := (s.modCand c fun x => (f x).judge s.clk).reselectRef

/-- A candidate's quality level set. -/
def Cand.setQl (now q : Nat) (x : Cand) : Cand := { x with ql := q % 16, qlFailed := false, qlTimeout := false, qlAt := now }

/-- ESMC_PDU (R403). -/
def execEsmcPdu (dt m ssm : Nat) (_event : Bool) (s : State) : Host.Outcome State Fault Refusal :=
  let s := s.elapse dt
  .next (if m < 8 ∧ s.portActive (4 * m) then s.judgeCand m (Cand.setQl s.clk ssm) else s)

/-- A REFQL frame of the given bytes: none when its CRC fails, otherwise its version and QL. -/
def refqlGood (l : List Byte) : Option (Nat × Nat) :=
  if (crc16 0xFFFF (l.take 6)).toNat = beNat (slice l 6 2) then some ((nthD 0 l 2).toNat, (nthD 0 l 3).toNat % 16) else none

/-- A bad REFQL frame counted; those of the last second are kept. -/
def State.qlError (i : Nat) (s : State) : State :=
  let add (l : List Nat) : List Nat := s.clk :: lastSec s.clk l
  if i = 0 then { s with refs := { s.refs with qlErr0 := add s.refs.qlErr0 } } else { s with refs := { s.refs with qlErr1 := add s.refs.qlErr1 } }

/-- REFQL_FRAME (R404). -/
def execRefqlFrame (dt i : Nat) (bytes : List Byte) (s : State) : Host.Outcome State Fault Refusal :=
  let s := s.elapse dt
  .next (if i < 2 ∧ bytes.length = 8 ∧ bytes.take 2 = [0xA5, 0x5A] then
      match refqlGood bytes with
      | none => s.qlError i
      | some (v, q) => if v = 1 then s.judgeCand (8 + i) (Cand.setQl s.clk q) else s
    else s)

/-- QL_TIMEOUT (R403, R404). -/
def execQlTimeout (dt c : Nat) (s : State) : Host.Outcome State Fault Refusal :=
  let s := s.elapse dt
  let x := s.cand c
  let fail (x : Cand) : Cand := { x with ql := 15, qlFailed := true, qlTimeout := true }
  .next (if c < 10 ∧ ¬x.qlTimeout ∧ x.qlAt + 5 * secU ≤ s.clk then s.judgeCand c fail else s)

/-- What a 100 ms window shows of a candidate (R404, R405): REFIN inputs have signal only within ±50 ppm of 10 MHz or 25 MHz. -/
def Cand.window (c : Nat) (signal : Bool) (freq : Int) (fin : Nat) (x : Cand) : Cand :=
  let sig := signal && (decide (c < 8) || (decide (fin = 1 ∨ fin = 2) && decide (freq.natAbs ≤ 50000)))
  { x with signal := sig, inRange := sig && decide (freq.natAbs ≤ 20000), freq := satS 32 freq, fin := if 8 ≤ c ∧ sig then fin else 0 }

/-- CANDIDATE_WINDOW: a recovered clock is there only with the link of its port (R402, R405). -/
def execCandidateWindow (dt c : Nat) (signal : Bool) (freq : Int) (fin : Nat) (s : State) : Host.Outcome State Fault Refusal :=
  let s := s.elapse dt
  .next (if c < 10 then s.judgeCand c (Cand.window c (signal && (decide (8 ≤ c) || (s.port (4 * c)).link)) freq fin) else s)

/-- CANDIDATE_ELIGIBLE (R405). -/
def execCandidateEligible (dt c : Nat) (s : State) : Host.Outcome State Fault Refusal :=
  let s := s.elapse dt
  let x := s.cand c
  .next (match x.validSince with
    | none => s
    | some t => if c < 10 ∧ ¬x.eligible ∧ t + x.wait ≤ s.clk then (s.setCand c { x with eligible := true, everElig := true }).reselectRef else s)

/-- CANDIDATE_SIGNAL_LOSS (R405). -/
def execCandidateSignalLoss (dt c : Nat) (s : State) : Host.Outcome State Fault Refusal :=
  let s := s.elapse dt
  let lose (x : Cand) : Cand := { x with signal := false, inRange := false, fin := 0 }
  .next (if c < 10 then s.judgeCand c lose else s)

/-- TCXO_COMPENSATION (R408): in 0.001 ppm, from the factory curve (log entry 1). -/
def execTcxoCompensation (dt : Nat) (temp : Int) (s : State) : Host.Outcome State Fault Refusal :=
  let s := s.elapse dt
  .next ({ s with refs := { s.refs with tcxoTemp := satS 16 temp, tcxoComp := satS 16 (Config.tcxoCurve temp) } } : State).freeRun

/-- PHASE_BUILD_OUT_DONE (R406). -/
def execPhaseBuildOutDone (dt : Nat) (s : State) : Host.Outcome State Fault Refusal :=
  let s := s.elapse dt
  .next (if s.refs.buildout then { s with refs := { s.refs with buildout := false, locked := true } } else s)

end Sys2Proof.Machine
end

