-- ==== Sys2Proof/Machine/Dram.lean ====
section
/-! DEFINITION. The memory section in service: sensors and training (R417 to R420), row disturbance (R421 to R424), errors and their owners (R425 to R431, Table 12-2), row repair (R432), and the retirement, migration and return of pseudo-channels (R434 to R437). -/

namespace Sys2Proof.Machine

open Sys2Proof

/-! ### Sensors (R458) -/

/-- A sensor's reading in 1/16 °C: the mean of its last 4 samples; none while it has failed or has not been read. -/
def State.sensor (s : State) (k : Nat) : Option Int :=
  let l := tget [] s.thp.samples k
  if k ∈ s.thp.failed ∨ l = [] then none else some (l.foldl (· + ·) 0 / Int.ofNat l.length)

/-- The valid readings of a group of sensors, with their numbers; a group that has failed whole counts as one sensor at 110 °C. -/
def State.group (s : State) (l : List Nat) : List (Nat × Int) :=
  let v := l.filterMap fun k => (s.sensor k).map fun t => (k, t)
  if v = [] ∧ l.all (fun k => decide (k ∈ s.thp.failed)) then (match l.head? with | some k => [(k, 1760)] | none => []) else v

/-- Sensors of the die, of HBM stack n and of the power stage. -/
def dieSensors : List Nat := List.range 12
def hbmSensors (n : Nat) : List Nat := [12 + 2 * n, 13 + 2 * n]
def pwrSensors : List Nat := [16, 17, 18, 19]

/-- Every group's readings. -/
def State.readings (s : State) : List (Nat × Int) := s.group dieSensors ++ s.group (hbmSensors 0) ++ s.group (hbmSensors 1) ++ s.group pwrSensors

/-- The readings of a list lie between 0 °C and 85 °C. -/
def inRange (l : List (Nat × Int)) : Bool := decide (l ≠ []) && l.all fun e => decide (0 ≤ e.2) && decide (e.2 ≤ 1360)

/-- Both stacks may be trained (R418). -/
def State.trainTemp (s : State) : Bool := inRange (s.group (hbmSensors 0)) && inRange (s.group (hbmSensors 1))

/-- Training is asked for: it waits under TEMP_HOLD outside the range. -/
def State.holdTraining (s : State) : State := { s with mem := { s.mem with tempHold := !s.trainTemp, holdAt := s.clk } }

/-- TRAINING_TEMP_RECHECK (R418). -/
def execTrainingTempRecheck (dt : Nat) (s : State) : Host.Outcome State Fault Refusal :=
  let s := s.elapse dt
  .next (if s.mem.tempHold ∧ s.mem.holdAt + 100 * msU ≤ s.clk then s.holdTraining else s)

/-! ### Retirement and migration -/

/-- A pseudo-channel becomes DEGRADED: it takes no new extent (R434, R435). -/
def State.degradePc (p : Nat) (s : State) : State := (s.modPc p fun x => { x with unit := x.unit.worse .degraded }).noteRecord

/-- The retirement condition (R434). -/
def State.retirePc (p : Nat) (s : State) : State :=
  let r := s.raiseL .memPcRetired (instOf 11 p) [] false true
  if 2 ≤ r.1 then r.2.degradePc p else r.2

/-- n extents placed round-robin, where a test prefers, and elsewhere when there is no room (R428, R429). -/
def moveN (pref : Nat → Bool) : Nat → List Nat → Nat → Tab Nat → Option (List Nat × Nat × Tab Nat)
  | 0, free, last, t => some (free, last, t)
  | n + 1, free, last, t =>
    match (nextPc free last pref).or (nextPc free last fun _ => true) with
    | none => none
    | some p => moveN pref n (setNth free p (nthD 0 free p - 1)) p (tmod 0 t p (· + 1))

/-- An allocation moved off a pseudo-channel, copies and twins; a Frisket copy stays in its stack, apart from its twin, while there is room. -/
def Alloc.evict (p : Nat) (a : Alloc) (free : List Nat) (last : Nat) : Option (Alloc × List Nat × Nat) :=
  let pref (x : Nat) : Bool := a.cls != clsFrisket || x / 32 == p / 32
  match moveN pref (tget 0 a.ext p) free last (tput 0 a.ext p 0) with
  | none => none
  | some (f, l, e) => match moveN pref (tget 0 a.twin p) f l (tput 0 a.twin p 0) with
    | none => none
    | some (f, l, t) => some ({ a with ext := e, twin := t }, f, l)

/-- Order in which allocations are placed (R436): Frisket first, bulk last, then Makeready tables. -/
def evictOrder (c : Nat) : Nat := if c = clsPaging then 4 else c

/-- The table held in an allocation is LOST (R436). -/
def State.loseTable (a : Nat) (s : State) : State :=
  let on (l : Leaf) : Leaf := match l.table with
    | some t => if t.alloc = a then { l with table := some { t with lost := true } } else l
    | none => l
  { s with leaves := s.leaves.foldl (fun t e => tput {} t e.1 (on e.2)) s.leaves }

/-- One allocation migrated: what is left to do, whether some extent could not be placed, and the state. -/
def State.migrateOne (p : Nat) (r : List Nat × Bool × State) (a : Alloc) : List Nat × Bool × State :=
  let (free, stuck, s) := r
  if tget 0 a.ext p + tget 0 a.twin p = 0 then r
  else
    match a.evict p free s.mem.last with
    | some (b, f, l) =>
      let on (x : Alloc) : Alloc := if x.id = a.id then b else x
      (f, stuck, { s with mem := { s.mem with last := l, allocs := s.mem.allocs.map on } })
    | none => if a.cls = clsPaging then (free, stuck, (s.loseTable a.id).release [a.id]) else (free, true, s)

/-- MIGRATION_DONE (R435, R436): the last extent has moved, and the pseudo-channel is RETIRED; it stays DEGRADED while some extent finds no place. -/
def execMigrationDone (dt p : Nat) (s : State) : Host.Outcome State Fault Refusal :=
  let s := s.elapse dt
  .next (if p < 64 ∧ (s.pc p).unit = .degraded then
      let as := sortBy (fun a b => decide (evictOrder a.cls ≤ evictOrder b.cls)) s.mem.allocs
      let r := as.foldl (State.migrateOne p) (s.freeExt, false, s)
      let t := r.2.2
      if r.2.1 then t
      else
        let h := t.draw
        ((h.2.modPc p fun x => { x with unit := .retired, gen := nextGen x.gen }).retry (instOf 11 p) (s.pc p).gen (nextGen (s.pc p).gen) (Config.heldRequests h.1)).noteRecord
    else s)

/-- A write of MEM_PC_CTRL (R437). -/
def State.writePcCtrl (v : Word) (s : State) : State :=
  let p := s.regBits 0xA080 0 6
  let u := (s.pc p).unit
  if bit v 0 && (decide (u = .retired) || decide (u = .degraded)) then (s.modPc p fun x => { x with restoring := true }).holdTraining else s

/-- PC_RESTORE. -/
def execPcRestore (dt : Nat) (v : Word) (s : State) : Host.Outcome State Fault Refusal := .next ((s.elapse dt).writePcCtrl v)

/-- Five eye widths, each saturating at 255 (R417). -/
def eyes5 (l : List Nat) : List Nat := (List.range 5).map fun k => min 255 (nthD 0 l k)

/-- A pseudo-channel trained: its eyes, its taps and the taps selected (R417, R473); these are free values (log entry 1). -/
def Pc.trained (p n : Nat) (e : Eyes) (x : Pc) : Pc :=
  { x with trainFail := false, eyeRd := eyes5 e.rd, eyeWr := eyes5 e.wr, taps := Config.pcTaps p,
           sel := (List.range 5).map fun k => (Config.trainedTap n p k % 160, Config.trainedTap n p (5 + k) % 160) }

/-! ### Row repair (R432) -/

/-- Repairs in force of a bank. -/
def Pc.used (x : Pc) (bank : Nat) : Nat := tget 0 x.sparesUsed bank

/-- A row takes a spare of its bank, softly. -/
def State.repairRow (p bank row : Nat) (s : State) : State :=
  ((s.modPc p fun x => { x with sparesUsed := tmod 0 x.sparesUsed bank (· + 1), repairs := x.repairs ++ [(bank, row, false)],
                                corr := x.corr.filter fun e => !(e.1 == bank && e.2.1 == row) }).raise .memRowSpared (instOf 11 p) [] false).noteRecord

/-- A pseudo-channel's test found rows that fail: each takes a spare of its bank (R419, R432); whether one found none left (R434). -/
def State.testRows (p : Nat) (rows : List (Nat × Nat)) (s : State) : Bool × State :=
  rows.foldl (fun r e => if (r.2.pc p).used e.1 < 2 then (r.1, r.2.repairRow p e.1 e.2) else (true, r.2)) (false, s)

/-- PC_RESTORE_DONE (R419, R437): training and its test end, with the rows that failed the test. -/
def execPcRestoreDone (dt p : Nat) (ok : Bool) (f : PcTest) (s : State) : Host.Outcome State Fault Refusal :=
  let s := s.elapse dt
  .next (if p < 64 ∧ (s.pc p).restoring ∧ ¬s.mem.tempHold then
      let t := s.testRows p f.rows
      let r := t.2.draw
      if ok && !t.1 then (r.2.modPc p fun x => { x.trained p r.1 f.eyes with unit := .inService, restoring := false, ueRows := [], gen := nextGen x.gen }).noteRecord
      else (t.2.modPc p fun x => { x with restoring := false, trainFail := true }).raise .memPcRetired (instOf 11 p) [] false
    else s)

/-- What an error asks of its pseudo-channel: repair of the row, and the retirement condition; ue for an uncorrectable word (R432, R434). -/
def State.rowFault (p bank row : Nat) (repair ue : Bool) (s : State) : State :=
  let x := s.pc p
  let spare := decide (x.used bank < 2)
  let s1 := if repair && spare then s.repairRow p bank row else s
  if x.unit = .inService ∧ (repair && !spare || ue && decide (4 ≤ x.ueRows.length)) then s1.retirePc p else s1

/-- Distinct reads corrected in a row within the hour. -/
def hour : Nat := 3600 * secU
def Pc.corrIn (x : Pc) (bank row : Nat) : Nat := (x.corr.filter fun e => e.1 == bank && e.2.1 == row).length

/-! ### Error correction -/

/-- MEM_ERR of an error (Table 12-3). -/
def errWord (a : DramAddr) (ue check : Bool) (syn : Nat) : DWord :=
  BitVec.ofNat 64 (a.row % 2 ^ 15 + a.bank % 32 * 2 ^ 15 + a.pc % 64 * 2 ^ 20 + b2n ue * 2 ^ 26 + b2n check * 2 ^ 27 + a.col % 32 * 2 ^ 32 + syn % 256 * 2 ^ 40)

/-- At most once per second. -/
def duePerSec (t : Option Nat) (now : Nat) : Bool := match t with
  | none => true
  | some x => decide (x + secU ≤ now)

/-- The two detail words of MEM_CE and MEM_UE. -/
def errDetail (e : DWord) : List Nat := [e.toNat % 2 ^ 32, e.toNat / 2 ^ 32]

/-- A corrected error (R425, R426, R432). -/
def State.correctedErr (a : DramAddr) (check : Bool) (syn : Nat) (s : State) : State :=
  let e := errWord a false check syn
  let due := duePerSec (s.pc a.pc).ceAt s.clk
  let s : State := { s with mem := { s.mem with ceCnt := satU 32 (s.mem.ceCnt + 1), err := e } }
  let s := s.modPc a.pc fun x => { x with ce := satU 16 (x.ce + 1), ceAt := if due then some s.clk else x.ceAt,
                                          corr := (a.bank, a.row, s.clk) :: x.corr.filter fun y => decide (s.clk < y.2.2 + hour) }
  let s := if due then s.raise .memCe (instOf 11 a.pc) (errDetail e) false else s
  if 3 ≤ (s.pc a.pc).corrIn a.bank a.row then s.rowFault a.pc a.bank a.row true false else s

/-- An uncorrectable error (R425, R426, R432, R434). -/
def State.uncorrectedErr (a : DramAddr) (syn : Nat) (s : State) : State :=
  let e := errWord a true false syn
  let due := duePerSec (s.pc a.pc).ueAt s.clk
  let s : State := { s with mem := { s.mem with ueCnt := satU 32 (s.mem.ueCnt + 1), err := e } }
  let rows (x : Pc) : List (Nat × Nat × Nat) := (a.bank, a.row, s.clk) :: x.ueRows.filter fun y => !(y.1 == a.bank && y.2.1 == a.row) && decide (s.clk ≤ y.2.2 + 24 * hour)
  let s := s.modPc a.pc fun x => { x with ue := satU 16 (x.ue + 1), ueAt := if due then some s.clk else x.ueAt, ueRows := rows x }
  let s := if due then s.raise .memUe (instOf 11 a.pc) (errDetail e) false else s
  s.rowFault a.pc a.bank a.row (!((s.pc a.pc).repairs.any fun r => r.1 == a.bank && r.2.1 == a.row)) true

/-! ### Owners (Table 12-2) -/

/-- A tile lies under a Frisket region. -/
def State.friskTile (s : State) (t : Nat) : Bool := (List.range 16).any fun r => decide (t ∈ s.tilesOf s.cmp.layers (64 + r))

/-- The owner's allocation is of Frisket class, in two copies (R429, Table 12-1). -/
def State.paired (s : State) : DramOwner → Bool
  | .surface key _ _ => decide (64 ≤ key)
  | .frame k _ _ => (s.stream k).frisket
  | .canvas t => s.friskTile t
  | _ => false

/-- The class of a read by its owner (Table 12-1). -/
def State.ownerCls (s : State) (o : DramOwner) : Nat :=
  if s.paired o then clsFrisket
  else match o with
    | .page _ _ => clsPaging
    | .tableStaging _ => clsBulk
    | _ => clsReal

/-- The words of a block of 64 x 64 pixels read as 0: a list of words of rectangle (x0, y0) of width w. -/
def blankBlock (surfW block x0 y0 w : Nat) (l : List Word) : List Word :=
  let n := max 1 (ceilDiv surfW 64)
  l.zipIdx.map fun e =>
    let x := x0 + e.2 % max 1 w
    let y := y0 + e.2 / max 1 w
    if x / 64 = block % n ∧ y / 64 = block / n then 0 else e.1

/-- A surface version whose block was lost: it reads 0 and was never written. -/
def SurfVer.lose (surfW block : Nat) (v : SurfVer) : SurfVer :=
  { v with own := blankBlock surfW block v.rect.1 v.rect.2.1 v.rect.2.2.1 v.own, px := blankBlock surfW block 0 0 surfW v.px, blocks := setNth v.blocks block .never }

/-- A block of a version of a surface lost. -/
def State.loseBlock (key ver block : Nat) (s : State) : State :=
  let on (w : Nat) (v : SurfVer) : SurfVer := if v.id = ver then v.lose w block else v
  s.modLayer key fun l => { l with vers := l.vers.map (on l.surfW) }

/-- A closed frame with a line missing: the fill result over the frame before it, which gives it an older capture time (R113, R115). -/
def Frame.lose (f : BitVec 256) (line : Nat) (x p : Frame) : Frame :=
  { x with complete := false, sig := 0, cap := min x.cap p.cap, rows := fillRows f (x.rows.filter fun r => r.line != line) p.rows }

/-- The closed frames, newest first, with a line of one of them lost; a frame with none before it is lost whole. -/
def loseLine (f : BitVec 256) (ts : Word) (line : Nat) : List Frame → List Frame
  | [] => []
  | x :: t => if x.ts = ts then (match t with | [] => [] | p :: _ => x.lose f line p :: t) else x :: loseLine f ts line t

/-- A line of a frame lost, open or closed. -/
def State.loseFrameLine (k : Nat) (ts : Word) (line : Nat) (s : State) : State :=
  let drop (o : OpenFrame) : OpenFrame := if o.ts = ts then { o with rows := o.rows.filter fun r => r.line != line } else o
  s.modStream k fun x =>
    let c := loseLine x.fmt ts line x.closed
    { x with opens := x.opens.map drop, closed := c, lastFill := match x.lastFill with
        | some p => if p.ts = ts then c.find? fun y => y.ts == ts else some p
        | none => none }

/-- A staged copy lost: every later copy is a literal copy of the reference image entry. -/
def State.loseStaged (k sl gen : Nat) (s : State) : State :=
  match s.slug? k sl gen with
  | none => s
  | some x => s.modSlug k sl s.m gen fun _ => { asLiteral { x with codes := whole (s.refEntry k sl).codes } with copies := max 3 x.copies }

/-- A unit whose records are lost restarts: a per-unit reset, and what it holds returns as RETRY_ELSEWHERE (Table 12-2, R485). -/
def State.restartUnit (k : Nat) (s : State) : State :=
  let u := s.unit k
  if u.st.out then s
  else if k < 18 then
    let held := s.cmp.jobs.filter fun j => j.engine == some k
    let rest := s.cmp.jobs.filter fun j => j.engine != some k
    let s := s.setUnit k { u with gen := nextGen u.gen }
    ((({ s with cmp := { s.cmp with jobs := held.map unassigned ++ rest } } : State).retry (instOf 9 k) u.gen (nextGen u.gen) held.length)).dispatchAll
  else if 32 ≤ k ∧ k ≤ 40 then
    let r := s.draw
    (r.2.setUnit k { u with gen := nextGen u.gen }).retry (instOf 10 (k - 32)) u.gen (nextGen u.gen) (Config.heldSlugs r.1)
  else s

/-- The owner of an uncorrectable word handles it (R431). -/
def State.tellOwner (o : DramOwner) (twinOk : Bool) (s : State) : State :=
  if s.paired o && twinOk then s
  else match o with
    | .surface key ver block => s.loseBlock key ver block
    | .frame k ts line => s.loseFrameLine k ts line
    | .canvas t => { s with cmp := { s.cmp with poisoned := dedup (s.cmp.poisoned ++ [t]) } }
    | .refImage k sl =>
      { s with slg := { s.slg with refs := tmod {} s.slg.refs (4096 * k + sl) (fun e => { e with bad := true }), certain := s.slg.certain.filter fun x => x != 4096 * k + sl } }
    | .staged k sl gen => s.loseStaged k sl gen
    | .page k p => s.pageFailed k p
    | .tableStaging id => match s.item? id with
      | some i => if i.opcode = 0x0301 ∨ i.opcode = 0x0302 then s.complete id .failedUnit 3 0 0 false else s
      | none => s
    | .unitRecords k => s.restartUnit k
    | .records => if s.obs.store = [] then s else ({ s with obs := { s.obs with store := s.obs.store.drop 1 } } : State).loseTrq 1
    | .other => s

/-- An address of DRAM (R415). -/
def addrOk (a : DramAddr) : Bool := decide (a.pc < 64 ∧ a.bank < 32 ∧ a.row < 24576 ∧ a.col < 32)

/-- A word read in a class (R425 to R427). -/
def State.readWord (a : DramAddr) (e : EccSeen) (o : DramOwner) (twinOk : Bool) (cls : Nat) (s : State) : State :=
  if !addrOk a then s
  else if (s.pc a.pc).unit = .retired then s.stateConflict (instOf 11 a.pc) true
  else
    let s := (s.count (0x7A0 + cls) 1).count (0x7C0 + a.pc) 1
    match e with
    | .clean => s
    | .single check syn => s.correctedErr a check syn
    | .double syn => (s.uncorrectedErr a syn).tellOwner o twinOk

/-- DRAM_READ. -/
def execDramRead (dt : Nat) (a : DramAddr) (e : EccSeen) (o : DramOwner) (twinOk : Bool) (s : State) : Host.Outcome State Fault Refusal :=
  let s := s.elapse dt
  .next (s.readWord a e o twinOk (s.ownerCls o))

/-- SCRUB_READ (R427): in the bulk class, while SCRUB_EN = 1. -/
def execScrubRead (dt : Nat) (a : DramAddr) (e : EccSeen) (o : DramOwner) (twinOk : Bool) (s : State) : Host.Outcome State Fault Refusal :=
  let s := s.elapse dt
  .next (if s.regBit 0xA004 0 then s.readWord a e o twinOk clsBulk else s)

/-! ### Row disturbance -/

/-- Position of the entry with the smallest count, the lowest on a tie. -/
def smallest (l : List (Nat × Nat)) : Nat :=
  (l.zipIdx.foldl (fun (b : Nat × Nat) e => if e.1.2 < b.1 then (e.1.2, e.2) else b) ((l.headD (0, 0)).2, 0)).2

/-- A ledger after an activate of a row, and the row's count (R422). -/
def ledgerHit (row : Nat) (l : List (Nat × Nat)) : List (Nat × Nat) × Nat :=
  match l.findIdx? fun e => e.1 == row with
  | some i => let n := (nthD (0, 0) l i).2 + 1
    (setNth l i (row, n), n)
  | none =>
    if l.length < 32 then (l ++ [(row, 1)], 1)
    else
      let i := smallest l
      let n := (nthD (0, 0) l i).2 + 1
      (setNth l i (row, n), n)

/-- The neighbours of a row that exist. -/
def neighbours (row : Nat) : List Nat :=
  (if 2 ≤ row then [row - 2] else []) ++ (if 1 ≤ row then [row - 1] else []) ++ (if row + 1 < 24576 then [row + 1] else []) ++ (if row + 2 < 24576 then [row + 2] else [])

/-- A row's count set to 0. -/
def zeroCount (row : Nat) (l : List (Nat × Nat)) : List (Nat × Nat) := l.map fun e => if e.1 = row then (row, 0) else e

/-- An activate under the ledger (R422). -/
def State.activateLedger (pc bank row thr : Nat) (s : State) : State :=
  let key := 32 * pc + bank
  let r := ledgerHit row (tget [] s.mem.ledgers key)
  let hit := decide (thr ≤ r.2)
  { s with mem := { s.mem with ledgers := tput [] s.mem.ledgers key (if hit then zeroCount row r.1 else r.1),
                               refreshed := if hit then (neighbours row).map fun x => (pc, bank, x) else [] } }

/-- An activate under THROTTLE (R423): a row at its threshold waits 32 ms / thr after its previous activate. -/
def State.activateThrottle (pc bank row thr : Nat) (s : State) : State :=
  let key := 32 * pc + bank
  let was := ((tget [] s.mem.ledgers key).find? fun e => e.1 == row).map (·.2)
  let r := ledgerHit row (tget [] s.mem.ledgers key)
  let prev := (s.mem.delayed.find? fun e => e.1 == pc && e.2.1 == bank && e.2.2.1 == row).map (·.2.2.2)
  let go := match was, prev with
    | some n, some t => if thr ≤ n then max s.clk (t + 32 * msU / max 1 thr) else s.clk
    | _, _ => s.clk
  { s with mem := { s.mem with ledgers := tput [] s.mem.ledgers key r.1, refreshed := [], throttleAt := if s.clk < go then some s.clk else s.mem.throttleAt,
                               delayed := (pc, bank, row, go) :: s.mem.delayed.filter fun e => !(e.1 == pc && e.2.1 == bank && e.2.2.1 == row) } }

/-- DRAM_ACTIVATE. -/
def execDramActivate (dt pc bank row : Nat) (s : State) : Host.Outcome State Fault Refusal :=
  let s := s.elapse dt
  let thr := nthD 2048 s.mem.thr (pc / 32)
  .next (if pc < 64 ∧ bank < 32 ∧ row < 24576 then
      (if nthD 0 s.mem.mode (pc / 32) = 1 then s.activateThrottle pc bank row thr else s.activateLedger pc bank row thr)
    else s)

/-- The refresh window of a stack: 32 ms, or 16 ms while it is hot (R421). -/
def State.refreshWindow (s : State) (stack : Nat) : Nat := (if nthD false s.mem.hot stack then 16 else 32) * msU

/-- REFRESH_WINDOW_END (R421, R422, R424). -/
def execRefreshWindowEnd (dt stack : Nat) (s : State) : Host.Outcome State Fault Refusal :=
  let s := s.elapse dt
  .next (if stack < 2 ∧ nthD 0 s.mem.winAt stack + s.refreshWindow stack ≤ s.clk then
      { s with mem := { s.mem with winAt := setNth s.mem.winAt stack s.clk, ledgers := s.mem.ledgers.filter (fun e => e.1 / 1024 != stack), delayed := s.mem.delayed.filter (fun e => e.1 / 32 != stack),
                                   mode := setNth s.mem.mode stack (s.regBits 0xA008 0 1), thr := setNth s.mem.thr stack (s.regBits 0xA00C 0 16) } }
    else s)

/-! ### Eyes in service (R420) -/

/-- The narrowest eye. -/
def minEye (l : List Nat) : Nat := l.foldl min 255

/-- The taps of a pseudo-channel's delays moved one tap toward the centre of the eye where they have drifted: a lane's read and write delay lie above it (positive), below it (negative) or at it (R420). -/
def Pc.centred (x : Pc) (drift : List (Int × Int)) : Pc :=
  let step (t : Nat) (d : Int) : Nat := if 0 < d then t - 1 else if d < 0 then min 159 (t + 1) else t
  { x with sel := x.sel.zipIdx.map fun a => let d := nthD (0, 0) drift a.2
      (step a.1.1 d.1, step a.1.2 d.2) }

/-- EYE_CHECK. -/
def execEyeCheck (dt p : Nat) (f : EyeDrift) (s : State) : Host.Outcome State Fault Refusal :=
  let s := s.elapse dt
  let e := f.eyes
  let u := (s.pc p).unit
  let m := min (minEye (eyes5 e.rd)) (minEye (eyes5 e.wr))
  let margin := s.regBits 0xA010 0 8
  .next (if p < 64 ∧ (u = .inService ∨ u = .degraded) then
      let low := (s.pc p).lowMargin
      let s := s.modPc p fun x => { x.centred f.drift with eyeRd := eyes5 e.rd, eyeWr := eyes5 e.wr }
      if !low && decide (m < margin) then
        let r := (s.modPc p fun x => { x with lowMargin := true }).raiseL .memTrainMargin (instOf 11 p) [] true true
        if 2 ≤ r.1 then r.2.degradePc p else r.2
      else if low && decide (margin + 8 ≤ m) then (s.modPc p fun x => { x with lowMargin := false }).clear .memTrainMargin (instOf 11 p)
      else s
    else s)

end Sys2Proof.Machine
end

