-- ==== Sys2Proof/Machine/Reset.lean ====
section
/-! DEFINITION. Resets of the module (Table 17-3, R463, R524, R529, R532): what each keeps, and where the start-up sequence goes on. -/

namespace Sys2Proof.Machine

open Sys2Proof

/-- What every reset of the module keeps: flash and fuses (Table 17-3), and what is the model's own. -/
def State.restart (s : State) : State :=
  { State.reset with
    pending := s.pending
    clk := s.clk
    fresh := s.fresh
    out := s.out
    nextItem := s.nextItem
    cal := { State.reset.cal with copyA := s.cal.copyA, copyB := s.cal.copyB, fuses := s.cal.fuses }
    upd := { State.reset.upd with bankA := s.upd.bankA, bankB := s.upd.bankB, owner := s.upd.owner, lock := s.upd.lock, floor := s.upd.floor } }

/-- The power-fail reset: the module waits for the start threshold (R463). -/
def State.powerFail (s : State) : State :=
  let r := s.restart
  { r with sys := { r.sys with perstHigh := s.sys.perstHigh, txOffTo := s.clk + 50 * msU } }

/-- The stages from stage 3 on start at T_r, the later of the end of stage 2 and T_p (R519, R520). -/
def State.noteTr (s : State) : State :=
  if s.sys.tR.isNone ∧ s.sys.tP.isSome ∧ 2 ≤ s.sys.stage then { s with sys := { s.sys with tR := some s.clk } } else s

/-- A leaf's table kept by the retention domain (R529). -/
def keepTable (l : Leaf) : Leaf := { table := l.table }

/-- The allocations a test picks, with the place of the last one. -/
def Mem.keep (p : Alloc → Bool) (m : Mem) : Mem := { State.reset.mem with allocs := m.allocs.filter p, nextAlloc := m.nextAlloc, last := m.last }

/-- The numbers of the allocations that hold Makeready tables. -/
def State.tableAllocs (s : State) : List Nat := s.leaves.filterMap fun e => e.2.table.map (·.alloc)

/-- The retention domain kept over a reset by PERST_N while QUIET is set: the Makeready tables survive (R529). -/
def State.retain (old s : State) : State :=
  { s with
    leaves := old.leaves.foldl (fun t e => tput {} t e.1 (keepTable e.2)) []
    mem := { old.mem.keep (fun a => decide (a.id ∈ old.tableAllocs)) with quiet := true }
    sys := { s.sys with retained := true } }

/-- What the power monitor and the thermal sensors have measured: they are in the standby domain, and a module reset leaves them running (R519, R547, Table 17-3; log entry 107). -/
def Thp.measured (x r : Thp) : Thp :=
  { r with aux := x.aux, samples := x.samples, supV := x.supV, supI := x.supI, supP := x.supP, hist := x.hist, n40 := x.n40, hi41 := x.hi41,
           outLow := x.outLow, inLow := x.inLow, ok36 := x.ok36, writeOk := x.writeOk }

/-- A module reset: the standby domain is kept as well, transmitters stay off for 50 ms, and the sequence restarts at stage 3 (R524, R529, R532, Table 17-3). cause is that of Table 17-6. -/
def State.moduleReset (cause : Nat) (s : State) : State :=
  let r := s.restart
  let r : State := { r with
    refs := { r.refs with tcxoComp := s.refs.tcxoComp, tcxoTemp := s.refs.tcxoTemp }
    upd := { r.upd with entReady := s.upd.entReady, byDeadline := decide (cause = 3) }
    thp := s.thp.measured r.thp
    sys := { r.sys with stage := min 2 s.sys.stage, cause := cause, supValid := s.sys.supValid, perstHigh := decide (cause ≠ 1), txOffTo := s.clk + 50 * msU,
                        tP := if cause = 1 then none else s.sys.tP,
                        nPerst := if cause = 1 then satU 16 (s.sys.nPerst + 1) else s.sys.nPerst, nWarm := if cause = 1 then s.sys.nWarm else satU 16 (s.sys.nWarm + 1) } }
  (if cause = 1 ∧ s.mem.quiet then s.retain r else r).noteTr

end Sys2Proof.Machine
end

