-- ==== Sys2Proof/Machine/Thermal.lean ====
section
/-! DEFINITION. Temperature, the power input and the orderly stop (R458 to R467, R522), the quiet state (R438, R439), and the supervisor's watchdog and restart (R457, R495, R528). -/

namespace Sys2Proof.Machine

open Sys2Proof

/-! ### The orderly stop (R464, R465) -/

/-- DARK to a leaf, after its unanswered commands, under the same SEQ while it is unanswered; commands not yet sent end unsent (R464, R465). It waits for no place among the 8 of R331 (log entry 104). -/
def State.darkLeaf (k : Nat) (s : State) : State :=
  let s := s.modLeaf k fun l => { l with cmds := l.cmds.filter fun c => c.sent }
  let s := s.resendCmds k false
  if (s.leaf k).cmds.any fun c => c.opcode == 4 then s
  else
    let l := s.leaf k
    let c : LCmd := { seq := l.nextSeq, opcode := 4, target := 0, data := [], firstImp := s.opened, item := none, sent := true }
    (s.setLeaf k { l with nextSeq := l.nextSeq + 1, cmds := l.cmds ++ [c] }).emitCmd k c

/-- DARK to every leaf in use on every RUNNING quire. -/
def State.darkAll (s : State) : State :=
  (List.range 16).foldl (fun s q => if (s.quire q).st = .running then (s.usedLeaves q).foldl (fun s i => s.darkLeaf (64 * q + i)) s else s) s

/-- STOP_CAUSE with a cause joined: bit 0 temperature, bit 1 supply. -/
def joinCause (old bit_ : Nat) : Nat := if old / bit_ % 2 = 1 then old else old + bit_

/-- The rails of the core, the lanes and HBM. -/
def State.rails (on : Bool) (s : State) : State := { s with thp := { s.thp with core := on, serdes := on, hbm := on } }

/-- A shut-down before READY: no orderly stop; the sequence starts again at stage 3 later (R522). -/
def State.preShutdown (x : Src) (s : State) : State :=
  let s := s.rails false
  ({ s with sys := { s.sys with preShut := true, stage := min 2 s.sys.stage, preSrc := dedup (s.sys.preSrc ++ [(x, if x = .tempShutdown then instOf 12 s.thp.shutBy else 0)]) } } : State).aliveSync

/-- A trigger (R464, R467, R522): before READY the rails go off; during a stop it joins; while a resume is in progress the module stops again at once; otherwise the stop starts. -/
def State.trigger (x : Src) (cause : Nat) (s : State) : State :=
  if !s.hif.ready then s.preShutdown x
  else if s.thp.stopped && s.thp.resuming then
    ({ s with thp := { s.thp with resuming := false, cause := joinCause s.thp.cause cause, stopAt := s.clk } } : State).rails false
  else if s.thp.stopping || s.thp.stopped then { s with thp := { s.thp with cause := joinCause s.thp.cause cause, again := true } }
  else
    let s : State := { s with thp := { s.thp with stopping := true, cause := cause, stopAt := s.clk, darkAt := s.clk, again := false, resumedFlip := false } }
    s.darkAll

/-- DARK_REPEAT (R464). -/
def execDarkRepeat (dt : Nat) (s : State) : Host.Outcome State Fault Refusal :=
  let s := s.elapse dt
  .next (if s.thp.stopping ∧ s.thp.darkAt + 100 * usU ≤ s.clk then ({ s with thp := { s.thp with darkAt := s.clk } } : State).darkAll else s)

/-- A leaf command that an item caused was sent and has not been answered. -/
def State.unanswered (s : State) (id : Nat) : Bool := s.leaves.any fun e => e.2.cmds.any fun c => decide (c.item = some id) && c.sent

/-- The change of an item landed at a commit point. -/
def hasLanded (i : Item) : Bool := decide (i.phase = .landed) || (decide (i.phase = .leaves) && i.opcode == 0x0303 && decide (i.waits = []))

/-- The impression of an item that landed. -/
def landImp (s : State) (i : Item) : Nat := if i.landedAt = 0 then s.win.imp else i.landedAt

/-- A descriptor in flight ends (R465). -/
def State.endAtStop (i : Item) (s : State) : State :=
  if hasLanded i then s.complete i.id (if s.itemLate i then .doneLate else .done) 0 (landImp s i) 0 false
  else
    let u := s.unanswered i.id
    let s := if i.opcode = 0x0301 ∧ i.phase = .landing then s.release [i.aux] else s.dropMember i
    s.complete i.id .failedUnit 4 0 0 u

/-- Every descriptor in flight ends; an activation that has not committed goes back to VERIFIED. -/
def State.endItems (s : State) : State :=
  let s := s.hif.items.foldl (fun s i => s.endAtStop i) s
  if s.upd.st = .writing then { s with upd := { s.upd with st := .verified, act := none, step1 := none } } else s

/-- A leaf's commands end: the sent ones FAILED_NO_RESPONSE (R465). -/
def State.endCmds (k : Nat) (s : State) : State :=
  let n := ((s.leaf k).cmds.filter fun c => c.sent).length
  (s.count (0x400 + 16 * (k / 64) + 13) n).modLeaf k fun l => { l with cmds := [] }

/-- The group of the impression in hand, closed by the stop. -/
def State.closeWindow (s : State) : State :=
  if !s.win.open_ || s.win.deadline then { s with win := { s.win with open_ := false } }
  else
    let ds := s.enabledQuires.map s.delivery
    let s := ds.foldl State.deliverQuire s
    { s with groups := s.groups ++ [s.recGroup ds], win := { s.win with deadline := true, open_ := false } }

/-- A group as the stop writes it: an impression that has not flipped has no proofs to miss. -/
def State.stopGroup (s : State) (g : RecGroup) : RecGroup :=
  { g with stopped := true, reported := if s.imp.counter < g.w.imp then s.imp.setup.enabled else g.reported }

/-- Every record group closed and written (R465). -/
def State.writeGroups (s : State) : State := s.groups.foldl (fun s g => s.writeGroup (s.stopGroup g)) s

/-! ### The quiet state (R438) -/

/-- A stream without its frame buffers. -/
def Stream.emptied (x : Stream) : Stream := { x with opens := [], closed := [], gone := [], lastFill := none, hasFrame := false }

/-- Source frames, the canvas store and staging are released; the tiles are composed afresh at the next commit point. -/
def State.releaseStores (s : State) : State :=
  let tile (t : Nat) : Job := { tile := t, layers := [] }
  let empty (r : Ring) : Ring := { r with used := [], spill := [] }
  let spill := sumN ((List.range 16).map fun q => ((s.ring q).spill).length)
  { s with
    ing := { s.ing with streams := s.ing.streams.foldl (fun t e => tput {} t e.1 e.2.emptied) s.ing.streams }
    cmp := { s.cmp with tiles := [], side := [], jobs := [], poisoned := [], late := [], layers := s.scene, heldTiles := (List.range s.nTiles).map tile }
    slg := { s.slg with slugs := [], rings := s.slg.rings.foldl (fun t e => tput {} t e.1 (empty e.2)) s.slg.rings, poolFree := s.slg.poolFree + spill,
                        certain := [], certainLeaves := [] }
    mem := { s.mem with quiet := true } }

/-- Every lane stops; quires send no slug. -/
def State.stopLanes (s : State) : State :=
  let s := (List.range 80).foldl (fun s i => if (s.lane i).func = 0 then s else s.stopLane i) s
  let s := (List.range 32).foldl (fun s p => s.modPort p fun x => { x with link := false }) s
  (List.range 16).foldl (fun s q => s.modQuire q fun x => { x with ready := false }) s

/-- ORDERLY_STOP_END (Table 13-11): items ended, groups written, lanes stopped, HBM in self-refresh, rails off, STOPPED. -/
def State.endStop (s : State) : State :=
  let s := s.closeWindow.endItems
  let s := (s.leaves.foldl (fun s e => s.endCmds e.1) s).writeGroups
  let s := (s.stopLanes.releaseStores).rails false
  { s with thp := { s.thp with stopping := false, stopped := true } }

def execOrderlyStopEnd (dt : Nat) (s : State) : Host.Outcome State Fault Refusal :=
  let s := s.elapse dt
  .next (if s.thp.stopping then s.endStop else s)

/-! ### Resume (R439, R467) -/

/-- The hottest valid reading: sensor and 1/16 °C. -/
def hottest (l : List (Nat × Int)) : Option (Nat × Int) :=
  l.foldl (fun b e => match b with
    | none => some e
    | some x => if x.2 < e.2 then some e else some x) none

/-- RESUME_OK. -/
def State.resumeOk (s : State) : Bool :=
  s.thp.stopped && !s.thp.resuming && !s.thp.again && (match hottest s.readings with | none => false | some e => decide (e.2 < 1440)) &&
    (match s.thp.ok36 with | none => false | some t => decide (t + secU ≤ s.clk))

/-- A write of THP_CMD. -/
def State.writeThpCmd (v : Word) (s : State) : State :=
  if bit v 0 && s.resumeOk then (({ s with thp := { s.thp with resuming := true } } : State).rails true).holdTraining else s

/-- RESUME. -/
def execResume (dt : Nat) (v : Word) (s : State) : Host.Outcome State Fault Refusal := .next ((s.elapse dt).writeThpCmd v)

/-- A surface version whose content was discarded: every block is one never written, its words are free values (log entry 1). -/
def SurfVer.discardedAll (v : SurfVer) : SurfVer :=
  { v with px := v.px.zipIdx.map (fun e => Config.blankPixel v.id e.2), own := v.own.zipIdx.map (fun e => Config.blankPixel v.id e.2), blocks := v.blocks.map fun _ => .never }

/-- Every kept allocation is discarded: tables LOST, surfaces never written, the reference image empty (R439). -/
def State.discardDram (s : State) : State :=
  let lost (l : Leaf) : Leaf := { l with table := l.table.map fun t => { t with lost := true } }
  let blank (l : Layer) : Layer := { l with vers := l.vers.map SurfVer.discardedAll }
  { s with
    leaves := s.leaves.foldl (fun t e => tput {} t e.1 (lost e.2)) s.leaves
    cmp := { s.cmp with layers := s.cmp.layers.foldl (fun t e => tput {} t e.1 (blank e.2)) s.cmp.layers }
    slg := { s.slg with refs := [] } }

/-- Eyes a training measures: free values (log entry 1). -/
def freeEyes (n p : Nat) : Eyes := { rd := (List.range 5).map fun k => Config.eyeWidth n p k, wr := (List.range 5).map fun k => Config.eyeWidth n p (5 + k) }

/-- Every pseudo-channel that is not RETIRED is trained (R417). -/
def State.trainAll (s : State) : State :=
  let r := s.draw
  (List.range 64).foldl (fun s p => if (s.pc p).unit = .retired then s else s.modPc p fun x => x.trained p r.1 (freeEyes r.1 p)) r.2

/-- Lanes start again from the settings of their registers: Ethernet ports, lane-ends of enabled quires, which return to WAIT, and loops. -/
def State.restartLanes (s : State) : State :=
  let s := (List.range 8).foldl (fun s m => if s.regBit (0x1020 + 4 * m) 8 then s.startMac (s.regBits (0x1020 + 4 * m) 0 4) else s) s
  let s := (List.range 16).foldl (fun s q =>
    let v := s.reg (0x6080 + 4 * q)
    if bit v 16 then ((s.modQuire q fun x => { x with tag := 0, ready := false, evid := [], replanning := false }).endSession q).startQuire q (bits v 0 7) (bits v 8 7) else s) s
  (List.range 80).foldl (fun s i => if s.loop i ≠ 0 ∧ (s.lane i).func = 0 ∧ (s.lane i).unit ≠ .retired then s.startLane i 4 0 else s) s

/-- RESUME_COMPLETE: the rails are in regulation, the lanes calibrated and the quiet state left. -/
def State.resumed (trained auxLost : Bool) (s : State) : State :=
  let s := (List.range 80).foldl (fun s i => s.calibrate i) s
  let s := if trained && !auxLost then s.trainAll else s.discardDram
  let s : State := { s with
    mem := { s.mem with quiet := false, trained := trained }
    thp := { s.thp with stopped := false, resuming := false, resumedFlip := true, cause := 0 }
    hif := { s.hif with sweepAt := s.clk } }
  s.restartLanes

def execResumeComplete (dt : Nat) (trained auxLost : Bool) (s : State) : Host.Outcome State Fault Refusal :=
  let s := s.elapse dt
  .next (if s.thp.resuming ∧ ¬s.mem.tempHold then s.resumed trained auxLost else s)

/-- Every die sensor that is valid reads between 0 °C and 85 °C, and one does. -/
def State.dieOk (s : State) : Bool := inRange (dieSensors.filterMap fun k => (s.sensor k).map fun t => (k, t))

/-- Flash and fuse writes are permitted (R461); WRITE_INHIBIT otherwise. -/
def State.writesOk (s : State) : Bool := s.thp.writeOk && s.dieOk

/-! ### Activations that cannot commit (R495) -/

/-- The header state of the other bank set. -/
def Upd.other (u : Upd) : Bank := if u.runB then u.bankA else u.bankB
def Upd.setOther (u : Upd) (b : Bank) : Upd := if u.runB then { u with bankA := b } else { u with bankB := b }

/-- An activation that cannot commit ends (R495): its completion, and the staged package kept. -/
def State.failActivation (det : Nat) (s : State) : State :=
  match s.upd.act with
  | none => s
  | some id =>
    let s := s.refuse id .failedUnit det
    { s with upd := { s.upd with st := .verified, act := none, step1 := none } }

/-- WRITE_INHIBIT during step 1 of an activation ends it. -/
def State.inhibitCheck (s : State) : State := if s.upd.st = .writing ∧ s.upd.step1 = none ∧ ¬s.writesOk then s.failActivation 5 else s

/-! ### Temperature (R458 to R460) -/

/-- A reading outside -55 °C to 150 °C marks the sensor as failed and raises TEMP_WARN. -/
def State.takeReading (k : Nat) (t : Int) (s : State) : State :=
  if t < -880 ∨ 2400 < t then
    if k ∈ s.thp.failed then s
    else ({ s with thp := { s.thp with failed := s.thp.failed ++ [k] } } : State).raise .tempWarn (instOf 12 k) [uns 32 t, 1] true
  else { s with thp := { s.thp with samples := tput [] s.thp.samples k ((t :: tget [] s.thp.samples k).take 4) } }

/-- The DETAIL words of a thermal condition (Table 13-6). -/
def State.tempDetail (s : State) (e : Nat × Int) : List Nat := [uns 32 e.2, b2n (decide (e.1 ∈ s.thp.failed))]

/-- The warning condition of Table 13-9. -/
def State.judgeWarn (e : Nat × Int) (s : State) : State :=
  if !s.thp.warn && decide (1520 ≤ e.2) then ({ s with thp := { s.thp with warn := true, warnBy := e.1 } } : State).raise .tempWarn (instOf 12 e.1) (s.tempDetail e) true
  else if s.thp.warn && decide (e.2 < 1440) then ({ s with thp := { s.thp with warn := false } } : State).clear .tempWarn (instOf 12 s.thp.warnBy)
  else s

/-- The throttle condition of Table 13-9. -/
def State.judgeThrottle (e : Nat × Int) (s : State) : State :=
  if !s.thp.throttle && decide (1600 ≤ e.2) then
    ({ s with thp := { s.thp with throttle := true, throttleBy := e.1, episodes := s.thp.episodes + 1, thrAt := s.clk } } : State).raise .tempThrottle (instOf 12 e.1) (s.tempDetail e) true
  else if s.thp.throttle && decide (e.2 < 1520) then
    ({ s with thp := { s.thp with throttle := false, thrTime := s.thp.thrTime + (s.clk - s.thp.thrAt) } } : State).clear .tempThrottle (instOf 12 s.thp.throttleBy)
  else s

/-- The shut-down condition of Table 13-9: it ends with a resume, or at READY (R467, R522). -/
def State.judgeShut (e : Nat × Int) (s : State) : State :=
  if (!s.thp.shut || s.thp.resumedFlip) && decide (1760 ≤ e.2) then
    (({ s with thp := { s.thp with shut := true, shutBy := e.1 } } : State).raise .tempShutdown (instOf 12 e.1) (s.tempDetail e) true).trigger .tempShutdown 1
  else s

/-- HOT_REFRESH of each stack: a sensor of it reads above 85 °C (R421). -/
def State.judgeHot (s : State) : State :=
  { s with mem := { s.mem with hot := (List.range 2).map fun n => (s.group (hbmSensors n)).any fun e => decide (1360 < e.2) } }

/-- The conditions judged on the hottest valid sensor. -/
def State.judgeTemp (s : State) : State :=
  match hottest s.readings with
  | none => s
  | some e => (((s.judgeHot).judgeWarn e).judgeThrottle e).judgeShut e

/-- THERMAL_SAMPLE: 20 readings. During a CALREF run the last values taken stand (R475). -/
def execThermalSample (dt : Nat) (r : List Int) (s : State) : Host.Outcome State Fault Refusal :=
  let s := s.elapse dt
  .next (if 1 ≤ s.sys.stage ∧ ¬s.cal.running then ((r.take 20).zipIdx.foldl (fun s e => s.takeReading e.2 e.1) s).judgeTemp.inhibitCheck else s)

/-! ### The power input (R461 to R463) -/

/-- A count of consecutive samples beyond a threshold. -/
def runLen (hit : Bool) (n : Nat) : Nat := if hit then n + 1 else 0

/-- The start of a stretch of samples that meet a test. -/
def since (hit : Bool) (now : Nat) (t : Option Nat) : Option Nat := if hit then some (t.getD now) else none

/-- A stretch has lasted n. -/
def lasted (t : Option Nat) (n now : Nat) : Bool := match t with
  | none => false
  | some x => decide (x + n ≤ now)

/-- A sample of SUP48 noted: counts, stretches and the write window. -/
def Thp.noted (now v i p : Nat) (x : Thp) : Thp :=
  let n40 := runLen (decide (v < 4000)) x.n40
  let hi := since (decide (4100 < v)) now x.hi41
  { x with
    supV := v, supI := i, supP := p
    hist := (now, v, p) :: x.hist.filter fun e => decide (now < e.1 + secU)
    n40 := n40
    n33 := runLen (decide (v < 3300)) x.n33
    n28 := runLen (decide (v < 2800)) x.n28
    n100 := runLen (decide (10000 < v)) x.n100
    hi41 := hi
    outLow := since (decide (v < 3600 ∨ 7500 < v)) now x.outLow
    inLow := since (decide (3700 ≤ v ∧ v ≤ 7400)) now x.inLow
    ok36 := since (decide (3600 ≤ v)) now x.ok36
    writeOk := if 4 ≤ n40 then false else x.writeOk || lasted hi msU now }

/-- SUPPLY_LOW and the end of its episode. -/
def State.judgeSupply (v : Nat) (s : State) : State :=
  if !s.thp.low && lasted s.thp.outLow (100 * msU) s.clk then
    ({ s with thp := { s.thp with low := true } } : State).raise .supplyLow 0 [v, b2n (decide (7500 < v))] true
  else if s.thp.low && lasted s.thp.inLow secU s.clk then ({ s with thp := { s.thp with low := false } } : State).clear .supplyLow 0
  else s

/-- SUPPLY_FAIL. -/
def State.judgeFail (v : Nat) (s : State) : State :=
  if (!s.thp.fail || s.thp.resumedFlip) && (decide (4 ≤ s.thp.n33) || decide (4 ≤ s.thp.n100)) then
    (({ s with thp := { s.thp with fail := true } } : State).raise .supplyFail 0 [v, b2n (decide (4 ≤ s.thp.n100))] true).trigger .supplyFail 2
  else s

/-- SUPPLY_SAMPLE. -/
def execSupplySample (dt v i p : Nat) (s : State) : Host.Outcome State Fault Refusal :=
  let s := s.elapse dt
  .next (if 1 ≤ s.sys.stage ∧ ¬s.cal.running then
      let s : State := { s with thp := s.thp.noted s.clk v i p }
      if 4 ≤ s.thp.n28 then s.powerFail else ((s.judgeSupply v).judgeFail v).inhibitCheck
    else s)

/-! ### The supervisor (R457, R495, R528) -/

/-- SUPERVISOR_WATCHDOG: an activation in WRITING ends. -/
def execSupervisorWatchdog (dt : Nat) (s : State) : Host.Outcome State Fault Refusal :=
  let s := s.elapse dt
  .next (if s.sys.supRun then
      let s : State := { s with flt := { s.flt with wdog := true, wdogs := satU 16 (s.flt.wdogs + 1), supResets := satU 16 (s.flt.supResets + 1) } }
      let s := s.raise .supervisorWatchdog 0 [] false
      let s : State := { s with sys := { s.sys with supRun := false } }
      let s := if s.upd.st = .writing then s.failActivation 5 else s
      s.aliveSync
    else s)

/-- SUPERVISOR_RESTART: what was kept is written, and sweeping resumes (R81). -/
def execSupervisorRestart (dt : Nat) (s : State) : Host.Outcome State Fault Refusal :=
  let s := s.elapse dt
  .next (if ¬s.sys.supRun ∧ s.flt.wdog then
      let s : State := { s with sys := { s.sys with supRun := true }, flt := { s.flt with wdog := false }, hif := { s.hif with sweepAt := s.clk } }
      s.aliveSync.flushKept
    else s)

end Sys2Proof.Machine
end

