-- ==== Sys2Proof/Machine/Cal.lean ====
section
/-! DEFINITION. Self-calibration and spare capacity in service (R470 to R486): CALREF, the calibration registers, save and restore, on-die SRAM, units brought in and returned, and the record's writes. -/

namespace Sys2Proof.Machine

open Sys2Proof

/-! ### CALREF (R474, R475) -/

/-- CALREF reads 1.1500 V to 1.2500 V. -/
def calrefOk (uv : Nat) : Bool := decide (1150000 ≤ uv ∧ uv ≤ 1250000)

/-- A write of CAL_CMD with what CALREF reads in µV. -/
def State.writeCalCmd (v : Word) (uv : Nat) (s : State) : State :=
  if bit v 0 then
    let s : State := { s with cal := { s.cal with present := calrefOk uv } }
    if s.cal.running || !s.writesOk || !calrefOk uv then { s with cal := { s.cal with refFail := true } }
    else { s with cal := { s.cal with running := true, refFail := false, startAt := s.clk } }
  else s

/-- CALREF_RUN. -/
def execCalrefRun (dt : Nat) (v : Word) (uv : Nat) (s : State) : Host.Outcome State Fault Refusal := .next ((s.elapse dt).writeCalCmd v uv)

/-- CALREF_RUN_DONE: a run of more than 200 ms is abandoned. -/
def execCalrefRunDone (dt code : Nat) (resid : Int) (s : State) : Host.Outcome State Fault Refusal :=
  let s := s.elapse dt
  .next (if s.cal.running then
      let s1 : State := { s with cal := { s.cal with running := false } }
      if s.clk ≤ s.cal.startAt + 200 * msU ∧ resid.natAbs ≤ 100 then
        { s1 with cal := { s1.cal with trim := BitVec.ofNat 7 code, resid := resid, trace := 1, refTime := BitVec.ofNat 64 (s.ns / 1000000000), refNs := s.ns % 1000000000 } }
      else { s1 with cal := { s1.cal with refFail := true } }
    else s)

/-! ### Calibration registers (R476) -/

/-- A write of CAL_REF: it applies at once, and TRACE reads 2. -/
def State.writeCalRef (v : Word) (s : State) : State := { s with cal := { s.cal with trim := BitVec.ofNat 7 (bits v 0 7), trace := 2 } }

/-- A write of CAL_SENS_TRIM for the sensor selected. -/
def State.writeSensTrim (v : Word) (s : State) : State :=
  let k := s.regBits 0xD080 0 5
  if k < 20 then { s with cal := { s.cal with sens := tput ((Config.sensTrim k).toNat, Config.sensResid k) s.cal.sens k (bits v 0 4, (s.sensCal k).2), trace := 2 } } else s

/-- A write of CAL_LANE_USE_LO (0) or _HI (1): the starting point of the lane's next calibration. -/
def State.writeLaneUse (half : Nat) (v : Word) (s : State) : State :=
  let i := s.regBits 0xD040 0 7
  if i < 80 then
    s.modLane i fun x => { x with sliceStart := if half = 0 then x.sliceStart / 2 ^ 32 * 2 ^ 32 + v.toNat else x.sliceStart % 2 ^ 32 + bits v 0 4 * 2 ^ 32 }
  else s

/-! ### save.calibration and restore.calibration -/

/-- SECTIONS of save.calibration. -/
def saveIds (d : Slot) : List Nat := secIds (prm d 0 1)

/-- Refusals of save.calibration (R477). -/
def saveRefusals (i : Item) (_ : State) : List Refuse := [malformed (decide (31 < prm i.desc 0 1) || decide (dLen i.desc < imgLen (saveIds i.desc)))]

/-- Refusals of restore.calibration at take (R478). -/
def restoreRefusals (_ : Item) (s : State) : List Refuse := [badState s.cal.running 2]

/-- SAVE_CALIBRATION (R477): the image is written and the command DONE, with the bytes written as RESULT; FAILED_UNIT where the write fails (R55). IMPRESSION is 0, since the command is bound to no impression (log entry 25). -/
def execSaveCalibration (dt q : Nat) (desc auth : Slot) (s : State) : Host.Outcome State Fault Refusal :=
  .next ((s.elapse dt).takeCmd 0x0702 q desc auth false 0 saveRefusals
    (fun i s =>
      let r := s.writeResult (dAddr i.desc) (s.savedImage (saveIds i.desc))
      if r.1 then r.2.done i.id 0 (imgLen (saveIds i.desc)) else r.2.refuse i.id .failedUnit 2))

/-- RESTORE_CALIBRATION taken (R478): its buffer is read. -/
def execRestoreCalibration (dt q : Nat) (desc auth : Slot) (s : State) : Host.Outcome State Fault Refusal :=
  .next ((s.elapse dt).takeCmd 0x0703 q desc auth false 0 restoreRefusals (fun i s => s.phase i.id .staging))

/-- REFERENCE and SENSOR applied at once. -/
def State.applyElectrical (l : List (Nat × List Byte)) (s : State) : State :=
  let s := match secOf l 1 with
    | none => s
    | some b => { s with cal := { s.cal with trim := BitVec.ofNat 7 (at_ b 0 1), resid := sgn 16 (at_ b 2 2), refTime := BitVec.ofNat 64 (at_ b 4 8), refNs := at_ b 12 4, trace := 2 } }
  match secOf l 2 with
  | none => s
  | some b => { s with cal := { s.cal with
      trace := 2
      sens := (List.range 20).foldl (fun t k => tput ((Config.sensTrim k).toNat, Config.sensResid k) t k (at_ b (4 * k) 1, sgn 16 (at_ b (4 * k + 2) 2))) s.cal.sens } }

/-- LANE and HBM become starting points. -/
def State.applyStarts (l : List (Nat × List Byte)) (s : State) : State :=
  let s := match secOf l 3 with
    | none => s
    | some b => (List.range 80).foldl (fun s i => s.modLane i fun x => { x with sliceStart := at_ b (8 * i) 5 }) s
  match secOf l 4 with
  | none => s
  | some b => (List.range 64).foldl (fun s p => s.modPc p fun x => { x with startTaps := (List.range 5).map fun k => (at_ b (10 * p + 2 * k) 1, at_ b (10 * p + 2 * k + 1) 1) }) s

/-- A restored image read into staging: refused, or applied, its KEEPER section at the next commit point. -/
def State.stagedRestore (i : Item) (buf : List Byte) (s : State) : State :=
  match imageOf buf with
  | none => s.refuse i.id .refusedMalformed 0
  | some l =>
    if at_ buf 16 8 ≠ Config.calId.toNat then s.refuse i.id .refusedState 1
    else if s.cal.running then s.refuse i.id .refusedState 2
    else
      let go (x : Item) : Item := { x with buf := buf, phase := .landing, target := s.nextImp, late := false }
      ((s.applyElectrical l).applyStarts l).modItem i.id go

/-! ### On-die SRAM (R481) -/

/-- The request that read an uncorrectable word returns; the requester reads its content again. -/
def State.sramRetry (u : SramUser) (s : State) : State :=
  let s : State := { s with cal := { s.cal with retries := s.cal.retries + 1 } }
  match u with
  | .engine e =>
    if s.win.pressCut then s
    else
      let held := s.cmp.jobs.filter fun j => j.engine == some e
      let rest := s.cmp.jobs.filter fun j => j.engine != some e
      ({ s with cmp := { s.cmp with jobs := held.map unassigned ++ rest } } : State).dispatchAll
  | .pageCache k p => { s with lmp := { s.lmp with cache := s.lmp.cache.filter fun c => c != 256 * k + p } }
  | _ => s

/-- A macro with a spare taken: rows first, then columns. -/
def Macro.spared (x : Macro) (row : Nat) : Macro :=
  let x := if x.rows < 2 then { x with rows := x.rows + 1 } else { x with cols := x.cols + 1 }
  { x with corr := x.corr.filter (fun e => e.1 != row), usedUp := decide (x.rows = 2 ∧ x.cols = 2) }

/-- A macro's row or column spared. -/
def State.spareMacro (n row : Nat) (s : State) : State :=
  let x := (tget {} s.cal.macros n).spared row
  let s : State := { s with cal := { s.cal with macros := tput {} s.cal.macros n x, sramSpared := satU 16 (s.cal.sramSpared + 1), sramUsedUp := s.cal.sramUsedUp + b2n x.usedUp } }
  (s.raise .sramSpared (instOf 15 n) [] false).noteRecord

/-- A spare taken where there is one. -/
def State.spareIf (n row : Nat) (s : State) : State := if (tget {} s.cal.macros n).usedUp then s else s.spareMacro n row

/-- SRAM_READ_ERROR. -/
def execSramReadError (dt n row : Nat) (e : EccSeen) (u : SramUser) (s : State) : Host.Outcome State Fault Refusal :=
  let s := s.elapse dt
  let x : Macro := tget {} s.cal.macros n
  .next (match e with
    | .clean => s
    | .single _ _ =>
      let due := duePerSec x.ceAt s.clk
      let y : Macro := { x with corr := (row, s.clk) :: x.corr.filter (fun e => decide (s.clk < e.2 + hour)), ceAt := if due then some s.clk else x.ceAt }
      let s : State := { s with cal := { s.cal with macros := tput {} s.cal.macros n y } }
      let s := if due then s.raise .sramCe (instOf 15 n) [] false else s
      if 2 ≤ (y.corr.filter fun e => e.1 == row).length then s.spareIf n row else s
    | .double _ =>
      let s : State := if x.usedUp then { s with cal := { s.cal with sramMore := s.cal.sramMore + 1 } } else s.spareMacro n row
      s.sramRetry u)

/-! ### Engines and encoders (R482 to R484) -/

/-- A unit number of CAL_UNIT_SEL. -/
def unitOk (k : Nat) : Bool := decide (k < 18) || (decide (32 ≤ k) && decide (k ≤ 40))

/-- The instance of a unit (Table 13-3). -/
def unitInst (k : Nat) : Nat := if k < 32 then instOf 9 k else instOf 10 (k - 32)

/-- A write of CAL_UNIT_CTRL. -/
def State.writeUnitCtrl (v : Word) (s : State) : State :=
  let k := s.regBits 0xD0C0 0 6
  let u := s.unit k
  if bit v 0 && unitOk k then
    if u.st = .degraded then (s.setUnit k { u with st := .inService }).noteRecord
    else if u.st = .retired then s.setUnit k { u with testing := true, gen := nextGen u.gen }
    else s
  else s

/-- UNIT_RESTORE. -/
def execUnitRestore (dt : Nat) (v : Word) (s : State) : Host.Outcome State Fault Refusal := .next ((s.elapse dt).writeUnitCtrl v)

/-- UNIT_RESTORE_SELFTEST_DONE: the self-test that began first by unit number ends. -/
def execUnitRestoreSelftestDone (dt : Nat) (pass : Bool) (s : State) : Host.Outcome State Fault Refusal :=
  let s := s.elapse dt
  .next (match (List.range 41).find? fun k => (s.unit k).testing with
    | none => s
    | some k =>
      let u := s.unit k
      if pass then (s.setUnit k { u with st := .spare, testing := false, fail := false, placeOf := 0x3F }).noteRecord
      else s.setUnit k { u with testing := false, fail := true })

/-- A unit brought in enters service in the place of another (R18, R479). -/
def State.entered (k for_ wait : Nat) (s : State) : State :=
  (s.modUnit k fun u => { u with st := .inService, bringing := none, placeOf := for_, readyAt := wait }).logSub (unitInst for_) (unitInst k)

/-- A unit that fails its self-test is RETIRED and recorded; an engine raises ENGINE_RETIRED, whatever retired it (R155). -/
def State.failedIn (k : Nat) (s : State) : State :=
  let s := (s.modUnit k fun u => { u with st := .retired, bringing := none, fail := true, gen := nextGen u.gen }).noteRecord
  if k < 18 then s.raise .engineRetired (instOf 9 k) [] false else s

/-- ENGINE_BRING_IN_DONE; the spare manager pauses during a supervisor reset (R528). -/
def execEngineBringInDone (dt e : Nat) (pass : Bool) (s : State) : Host.Outcome State Fault Refusal :=
  let s := s.elapse dt
  .next (match (s.unit e).bringing with
    | none => s
    | some f =>
      if 18 ≤ e ∨ ¬s.sys.supRun then s
      else if pass then (s.entered e f 0).dispatch e
      else (s.failedIn e).bringInEngine f)

/-- ENCODER_BRING_IN_DONE. -/
def execEncoderBringInDone (dt : Nat) (pass : Bool) (s : State) : Host.Outcome State Fault Refusal :=
  let s := s.elapse dt
  .next (match (s.unit 40).bringing with
    | none => s
    | some f =>
      if ¬s.sys.supRun then s
      else if pass then s.entered 40 f (s.clk + msU)
      else s.failedIn 40)

/-! ### The record (R479) -/

/-- SPARE_RECORD_WRITE. -/
def execSpareRecordWrite (dt : Nat) (s : State) : Host.Outcome State Fault Refusal :=
  let s := s.elapse dt
  .next (if s.cal.pend ∧ s.sys.supRun ∧ s.writesOk then
      { s with cal := { s.cal.store s.recordNow with writes := satU 16 (s.cal.writes + 1), pend := false } }
    else s)

end Sys2Proof.Machine
end

