-- ==== Sys2Proof/Machine/Update.lean ====
section
/-! DEFINITION. Firmware update, keys and entropy: packages and their checks (R488 to R492), activation (R493 to R496), confirmation and the choice of bank (R497 to R499), the owner's key, lock and tokens (R500 to R503), and the entropy source (R504 to R507). -/

namespace Sys2Proof.Machine

open Sys2Proof

/-! ### Packages (R488, R489) -/

/-- A digest as a number, byte 0 most significant. -/
def hash384 (l : List Byte) : BitVec 384 := BitVec.ofNat 384 (beNat (sha384 l))

/-- Bytes of 0. -/
def zeros (l : List Byte) : Bool := l.all fun b => b == 0

/-- The fields of a package (Tables 15-1 to 15-3). -/
def pkManLen (l : List Byte) : Nat := at_ l 12 4
def pkSig (l : List Byte) : Nat := at_ l 16 4
def pkPart (l : List Byte) (k : Nat) : Nat × Nat × Nat := (at_ l (96 + 64 * k) 2, at_ l (100 + 64 * k) 4, at_ l (104 + 64 * k) 4)
def pkVersion (l : List Byte) : Word := BitVec.ofNat 32 (at_ l 72 4)
def pkSvn (l : List Byte) : Nat := at_ l 76 1
def pkRaise (l : List Byte) : Bool := at_ l 71 1 % 2 == 1
/-- What both signatures sign, and the hash of the manifest. -/
def pkSigned (l : List Byte) : List Byte := l.take (64 + pkManLen l)
def pkManifest (l : List Byte) : BitVec 384 := hash384 (slice l 64 (pkManLen l))

/-- The parts, as offset and length. -/
def pkParts (l : List Byte) : List (Nat × Nat × Nat) := (List.range 6).map (pkPart l)

/-- Two parts do not overlap. -/
def apart (a b : Nat × Nat × Nat) : Bool := decide (a.2.1 + a.2.2 ≤ b.2.1) || decide (b.2.1 + b.2.2 ≤ a.2.1)

/-- Step 1 of R489. -/
def pkForm (l : List Byte) : Bool :=
  let ps := pkParts l
  decide (476 ≤ l.length) && decide (at_ l 0 4 = 0x594C4547) && decide (at_ l 4 2 = 1) && zeros (slice l 6 2) && decide (at_ l 8 4 = l.length) &&
    decide (pkManLen l = 416) && decide (at_ l 70 1 = 6) && decide (pkSig l % 4 = 0) && decide (l.length = pkSig l + 396) && zeros (slice l 20 44) &&
    decide (pkSvn l < 64) && zeros (slice l 77 11) && ((List.range 6).all fun k => ps.any fun p => p.1 == k + 1) &&
    (ps.all fun p => decide (1 ≤ p.2.2) && decide (480 ≤ p.2.1) && decide (p.2.1 + p.2.2 ≤ pkSig l)) &&
    (List.range 6).all fun a => (List.range a).all fun b => apart (nthD (0, 0, 0) ps a) (nthD (0, 0, 0) ps b)

/-- Step 2: HW_ID and the stepping range. -/
def pkFits (l : List Byte) : Bool := decide (at_ l 64 4 = 0x4B310648) && decide (at_ l 68 1 ≤ 0xB1) && decide (0xB1 ≤ at_ l 69 1)

/-- A signature of the package by a key of 97 bytes. -/
def pkSignedBy (l : List Byte) (key r s : Nat) : Bool :=
  let o := pkSig l
  decide (at_ l (o + key) 1 = 4) && ecdsa384 (slice l (o + key + 1) 96) (slice l (o + r) 48 ++ slice l (o + s) 48) (pkSigned l)

/-- The hash of the owner key that co-signs a package, if one does. -/
def pkCoSigner (l : List Byte) : Option (BitVec 384) :=
  if at_ l (pkSig l + 196) 1 = 1 ∧ pkSignedBy l 200 300 348 then some (hash384 (slice l (pkSig l + 200) 97)) else none

/-- Every part has its digest. -/
def pkDigests (l : List Byte) : Bool := (List.range 6).all fun k => let p := pkPart l k
  sha384 (slice l p.2.1 p.2.2) == slice l (112 + 64 * k) 48

/-- VERIFY_ERR of a package, 0 when every check of R489 holds. -/
def State.verifyErr (s : State) (l : List Byte) : Nat :=
  if !pkForm l then 1
  else if !pkFits l then 2
  else if hash384 (slice l (pkSig l) 97) ≠ Config.vendorKeyHash then 3
  else if !pkSignedBy l 0 100 148 then 4
  else if s.upd.owner.isSome ∧ pkCoSigner l ≠ s.upd.owner then 5
  else if !pkDigests l then 6
  else if pkSvn l < s.upd.floor then 7
  else 0

/-! ### Transfer (R490 to R492) -/

/-- Fields of update.block (Table 15-5). -/
def ubKind (d : Slot) : Nat := prm d 0 1
def ubFirst (d : Slot) : Bool := prm d 1 1 % 2 == 1
def ubOff (d : Slot) : Nat := prm d 4 4
def ubTotal (d : Slot) : Nat := prm d 8 4

/-- The fields of a package block are malformed (R490). -/
def blockBad (d : Slot) : Bool :=
  let n := dLen d
  decide (1 < ubKind d) || (decide (ubKind d = 0) &&
    (decide (1 < prm d 1 1) || decide (prm d 2 2 ≠ 0) || decide (prm d 16 16 ≠ 0) || decide (ubOff d % 4096 ≠ 0) || decide (n = 0) || decide (1048576 < n) ||
      (decide (n < 4096) && decide (ubOff d + n ≠ ubTotal d)) || decide (ubTotal d < ubOff d + n) || decide (100663296 < ubTotal d)))

/-- The running image is TRIED and not confirmed, a bank is forced, or an activation is under way (detail 7 of Table 15-7, R526). -/
def State.updating (s : State) : Bool := decide (s.upd.st = .writing) || decide (s.upd.st = .armed) || s.upd.trialRun || decide (s.sys.straps.bankForce ≠ 0)

/-- Detail 8 of Table 15-7. -/
def State.noBlock (s : State) (d : Slot) : Bool :=
  !ubFirst d && (decide (s.upd.st ≠ .receiving) || (match s.upd.staged with | none => true | some g => decide (g.total ≠ ubTotal d)))

/-- The staged package's allocation. -/
def State.stagedAllocs (s : State) : List Nat := match s.upd.staged with
  | none => []
  | some g => [g.alloc]

/-- The first of several state details that applies, in table order. -/
def firstDetail (l : List (Bool × Nat)) : Nat := ((l.find? fun e => e.1).map (·.2)).getD 0

/-- Refusals of update.block (R490, R493, R503, R505). -/
def blockRefusals (i : Item) (s : State) : List Refuse :=
  let d := i.desc
  let pkg := decide (ubKind d = 0)
  let st := firstDetail [(s.upd.lock, 1), (s.updating, 7), (s.noBlock d, 8)]
  [malformed (blockBad d), malformed (decide (ubKind d = 1) && decide (dLen d ≠ 228)), notReady (decide (ubKind d = 1) && (!s.upd.nonceOnce || !s.upd.entReady)),
   badState (pkg && decide (st ≠ 0)) st, noRoom (pkg && ubFirst d && !(s.release s.stagedAllocs).canAlloc clsBulk (extents (ubTotal d))) 3]

/-- UPDATE_BLOCK taken: its buffer is read. -/
def execUpdateBlock (dt q : Nat) (desc auth : Slot) (s : State) : Host.Outcome State Fault Refusal :=
  .next ((s.elapse dt).takeCmd 0x0601 q desc auth false 0 blockRefusals (fun i s => s.phase i.id .staging))

/-- Bytes of granule g of a package. -/
def granLen (total g : Nat) : Nat := min 4096 (total - 4096 * g)

/-- A block copied into the granules from its offset. -/
def putBlock (off : Nat) (buf : List Byte) (t : Tab (List Byte)) : Tab (List Byte) :=
  (List.range (ceilDiv buf.length 4096)).foldl (fun t k =>
    let part := slice buf (4096 * k) 4096
    tmod [] t (off / 4096 + k) fun old => part ++ old.drop part.length) t

/-- Every granule is covered; how many are. -/
def Staged.count (g : Staged) : Nat := ((List.range (ceilDiv g.total 4096)).filter fun k => (tget [] g.granules k).length == granLen g.total k).length
def Staged.full (g : Staged) : Bool := g.count == ceilDiv g.total 4096

/-- The staged bytes. -/
def Staged.bytes (g : Staged) : List Byte := ((List.range (ceilDiv g.total 4096)).map fun k => tget [] g.granules k).flatten

/-- An accepted package block, in the package it belongs to (R491). -/
def State.placeBlock (i : Item) (buf : List Byte) (g : Staged) (s : State) : State :=
  let g : Staged := { g with granules := putBlock (ubOff i.desc) buf g.granules }
  if g.full && g.item.isNone then
    ({ s with upd := { s.upd with st := .receiving, staged := some { g with item := some i.id } } } : State).phase i.id .working
  else ({ s with upd := { s.upd with st := .receiving, staged := some g } } : State).done i.id 0 (b2n g.full)

/-- The staged package discarded: a block whose verification has not ended ends DONE, complete but not verified (R490, R491; log entry 106). -/
def State.discardStaged (s : State) : State :=
  match s.upd.staged with
  | none => s
  | some g =>
    let s : State := { s with upd := { s.upd with staged := none } }
    match g.item with
    | none => s
    | some id => s.done id 0 1

/-- A package block read into staging. -/
def State.stagedBlock (i : Item) (buf : List Byte) (s : State) : State :=
  let d := i.desc
  if (crc32c buf).toNat ≠ prm d 12 4 then s.refuse i.id .refusedMalformed 0
  else if ubFirst d then
    match (s.release s.stagedAllocs).alloc clsBulk (extents (ubTotal d)) with
    | none => s.refuse i.id .refusedCapacity 3
    | some (a, s) => s.discardStaged.placeBlock i buf { total := ubTotal d, granules := [], alloc := a }
  else match s.upd.staged with
    | none => s.refuseWith i .refusedState 8
    | some g => if s.noBlock d then s.refuseWith i .refusedState 8 else s.placeBlock i buf g

/-- PACKAGE_VERIFY_DONE (R491, R492). -/
def execPackageVerifyDone (dt : Nat) (s : State) : Host.Outcome State Fault Refusal :=
  let s := s.elapse dt
  .next (match s.upd.staged with
    | none => s
    | some g =>
      match g.item with
      | none => s
      | some id =>
        let l := g.bytes
        let e := s.verifyErr l
        if e = 0 then
          let g : Staged := { g with item := none, verified := true, version := pkVersion l, svn := pkSvn l, manifest := pkManifest l, raise := pkRaise l, coSigner := pkCoSigner l }
          ({ s with upd := { s.upd with st := .verified, verr := 0, staged := some g } } : State).done id 0 3
        else
          let sq := match s.item? id with
            | some i => i.sq
            | none => 0
          let s := s.release [g.alloc]
          let s : State := { s with upd := { s.upd with st := .idle, verr := e, staged := none } }
          (if 3 ≤ e ∧ e ≤ 5 then s.raise .authFailed (instOf 14 sq) [] false else s.raise .updateRejected 0 [] false).done id 0 1)

/-! ### Activation (R493 to R496) -/

/-- The bank that runs. -/
def Upd.running (u : Upd) : Bank := if u.runB then u.bankB else u.bankA

/-- A quire is single-ended (R371). -/
def State.singleEnded (s : State) (q : Nat) : Bool := decide ((s.quire q).dirA.st ≠ .closed) || decide ((s.quire q).dirB.st ≠ .closed)

/-- Details 1 to 4 of Table 15-7. -/
def State.actDetails (s : State) : List (Bool × Nat) :=
  [(s.upd.lock, 1), (!s.writesOk, 2), ((List.range 16).any s.singleEnded, 3), (s.critOut, 4)]

/-- Refusals of update.activate. -/
def activateRefusals (i : Item) (s : State) : List Refuse :=
  let d := i.desc
  let v := match s.upd.staged with
    | some g => if g.verified then some g.version else none
    | none => none
  let st := firstDetail (s.actDetails ++ [(v.isNone, 5), (decide (v ≠ some (BitVec.ofNat 32 (prm d 0 4))), 6), (s.updating, 7)])
  [malformed (decide (prm d 4 28 ≠ 0)), badState (decide (st ≠ 0)) st]

/-- UPDATE_ACTIVATE accepted: step 1 begins with the other bank's header EMPTY, and is skipped for a bank already WRITTEN with the staged manifest (R494). -/
def State.startActivation (i : Item) (g : Staged) (s : State) : State :=
  let b := s.upd.other
  let skip := decide (b.st = .written) && b.manifest == g.manifest
  let u := if skip then s.upd else s.upd.setOther {}
  ({ s with upd := { u with st := .writing, act := some i.id, step1 := if skip then some s.clk else none } } : State).phase i.id .working

/-- UPDATE_ACTIVATE (R493, R494). -/
def execUpdateActivate (dt q : Nat) (desc auth : Slot) (s : State) : Host.Outcome State Fault Refusal :=
  .next ((s.elapse dt).takeCmd 0x0602 q desc auth false 0 activateRefusals
    (fun i s => match s.upd.staged with
      | none => s
      | some g => s.startActivation i g))

/-- Steps 3 and 4: the header becomes TRIAL, and the command DONE with the new GEN. -/
def State.commitBank (id : Nat) (s : State) : State :=
  let gen := s.upd.running.gen + 1
  let u := s.upd.setOther { s.upd.other with st := .trial, gen := gen }
  ({ s with upd := { u with st := .armed, act := none, step1 := none, armedAt := s.clk } } : State).done id 0 gen

/-- Step 2: the commit follows while no detail of 1 to 4 applies. -/
def State.tryCommit (id : Nat) (s : State) : State := if firstDetail s.actDetails = 0 then s.commitBank id else s

/-- The header WRITTEN of a package whose parts read back well. -/
def writtenBank (g : Staged) : Bank :=
  { st := .written, version := g.version, svn := g.svn, manifest := g.manifest, raise := g.raise, good := true, coSigner := g.coSigner }

/-- ACTIVATE_WRITE_DONE: step 1 ends, or a commit that waits is tried again. -/
def execActivateWriteDone (dt : Nat) (readbackOk : Bool) (s : State) : Host.Outcome State Fault Refusal :=
  let s := s.elapse dt
  .next (match s.upd.act, s.upd.staged with
    | some id, some g =>
      if s.upd.st ≠ .writing then s
      else if s.upd.step1.isSome then s.tryCommit id
      else if !readbackOk then s.failActivation 7
      else
        let u := s.upd.setOther (writtenBank g)
        ({ s with upd := { u with step1 := some s.clk } } : State).tryCommit id
    | _, _ => s)

/-- ACTIVATE_CONDITION_TIMEOUT: 60 s into step 2 the conditions are looked at for the last time. -/
def execActivateConditionTimeout (dt : Nat) (s : State) : Host.Outcome State Fault Refusal :=
  let s := s.elapse dt
  .next (match s.upd.step1 with
    | none => s
    | some t =>
      if ¬(s.upd.st = .writing ∧ t + 60 * secU ≤ s.clk) then s
      else match s.upd.act with
        | some id => if firstDetail s.actDetails = 0 then s.commitBank id else s.failActivation 6
        | none => s.failActivation 6)

/-- WARM_RESTART: 10 ms after the FINAL completion. -/
def execWarmRestart (dt : Nat) (s : State) : Host.Outcome State Fault Refusal :=
  let s := s.elapse dt
  .next (if s.upd.st = .armed ∧ s.upd.armedAt + 10 * msU ≤ s.clk then s.moduleReset 2 else s)

/-! ### Confirmation (R498, R499) -/

/-- The four conditions of R498: LINK, HBM, QUIRES and IMPRESSION. -/
def State.confLink (s : State) : Bool := s.hif.linkUp && s.regBit 0x00C 0
def State.confQuires (s : State) : Bool :=
  let l := (List.range 16).filter fun q => s.regBit (0x6080 + 4 * q) 16
  decide (l ≠ []) && l.all fun q => decide ((s.quire q).st = .running) && !s.singleEnded q
def State.confirmOk (s : State) : Bool := s.confLink && s.mem.trained && s.confQuires && s.upd.goodImp

/-- A confirmation is sought: the running bank is TRIED, and no bank is forced (R526). -/
def State.onTrial (s : State) : Bool := s.upd.trialRun && s.sys.supRun && decide (s.sys.straps.bankForce = 0)

/-- The running bank's header set. -/
def Upd.setRunning (u : Upd) (b : Bank) : Upd := if u.runB then { u with bankB := b } else { u with bankA := b }

/-- The header CONFIRMED, and the floor raised when the image asks for it. -/
def State.confirmBank (s : State) : State :=
  let b := s.upd.running
  let u := s.upd.setRunning { b with st := .confirmed }
  { s with upd := { u with trialRun := false, confirmPend := false, floor := if b.raise then max u.floor b.svn else u.floor } }

/-- The image has proved itself: its writes are made, or wait while they are not permitted. -/
def State.proveImage (s : State) : State := if s.writesOk then s.confirmBank else { s with upd := { s.upd with confirmPend := true } }

/-- IMAGE_CONFIRM: the writes wait while they are not permitted. -/
def execImageConfirm (dt : Nat) (s : State) : Host.Outcome State Fault Refusal :=
  let s := s.elapse dt
  .next (if s.onTrial && (s.upd.confirmPend || (s.confirmOk && decide (s.clk ≤ s.upd.supStart + 120 * secU))) then s.proveImage else s)

/-- CONFIRMATION_DEADLINE: a warm restart where the conditions of R498 do not all hold (R499). -/
def execConfirmationDeadline (dt : Nat) (s : State) : Host.Outcome State Fault Refusal :=
  let s := s.elapse dt
  .next (if s.onTrial && !s.upd.confirmPend && decide (s.upd.supStart + 120 * secU ≤ s.clk) then (if s.confirmOk then s.proveImage else s.moduleReset 3) else s)

/-! ### The choice of bank (R497, R526) -/

/-- A bank passes steps 3 to 6 of R489 against its own contents. -/
def Bank.passes (owner : Option (BitVec 384)) (b : Bank) : Bool := b.good && (owner.isNone || b.coSigner == owner)

/-- The bank boot picks before its checks: bank B or not, the fallback reason, and the headers. -/
def Upd.pick (u : Upd) (writesOk : Bool) : Bool × Nat × Upd :=
  let reason := if u.byDeadline then 1 else 2
  if u.bankB.st = .trial ∧ writesOk then (true, 0, { u with bankB := { u.bankB with st := .tried } })
  else if u.bankA.st = .trial ∧ writesOk then (false, 0, { u with bankA := { u.bankA with st := .tried } })
  else if u.bankB.st = .tried then (false, reason, u)
  else if u.bankA.st = .tried then (true, reason, u)
  else if u.bankB.st = .confirmed ∧ (u.bankA.st ≠ .confirmed ∨ u.bankA.gen < u.bankB.gen) then (true, 0, u)
  else (false, 0, u)

/-- The bank booted, or none that passes: bank B or not, the fallback reason, and the headers. -/
def Upd.boot (u : Upd) (writesOk : Bool) (force : Nat) : Option (Bool × Nat × Upd) :=
  let ok (x : Upd) (b : Bool) : Bool := (if b then x.bankB else x.bankA).passes x.owner
  let conf (x : Upd) (b : Bool) : Bool := decide ((if b then x.bankB else x.bankA).st = .confirmed)
  let tried (x : Upd) (b : Bool) : Bool := decide ((if b then x.bankB else x.bankA).st = .tried)
  if force = 1 then (if ok u false then some (false, 0, u) else none)
  else if force = 2 then (if ok u true then some (true, 0, u) else none)
  else
    let (b, r, v) := u.pick writesOk
    if ok v b && (decide (r ≠ 0) || conf v b || tried v b) then some (b, r, v)
    else if conf v (!b) && ok v (!b) then some (!b, 3, v)
    else none

/-! ### The owner's key and lock (R500 to R503) -/

/-- The hash bytes of the UPD_OWNER_HASH registers. -/
def State.ownerBytes (s : State) : List Byte := ((List.range 12).map fun k => leBytes 4 (s.reg (0xE040 + 4 * k)).toNat).flatten

/-- OWNER_ERR set. -/
def State.ownerFail (s : State) : State := { s with upd := { s.upd with ownerErr := true } }

/-- PROGRAM. -/
def State.programOwner (s : State) : State :=
  if s.upd.owner.isNone && (crc32c s.ownerBytes == s.upd.ownerCheck) && s.writesOk then
    { s with upd := { s.upd with owner := some (BitVec.ofNat 384 (beNat s.ownerBytes)) } }
  else s.ownerFail

/-- LOCK. -/
def State.lockOwner (s : State) : State := if s.upd.owner.isSome && s.writesOk then { s with upd := { s.upd with lock := true } } else s.ownerFail

/-- A write of UPD_OWNER_CMD. -/
def State.writeOwnerCmd (v : Word) (s : State) : State :=
  let s : State := { s with upd := { s.upd with ownerErr := false } }
  let s := if bit v 0 then s.programOwner else s
  if bit v 1 then s.lockOwner else s

/-- OWNER_PROGRAM. -/
def execOwnerProgram (dt : Nat) (v : Word) (s : State) : Host.Outcome State Fault Refusal := .next ((s.elapse dt).writeOwnerCmd v)

/-- OWNER_LOCK. -/
def execOwnerLock (dt : Nat) (v : Word) (s : State) : Host.Outcome State Fault Refusal := .next ((s.elapse dt).writeOwnerCmd v)

/-- An owner token read into staging: its check consumes the nonce whatever it finds (R502, R503; log entry 108). -/
def State.stagedToken (i : Item) (t : List Byte) (s : State) : State :=
  let live := s.upd.nonceLive && at_ t 16 8 == s.upd.nonce.toNat
  let s : State := { s with upd := { s.upd with nonceLive := false } }
  if at_ t 0 4 ≠ 0x594C4F54 ∨ at_ t 4 2 ≠ 1 then s.refuse i.id .refusedMalformed 0
  else
    match s.upd.owner with
    | none => s.refuse i.id .refusedAuth 1
    | some h =>
      if !live then s.refuse i.id .refusedAuth 2
      else if hash384 (slice t 32 97) ≠ h then s.refuse i.id .refusedAuth 0
      else if !(decide (at_ t 32 1 = 4) && ecdsa384 (slice t 33 96) (slice t 132 96) (t.take 32)) then
        (s.raise .authFailed (instOf 14 i.sq) [] false).refuse i.id .refusedAuth 0
      else if at_ t 8 8 ≠ Config.calId.toNat then s.refuse i.id .refusedAuth 0
      else if !s.writesOk then s.refuseWith i .refusedState 2
      else ({ s with upd := { s.upd with lock := false } } : State).done i.id 0 0

/-! ### The entropy source (R504 to R507) -/

/-- A read of UPD_NONCE_LO: what it returns, with UPD_NONCE_HI latched. -/
def State.readNonce (s : State) : State :=
  if s.upd.entReady then
    let r := s.draw
    let v := Config.entropy r.1
    { r.2 with upd := { r.2.upd with nonce := v, nonceLive := true, nonceOnce := true }, rdata := loW v.toNat, shadows := tput 0 s.shadows 0xE02C (hiW v.toNat) }
  else { s with rdata := 0, shadows := tput 0 s.shadows 0xE02C 0 }

/-- NONCE_ISSUE. -/
def execNonceIssue (dt : Nat) (s : State) : Host.Outcome State Fault Refusal := .next (s.elapse dt).readNonce

/-- ENTROPY_READY: the start-up tests pass; at a start this ends stage 2 (R505, R519). -/
def execEntropyReady (dt : Nat) (s : State) : Host.Outcome State Fault Refusal :=
  let s := s.elapse dt
  .next (if 1 ≤ s.sys.stage ∧ ¬s.upd.entReady ∧ ¬s.upd.hardFail then
      let s := if s.upd.entEp then s.clear .entropyHealth 0 else s
      let s : State := { s with upd := { s.upd with entReady := true, restarts := 0, entEp := false }, sys := { s.sys with stage := max 2 s.sys.stage } }
      s.noteTr
    else s)

/-- Counts of UPD_ENT_CNT. -/
def Upd.tested (test : Nat) (u : Upd) : Upd :=
  { u with lastTest := test % 4, rctCnt := if test = 1 then satU 16 (u.rctCnt + 1) else u.rctCnt, aptCnt := if test = 2 then satU 16 (u.aptCnt + 1) else u.aptCnt }

/-- ENTROPY_HEALTH (R506): in service READY clears and the source restarts; a restart that fails counts, and the third in a row is final. -/
def execEntropyHealth (dt test : Nat) (s : State) : Host.Outcome State Fault Refusal :=
  let s := s.elapse dt
  .next (if s.sys.stage = 0 ∨ s.upd.hardFail then s
    else
      let was := s.upd.entReady
      let s : State := { s with upd := s.upd.tested test }
      if was then
        ({ s with upd := { s.upd with entReady := false, restarts := 0, entEp := true } } : State).raise .entropyHealth 0 [] true
      else { s with upd := { s.upd with restarts := satU 4 (s.upd.restarts + 1), hardFail := decide (3 ≤ s.upd.restarts + 1) } })

end Sys2Proof.Machine
end

