-- ==== Sys2Proof/Machine/Startup.lean ====
section
/-! DEFINITION. Start-up (R519 to R527): the power-on sequence, straps, the boot of a bank, the spare manager's record (R480), training and test (R417 to R419, R433), lane calibration, READY, and resets by PERST_N. -/

namespace Sys2Proof.Machine

open Sys2Proof

/-- SUPPLY_VALID: the start threshold is passed (R519). -/
def execSupplyValid (dt : Nat) (s : State) : Host.Outcome State Fault Refusal :=
  let s := s.elapse dt
  .next (if s.sys.supValid then s
    else ({ s with sys := { s.sys with supValid := true, tP := if s.sys.perstHigh then some s.clk else none } } : State).noteTr)

/-- PERST_RELEASE: the rising edge of PERST_N (R519). -/
def execPerstRelease (dt : Nat) (s : State) : Host.Outcome State Fault Refusal :=
  let s := s.elapse dt
  .next (if s.sys.perstHigh then s
    else ({ s with sys := { s.sys with perstHigh := true, tP := if s.sys.supValid then some s.clk else none } } : State).noteTr)

/-- PERST_ASSERT: PERST_N going low is a module reset (R524). -/
def execPerstAssert (dt : Nat) (s : State) : Host.Outcome State Fault Refusal :=
  let s := s.elapse dt
  .next (if s.sys.perstHigh then s.moduleReset 1 else s)

/-! ### Stage 3: straps, bank and record -/

/-- A unit's state from the record: the register table's reset state where it is neither RETIRED nor DEGRADED. -/
def recState (d x : Unit4) : Unit4 := if x = .retired ∨ x = .degraded then x else d

/-- A spare unit that the record says took a place. -/
def recPlace (dflt : UnitRec) (st : Unit4) (p : Nat) : UnitRec :=
  if p = 0 then { dflt with st := recState dflt.st st } else { dflt with st := recState .inService st, placeOf := p - 1 }

/-- A lane as the record has it: a working lane's state, or a spare that carries one. -/
def recLane (i : Nat) (st : Unit4) (p : Nat) : Lane :=
  let d := laneDflt i
  if p = 0 then { d with unit := recState d.unit st } else { d with unit := recState .inService st, subst := true, for_ := p - 1 }

/-- A pseudo-channel as the record has it, with its repairs in force (R433). -/
def recPc (st : Unit4) (l : List (Nat × Nat × Bool)) : Pc :=
  { unit := recState .inService st, repairs := l, sparesUsed := l.foldl (fun t r => tmod 0 t r.1 (· + 1)) [] }

/-- Repairs of a pseudo-channel: those in fuses, and those of the record. -/
def repairsOf (fuses : List (Nat × Nat × Nat)) (rec_ : List (Nat × Nat × Nat × Bool)) (p : Nat) : List (Nat × Nat × Bool) :=
  let hard := (fuses.filter fun f => f.1 == p).map fun f => (f.2.1, f.2.2, true)
  hard ++ ((rec_.filter fun r => r.1 == p).map (·.2)).filter fun r => !hard.any fun h => h.1 == r.1 && h.2.1 == r.2.1

/-- A macro as the record has it. -/
def recMacro (rows cols : Nat) : Macro := { rows := rows, cols := cols, usedUp := decide (rows = 2 ∧ cols = 2) }

/-- The record applied (R480): unit states, substitutions and repairs. -/
def State.applyRecord (s : State) : State :=
  let r := (s.cal.newer.map (·.2)).getD {}
  let units := (List.range 41).foldl (fun t k => tput (unitDflt k) t k (recPlace (unitDflt k) (tget .inService r.units k) (tget 0 r.places k))) []
  let lanes := (List.range 80).foldl (fun t i => tput (laneDflt i) t i (recLane i (tget .inService r.lanes i) (tget 0 r.subs i))) []
  let pcs := (List.range 64).foldl (fun t p => tput {} t p (recPc (tget .inService r.pcs p) (repairsOf s.cal.fuses r.repairs p))) []
  { s with
    cal := { s.cal with units := units, macros := r.sram.foldl (fun t e => tput {} t e.1 (recMacro e.2.1 e.2.2)) [], log := r.log, lost := s.cal.newer.isNone }
    lanes := lanes
    mem := { s.mem with pcs := pcs } }

/-- UPDATE_FALLBACK of the image a fallback booted (R499). -/
def State.tellFallback (reason : Nat) (s : State) : State := if reason = 0 then s else s.raise .updateFallback 0 [reason] false

/-- The bank that passes runs; without one the module stays in reset (R497, R526). -/
def State.bootBank (st : Straps) (s : State) : State :=
  match s.upd.boot s.writesOk st.bankForce with
  | none => { s with sys := { s.sys with noBank := true, straps := st } }
  | some (b, reason, u) =>
    let u : Upd := { u with runB := b, fallback := decide (reason ≠ 0), reason := reason, supStart := s.clk }
    let u : Upd := { u with trialRun := decide (u.running.st = .tried) }
    let s : State := { s with upd := u, sys := { s.sys with stage := 3, straps := st, supRun := true, noBank := false } }
    ((s.applyRecord).tellFallback reason).aliveSync

/-- Stage 3 (R525 to R527). -/
def State.boot (st : Straps) (s : State) : State :=
  if s.sys.tR.isNone || s.sys.noBank || s.sys.preShut || s.sys.strapErr then s
  else if !st.testLock then { s with sys := { s.sys with strapErr := true, straps := st } }
  else s.bootBank st

/-! ### Stages 4 to 7 -/

/-- The test of R419 fails a pseudo-channel: the retirement condition (R434); it holds no extent, so the reaction ends at RETIRED. -/
def State.failPc (p : Nat) (s : State) : State :=
  let r := (s.modPc p fun x => { x with trainFail := true }).raiseL .memPcRetired (instOf 11 p) [] false true
  if 2 ≤ r.1 then (r.2.modPc p fun x => { x with unit := .retired, gen := nextGen x.gen }).noteRecord else r.2

/-- Soft repairs made hard while the stack may be written (R433). -/
def State.hardenRepairs (s : State) : State :=
  if s.trainTemp && decide (4000 ≤ s.thp.supV) then
    let soft := ((List.range 64).map fun p => ((s.pc p).repairs.filter fun r => !r.2.2).map fun r => (p, r.1, r.2.1)).flatten
    let s := (List.range 64).foldl (fun s p => s.modPc p fun x => { x with repairs := x.repairs.map fun r => (r.1, r.2.1, true) }) s
    { s with cal := { s.cal with fuses := s.cal.fuses ++ soft } }
  else s

/-- The 256 extents of the module's records and trace buffers, reserved once at each start (R430); with fewer free, none is held (log entry 76). -/
def State.reserveOwn (s : State) : State :=
  match s.mem.own with
  | some _ => s
  | none =>
    match s.alloc clsReal 256 with
    | none => s
    | some (a, s) => { s with mem := { s.mem with own := some a } }

/-- Stage 5: HBM trained and tested, with the pseudo-channels and the rows that failed, and the quiet state left where one was kept (R417, R419, R439, R529). -/
def State.trainStage (failed : List Nat) (rows : List (Nat × Nat × Nat)) (s : State) : State :=
  if !s.trainTemp then s.holdTraining
  else
    let s := (List.range 64).foldl (fun s p =>
      let mine := (rows.filter fun r => r.1 == p).map (·.2)
      if (s.pc p).unit = .retired ∨ mine = [] then s
      else
        let t := s.testRows p mine
        if t.1 then t.2.failPc p else t.2) s.trainAll
    let s := s.hardenRepairs
    let s := ((dedup failed).filter fun p => decide (p < 64)).foldl (fun s p => if (s.pc p).unit = .retired then s else s.failPc p) s
    ({ s with mem := { s.mem with trained := true, tempHold := false, quiet := false }, sys := { s.sys with stage := 5 } } : State).reserveOwn

/-- READY and the endpoint (R521); occurrences of a shut-down before READY clear (R522). -/
def State.setReady (s : State) : State :=
  let ms := match s.sys.tR with
    | none => 0
    | some t => (s.clk - t) / msU
  let src := s.sys.preSrc
  let s : State := { s with
    hif := { s.hif with ready := true }
    sys := { s.sys with stage := 7, endpoint := true, startMs := satU 16 ms, preSrc := [] }
    thp := { s.thp with shut := s.thp.shut && !(src.any fun e => decide (e.1 = .tempShutdown)), fail := s.thp.fail && !(src.any fun e => decide (e.1 = .supplyFail)) } }
  src.foldl (fun s e => s.clear e.1 e.2) s

/-- Stage 6: 80 lanes calibrated; READY follows at once. -/
def State.laneStage (s : State) : State :=
  let s := (List.range 80).foldl (fun s i => s.calibrate i) s
  ({ s with cal := { s.cal with lanesDone := true } } : State).setReady

/-- STARTUP_STAGE_DONE: the stage after the last one that ended. Stage 2 ends with ENTROPY_READY. -/
def execStartupStageDone (dt : Nat) (st : Straps) (f : StackTest) (s : State) : Host.Outcome State Fault Refusal :=
  let s := s.elapse dt
  .next (if s.sys.stage = 0 then (if s.sys.supValid then { s with sys := { s.sys with stage := 1 }, thp := { s.thp with aux := true } } else s)
    else if s.sys.stage = 2 then s.boot st
    else if s.sys.stage = 3 then (({ s with sys := { s.sys with stage := 4 } } : State).rails true)
    else if s.sys.stage = 4 then s.trainStage f.pcs f.rows
    else if s.sys.stage = 5 then s.laneStage
    else s)

/-- ENDPOINT_READY (R521): at T_p + 1 s, while stage 5 waits for the temperature of the stacks. -/
def execEndpointReady (dt : Nat) (s : State) : Host.Outcome State Fault Refusal :=
  let s := s.elapse dt
  .next (match s.sys.tP with
    | none => s
    | some t => if s.mem.tempHold ∧ s.sys.stage = 4 ∧ t + secU ≤ s.clk then { s with sys := { s.sys with endpoint := true } } else s)

/-- PREREADY_SHUTDOWN_RESTART (R522): at stage 3, once SUP48 and every sensor have recovered. -/
def execPrereadyShutdownRestart (dt : Nat) (s : State) : Host.Outcome State Fault Refusal :=
  let s := s.elapse dt
  .next (if s.sys.preShut && lasted s.thp.ok36 secU s.clk && (match hottest s.readings with | none => false | some e => decide (e.2 < 1440)) then
      { s with sys := { s.sys with preShut := false }, thp := { s.thp with shut := false, fail := false }, mem := { s.mem with trained := false } }
    else s)

end Sys2Proof.Machine
end

