-- ==== Sys2Proof/Machine/Flags.lean ====
section
/-! DEFINITION. What the registers of BAR0 show: every status field and flag the register tables compute from the state, and the values a ROL register latches (R511). -/

namespace Sys2Proof.Machine

open Sys2Proof

/-- A start has left stage 0 of Table 17-1: until then a register shows its reset value (log entry 21). -/
def State.started (s : State) : Bool := decide (0 < s.sys.stage)

/-- A count shown only after the start. -/
def State.shown0 (s : State) (n : Nat) : Nat := if s.started then n else 0

/-- The number of a register that repeats from a base in steps. -/
def regNo (off base step : Nat) : Nat := (off - base) / step

/-! ### HIF (Tables 2-1, 2-2, 2-6, 17-5, 17-6) -/

/-- HIF_STATUS. -/
def State.hifStatus (s : State) : Word :=
  pack [(0, b2n s.hif.ready), (1, b2n s.running), (2, b2n s.hif.keyLocked), (3, b2n s.hif.keyErr), (4, b2n s.hif.winPend.isSome), (5, b2n s.hif.linkLost)]

/-- HIF_BOOT. -/
def State.hifBoot (s : State) : Word :=
  if s.started then
    pack [(0, s.sys.cause), (2, b2n s.sys.straps.pcieX4), (3, s.sys.straps.bankForce), (5, b2n s.sys.straps.testLock), (8, clampN 3 7 s.sys.stage), (16, satU 16 s.sys.startMs)]
  else 0

/-- HIF_SQn_STATUS. -/
def State.sqStatus (s : State) (n : Nat) : Word :=
  let x := s.sq n
  pack [(0, x.head), (16, b2n (s.qEn n && s.running && !x.err)), (17, b2n x.err), (18, (s.hif.items.filter fun i => i.sq == n).length)]

/-- The HIF block. -/
def State.hifView (s : State) (off : Nat) : Word :=
  if off = 0x000 ∨ off = 0x004 then rwReset off
  else if off = 0x008 then s.hifStatus
  else if off = 0x01C then s.hif.err
  else if off = 0x020 then pack [(0, b2n s.hif.winPend.isSome)]
  else if off = 0x024 then loW s.hif.evqLost
  else if off = 0x028 then loW s.hif.trqLost
  else if off = 0x030 then s.hifBoot
  else if off = 0x034 then pack [(0, satU 16 s.sys.nPerst), (16, satU 16 s.sys.nWarm)]
  else if off = 0x064 then pack [(0, b2n s.hif.keyLocked)]
  else if off = 0x068 then loW s.hif.fseq.toNat
  else if 0x200 ≤ off ∧ off < 0x300 ∧ off % 16 = 12 then s.sqStatus (regNo off 0x200 16)
  else s.reg off

/-! ### ING (Tables 3-2 to 3-6) -/

/-- STATE of a stream (Table 3-6). -/
def StreamSt.code : StreamSt → Nat
  | .free => 0
  | .defined => 1
  | .joining => 2
  | .receiving => 3
  | .absent => 4
  | .releasing => 5

/-- A leg is admitted and up. -/
def legUp (l : Option Leg) : Bool := match l with
  | some l => l.up
  | none => false

/-- ING_Ss_STATE. -/
def State.streamState (s : State) (k : Nat) : Word :=
  let x := s.stream k
  pack [(0, x.st.code), (3, b2n x.frisket), (4, b2n (legUp x.red)), (5, b2n (legUp x.blue)), (6, b2n x.frozen), (7, b2n x.hasFrame), (8, satU 8 x.run)]

/-- ING_Pp_STATUS. -/
def State.portStatus (s : State) (p : Nat) : Word :=
  let x := s.port p
  pack [(0, b2n x.link), (1, b2n (s.portActive p)), (2, b2n x.v4Conf), (3, b2n x.v6Conf), (4, b2n x.tentative), (5, b2n x.oldQuerier),
        (8, (s.legs.filter fun e => e.2.2.port == p).length)]

/-- The ING block. -/
def State.ingView (s : State) (off : Nat) : Word :=
  if off = 0x1000 then
    pack (((List.range 16).map fun q => (q, b2n (s.quadEth q))) ++ [(16, (s.ing.streams.filter fun e => decide (e.2.st ≠ .free)).length)])
  else if 0x1100 ≤ off ∧ off < 0x1500 then
    let x := s.stream (regNo off 0x1100 16)
    if off % 16 = 0 then s.streamState (regNo off 0x1100 16)
    else if off % 16 = 4 then loW (satU 24 x.pdiff)
    else if off % 16 = 8 then x.sig
    else pack [(0, x.nComplete % 65536), (16, x.nIncomplete % 65536)]
  else if 0x1800 ≤ off ∧ off % 64 = 4 then s.portStatus (regNo off 0x1804 64)
  else s.reg off

/-! ### CMP (Tables 4-10 to 4-12, R555) -/

/-- STATE of a layer (Table 4-12). -/
def LayerSt.code : LayerSt → Nat
  | .free => 0
  | .defined => 1
  | .placed => 2
  | .removing => 3

/-- A region is defined. -/
def Layer.isDef (l : Layer) : Bool := decide (l.st = .defined) || decide (l.st = .placed)

/-- CMP_STATUS. -/
def State.cmpStatus (s : State) : Word :=
  let rs := s.cmp.layers.filter fun e => decide (64 ≤ e.1)
  let live (e : Nat × Layer) : Bool := decide (e.2.st ≠ .free)
  pack [(0, s.shown0 s.engines.length), (5, b2n s.thp.throttle), (6, b2n s.friskDefined), (7, b2n s.cmp.soffRefused),
        (8, (s.cmp.layers.filter fun e => decide (e.1 < 63) && live e).length + b2n (rs.any live)),
        (16, sumN ((rs.filter fun e => e.2.isDef).map fun e => 2 ^ (e.1 - 64)))]

/-- The flags SURFACE to HELD that a test finds on a layer. -/
def layerFlags (p : (Layer → Bool) → Bool) : List (Nat × Nat) :=
  [(2, b2n (p (·.surface))), (3, b2n (p (·.overAge))), (4, b2n (p (·.frozen))), (5, b2n (p (·.shed))), (6, b2n (p (·.held)))]

/-- CMP_Ll_STATE; layer 63 stands for every region (R555). -/
def State.layerState (s : State) (l : Nat) : Word :=
  if l < 63 then
    let x := s.layer l
    pack ((0, x.st.code) :: layerFlags (fun f => f x) ++ [(8, x.cls), (10, x.z)])
  else
    let rs := (s.cmp.layers.filter fun e => decide (64 ≤ e.1)).map (·.2)
    let is (t : LayerSt) : Bool := rs.any fun x => decide (x.st = t)
    let st := if is .placed then 2 else if is .defined then 1 else if is .removing then 3 else 0
    pack ((0, st) :: layerFlags (fun f => rs.any f) ++ [(10, s.shown0 63)])

/-- CMP_ENGe_STATE and SLG_ENCe_STATE: unit state and work of the last window. -/
def State.unitState (s : State) (k : Nat) : Word := pack [(0, (s.unit k).st.code), (16, (s.unit k).last % 65536)]

/-- The CMP block. -/
def State.cmpView (s : State) (off : Nat) : Word :=
  if off = 0x2000 then s.cmpStatus
  else if off = 0x2018 then loW (s.cmp.cap / 1024)
  else if off = 0x201C then loW (s.cmp.used / 1024)
  else if off = 0x2020 then loW s.cmp.friskAge
  else if off = 0x2024 then pack [(0, s.cmp.invA.toNat), (16, s.cmp.invB.toNat)]
  else if off = 0x2028 then loW s.cmp.hold
  else if off = 0x202C then loW s.cmp.gen
  else if 0x2040 ≤ off ∧ off < 0x2088 then s.unitState (regNo off 0x2040 4)
  else if 0x2400 ≤ off ∧ off < 0x2500 then s.layerState (regNo off 0x2400 4)
  else s.reg off

/-! ### LMP (Tables 5-8 to 5-10) -/

/-- Enabled leaves on the default correction (R176). -/
def State.defaultLeaves (s : State) : List Nat := s.imp.setup.enabled.filter fun k => !(s.leaf k).tableNow

/-- A leaf's table is LOST. -/
def Leaf.lost (l : Leaf) : Bool := match l.table with
  | some t => t.lost
  | none => false

/-- LMP_STATUS. -/
def State.lmpStatus (s : State) : Word :=
  let any (p : Leaf → Bool) : Nat := b2n (s.leaves.any fun e => p e.2)
  pack [(0, b2n (decide (s.defaultLeaves ≠ []))), (1, any Leaf.lost), (2, b2n (decide (s.lmp.stalls ≠ 0))), (3, any fun l => decide (0 < l.dTh + l.dPw)),
        (4, any fun l => decide (l.dTh = 8192) || decide (l.dPw = 8192)), (5, any fun l => l.trim.any fun t => decide (t.natAbs = 256)),
        (6, b2n s.lmp.captured), (8, s.shown0 ((List.range 9).filter fun e => decide ((s.unit (32 + e)).st = .inService) || decide ((s.unit (32 + e)).st = .degraded)).length)]

/-- LMP_KRESc. -/
def State.kres (s : State) (c : Nat) : Word :=
  let ks := s.kappas c
  pack [(0, satU 16 (maxD 0 (ks.map fun k => (k - nthD 0 s.lmp.kappa c).natAbs))), (16, ks.length % 32)]

/-- The LMP block. -/
def State.lmpView (s : State) (off : Nat) : Word :=
  if off = 0x3000 then s.lmpStatus
  else if off = 0x3008 then loW s.lmp.dim
  else if off = 0x3020 then pack [(0, s.lmp.cache.length), (10, b2n s.lmp.pinned), (16, satU 16 s.lmp.stalls)]
  else if off = 0x3024 then pack [(0, s.tableLeaves.length), (16, s.defaultLeaves.length)]
  else if 0x3040 ≤ off ∧ off < 0x3050 then
    let c := regNo off 0x3040 4
    loW (uns 32 (nthD 0 s.lmp.kappa c - nthD 0 s.lmp.kappa0 c))
  else if 0x3050 ≤ off ∧ off < 0x3060 then s.kres (regNo off 0x3050 4)
  else if 0x3084 ≤ off ∧ off < 0x30A8 then tget (rwReset off) s.lmp.latched off
  else s.reg off

/-! ### IMP (Tables 6-8 to 6-11) -/

/-- IMP_STATUS. -/
def State.impStatus (s : State) : Word :=
  pack [(0, b2n s.imp.checking), (1, b2n s.imp.pend), (2, b2n s.imp.live), (3, b2n s.imp.liveRefused), (4, s.imp.setup.enabled.length)]

/-- IMP_LEAF_STATUS of the leaf selected. -/
def State.impLeafStatus (s : State) : Word :=
  let k := s.impSel
  let g := s.geom k
  let l := s.leaf k
  pack [(0, b2n g.en), (1, if g.en then g.slugs else 0), (14, b2n (g.en && decide (s.friskSlugs s.mask k ≠ []))), (15, b2n l.mismatch), (16, b2n l.fproofBad), (17, b2n l.rangeBad)]

/-- The IMP block; IMP_LEAF_ registers show the shadow copy (R211). -/
def State.impView (s : State) (off : Nat) : Word :=
  let g : Geom := tget {} s.imp.shadow s.impSel
  if off = 0x4000 then s.impStatus
  else if off = 0x400C then s.imp.result
  else if off = 0x4010 then loW s.imp.counter
  else if off = 0x4028 then pack [(0, satU 16 s.imp.proofMissing), (16, satU 16 s.imp.proofBad)]
  else if off = 0x402C then pack [(0, s.imp.decoded % 65536), (16, satU 16 s.imp.decodeBad)]
  else if off = 0x4030 then pack [(0, s.imp.ageUsed), (8, b2n s.imp.merged)]
  else if off = 0x4084 then g.cfg
  else if off = 0x4088 then g.origin
  else if off = 0x408C then g.size
  else if off = 0x4090 then s.impLeafStatus
  else if 0x4100 ≤ off then tget 0 g.runs (4 * regNo off 0x4100 16 + (off - 0x4100) % 16 / 4)
  else s.reg off

/-! ### SLG (Tables 7-7, 7-8) -/

/-- The SLG block. -/
def State.slgView (s : State) (off : Nat) : Word :=
  if off = 0x5000 then
    pack [(0, s.shown0 ((List.range 9).filter fun e => decide ((s.unit (32 + e)).st = .inService) || decide ((s.unit (32 + e)).st = .degraded)).length),
          (4, s.slg.level), (8, b2n s.slg.poolEmpty), (9, b2n s.slg.overflow)]
  else if off = 0x500C then pack [(0, s.slg.poolFree), (16, s.slg.poolMin)]
  else if 0x5010 ≤ off ∧ off < 0x5024 then loW (nthD 0 s.slg.last (regNo off 0x5010 4))
  else if off = 0x5024 then loW (satU 32 s.slg.reenc)
  else if off = 0x5028 then loW s.slg.bits
  else if 0x5040 ≤ off ∧ off < 0x5064 then s.unitState (32 + regNo off 0x5040 4)
  else if 0x5080 ≤ off ∧ off < 0x50C0 then
    let r := s.ring (regNo off 0x5080 4)
    pack [(0, r.pages), (16, satU 16 r.overMax)]
  else s.reg off

/-! ### LNQ (Tables 8-5 to 8-9) -/

/-- LINK of a lane (Table 8-9). -/
def Link.code : Link → Nat
  | .off => 0
  | .acquire => 1
  | .up => 2
  | .realign => 3
  | .idle => 4
  | .down => 5

/-- A lane's near-end loop is in force: LOOP selects one and its transmitter is started (Table 8-3). -/
def State.nearLoop (s : State) (i : Nat) : Bool := (s.loop i == 1 || s.loop i == 2) && decide ((s.lane i).link ≠ .off)

/-- LNQ_Li_STATUS. -/
def State.laneStatus (s : State) (i : Nat) : Word :=
  let x := s.lane i
  pack [(0, x.unit.code), (2, x.link.code), (5, b2n x.eqLimit), (6, b2n x.loopRefused), (7, b2n (x.loopActive || s.nearLoop i)), (8, x.func),
        (12, if x.isEnd then x.quire else 0), (16, if i % 5 = 4 then x.for_ else 0), (18, b2n x.subst), (20, satU 4 (transients s.clk x))]

/-- LNQ_Li_FOM: the newest mean and the lowest of the last second (Table 8-5). -/
def State.laneFom (s : State) (i : Nat) : Word :=
  let x := s.lane i
  let ms := (x.foms.filter fun e => decide (s.clk < e.1 + secU)).map (·.2)
  pack [(0, uns 12 x.fom), (16, uns 12 (ms.foldl min x.fom))]

/-- t lies in the last whole second before now, seconds counted from module reset (R294; log entry 100). -/
def inLastSecond (now t : Nat) : Bool := decide (t / secU + 1 = now / secU)

/-- LNQ_Li_FEC: codewords corrected and not correctable in the last whole second. -/
def State.laneFec (s : State) (i : Nat) : Word :=
  let x := s.lane i
  pack [(0, satU 16 (sumN ((x.corrAt.filter fun e => inLastSecond s.clk e.1).map (·.2)))), (16, satU 16 (x.uncAt.filter (inLastSecond s.clk)).length)]

/-- A counter of Table 16-1 at its index: the time a transmitter is now idle counts as well (R513). -/
def State.counter (s : State) (n : Nat) : Nat :=
  let c := (tget 0 s.obs.cnt n).toNat
  if 0x500 ≤ n ∧ n < 0x780 ∧ n % 8 = 5 then
    match (s.lane ((n - 0x500) / 8)).txIdle with
    | some t => (c + (s.clk - t) / usU) % 2 ^ 64
    | none => c
  else c

/-- The LNQ block. -/
def State.lnqView (s : State) (off : Nat) : Word :=
  let sel := s.regBits 0x60C0 0 7
  let e := s.lane sel
  if off = 0x6000 then
    pack ((0, ((List.range 80).filter fun i => let x := s.lane i
        (decide (x.unit = .inService) || decide (x.unit = .degraded)) && decide (x.func ≠ 0)).length) ::
      (List.range 16).map fun q => (16 + q, b2n (s.regBit (0x6080 + 4 * q) 16)))
  else if off = 0x60C4 then (if sel < 80 then e.eqTx0 else 0)
  else if off = 0x60C8 then (if sel < 80 then e.eqTx1 else 0)
  else if off = 0x60CC then (if sel < 80 then e.eqRx ||| pack [(30, b2n e.eqErr), (31, b2n e.eqValid)] else 0)
  else if 0x6400 ≤ off ∧ off < 0x6E00 then
    let i := regNo off 0x6400 32
    if off % 32 = 4 then s.laneStatus i
    else if off % 32 = 8 then s.laneFom i
    else if off % 32 = 12 then s.laneFec i
    else if off % 32 = 16 then loW (satU 32 (s.lane i).terr)
    else s.reg off
  else s.reg off

/-! ### QPR (Tables 9-19 to 9-21, 10-6, 10-7) -/

/-- STATE of a quire (Table 9-20). -/
def QSt.code : QSt → Nat
  | .off => 0
  | .wait => 1
  | .adopting => 2
  | .running => 3
  | .badCount => 4

/-- The state of a direction (Table 10-7). -/
def Clos.code : Clos → Nat
  | .closed => 0
  | .open_ => 1
  | .healing => 2

/-- Leaves of a quire for which a test holds, over its positions. -/
def State.leavesIn (s : State) (q : Nat) (p : Leaf → Bool) : Nat := ((List.range (s.nLeaves q)).filter fun i => p (s.leaf (64 * q + i))).length

/-- Instants of the last second (Tables 9-19 and 10-6). -/
def State.lastSecond (s : State) (l : List Nat) : Nat := (l.filter fun t => decide (s.clk < t + secU)).length

/-- The session tag a quire shows: 0 when it has none. -/
def Quire.tagNow (x : Quire) : Nat := if x.st = .off ∨ x.st = .wait then 0 else x.tag.toNat

/-- QPR_Qq_REDUND. -/
def State.redund (s : State) (q : Nat) : Word :=
  let x := s.quire q
  let stop (d : Dir) : Nat := match d.stop with
    | none => 0xFF
    | some t => uns 8 t
  pack [(0, x.dirA.st.code), (2, x.dirB.st.code), (4, b2n (s.singleEnded q)), (5, b2n x.standby), (6, b2n x.replanning), (8, stop x.dirA), (16, stop x.dirB)]

/-- The registers of a quire from QPR_Qq_CFG on, by their place. -/
def State.quireView (s : State) (q j off : Nat) : Word :=
  let x := s.quire q
  if j = 1 then pack [(0, x.st.code), (4, s.leavesIn q (·.enrolled)), (11, s.leavesIn q Leaf.inUse), (18, s.leavesIn q (·.foreign))]
  else if j = 2 then loW x.tagNow
  else if j = 4 then pack [(0, satU 16 x.failed), (16, satU 16 x.failedImps)]
  else if j = 5 then pack [(0, satU 16 (s.lastSecond x.insOk)), (16, satU 16 (s.lastSecond x.insBad))]
  else if j = 6 then pack [(0, satU 16 (s.lastSecond x.dirA.badAt)), (16, satU 16 (s.lastSecond x.dirB.badAt))]
  else if j = 7 then (if x.st = .off then 0 else pack [(0, satU 16 (s.ringDelay q 0)), (16, satU 16 (s.ringDelay q 1))])
  else s.reg off

/-- QPR_Qq_FEED: FIRST is 0xFF for an empty run. -/
def State.feedRuns (s : State) (q : Nat) : Word :=
  let a := s.runOf q 1
  let b := s.runOf q 2
  pack [(0, a.1), (8, a.2), (16, b.1), (24, b.2)]

/-- The QPR_LEAF_ registers of the leaf selected, by their place from QPR_LEAF_STATE on. -/
def State.qprLeaf (s : State) (j : Nat) : Word :=
  let k := s.regBits 0x7080 0 10
  let l := s.leaf k
  let x := s.quire (k / 64)
  let here := decide (k % 64 < s.nLeaves (k / 64))
  if j = 0 then
    pack [(0, l.unit.code), (2, b2n l.enrolled), (3, b2n l.foreign), (4, b2n l.adm.isSome), (5, b2n l.lostEp), (6, b2n l.lateEp), (8, min 8 l.outCmds)]
  else if j = 1 then pack [(0, l.maker.toNat), (16, l.model.toNat)]
  else if j = 2 then loW l.serial.toNat
  else if j = 4 then pack [(0, l.lamps % 2 ^ 22), (22, (l.nLamp - 1) % 4), (24, l.proto % 256)]
  else if j = 5 then l.weights
  else if j = 6 then pack [(0, l.budget % 2 ^ 24), (24, l.driveBits % 256)]
  else if j = 7 then pack [(0, l.hopA), (8, l.hopB)]
  else if j = 8 then loW l.answered
  else if j = 9 then pack [(0, satU 16 l.rejected), (16, satU 16 l.checkwords)]
  else pack [(0, if l.inUse then l.feed else 0), (2, b2n (here && x.reach 0 (k % 64))), (3, b2n (here && x.reach 1 (k % 64))), (4, b2n l.breakU), (5, b2n l.breakD)]

/-- The QPR block. -/
def State.qprView (s : State) (off : Nat) : Word :=
  if off = 0x7000 then pack ((List.range 16).map fun q => (q, b2n (decide ((s.quire q).st = .running))))
  else if 0x7100 ≤ off ∧ off < 0x7300 then s.quireView (regNo off 0x7100 32) (off % 32 / 4) off
  else if 0x7300 ≤ off ∧ off < 0x7400 then
    let q := regNo off 0x7300 16
    if off % 16 = 0 then s.feedRuns q
    else if off % 16 = 4 then (s.quire q).epoch
    else if off % 16 = 8 then s.redund q
    else pack [(0, satU 16 (s.quire q).replans), (16, satU 16 (s.quire q).replanTime)]
  else if 0x7400 ≤ off then s.qprLeaf (regNo off 0x7400 4)
  else s.reg off

/-! ### TIM and REF (Tables 11-6 to 11-8) -/

/-- TIM_STATUS. -/
def State.timStatus (s : State) : Word :=
  pack [(0, s.tim.servo.code), (3, b2n s.tim.valid), (4, b2n s.tim.slewing), (5, b2n s.tim.genRun), (6, b2n s.tim.pPend.isSome), (7, b2n s.tim.pRefused),
        (8, b2n s.tim.setIgnored), (10, match s.tim.sel with | some x => x.port % 32 | none => 0), (15, b2n s.tim.sel.isSome)]

/-- TIM_POUTo_STATUS. -/
def State.poutStatus (s : State) (o : Nat) : Word :=
  let x := s.pout o
  pack [(0, b2n x.armed), (1, b2n x.past), (2, b2n x.fired), (3, b2n (x.mode != 0 && s.poutShadow o))]

/-- The TIM block. -/
def State.timView (s : State) (off : Nat) : Word :=
  let p := s.tim.pUse.getD (0, 0, 0)
  if off = 0x8000 then s.timStatus
  else if off = 0x8010 then loW s.tim.snapS.toNat
  else if off = 0x8014 then hiW s.tim.snapS.toNat
  else if off = 0x8018 then s.tim.snapNs
  else if off = 0x801C then s.tim.snapFrac
  else if off = 0x8030 then loW (uns 32 (satS 32 s.tim.offset))
  else if off = 0x8034 then loW (uns 32 s.tim.rate)
  else if off = 0x8038 then loW (satU 32 (s.tim.pathShown / nsU))
  else if off = 0x803C then loW s.tim.gm.toNat
  else if off = 0x8044 then pack [(0, uns 16 s.tim.utc), (16, b2n s.tim.utcValid)]
  else if off = 0x8060 then loW p.1
  else if off = 0x8064 then loW p.2.1
  else if 0x8300 ≤ off ∧ off < 0x8380 ∧ off % 32 = 20 then s.poutStatus (regNo off 0x8300 32)
  else if 0x8400 ≤ off then
    let x := s.quire (regNo off 0x8400 8)
    let d := if off % 8 = 0 then x.dirA else x.dirB
    pack [(0, satU 16 d.ring), (16, uns 16 d.ringDiff)]
  else s.reg off

/-- Seconds until a candidate becomes eligible, rounded up (R405). -/
def State.candWait (s : State) (x : Cand) : Nat := match x.validSince with
  | some t => if x.eligible then 0 else ceilDiv (t + x.wait - s.clk) secU
  | none => 0

/-- REF_Cc_STATUS. -/
def State.candStatus (s : State) (c : Nat) : Word :=
  let x := s.cand c
  pack [(0, if x.qlFailed then 15 else x.ql), (4, b2n x.signal), (5, b2n x.inRange), (6, b2n x.qlTimeout), (7, b2n x.eligible), (8, min 300 (s.candWait x)), (17, if 8 ≤ c then x.fin else 0)]

/-- The REF block. -/
def State.refView (s : State) (off : Nat) : Word :=
  if off = 0x9000 then pack [(0, s.refs.sel), (4, b2n s.refs.freerun), (5, b2n s.refs.buildout), (6, b2n s.refs.locked)]
  else if off = 0x9004 then pack [(0, uns 16 s.refs.tcxoComp), (16, uns 16 s.refs.tcxoTemp)]
  else if off = 0x9008 then pack [(0, satU 16 (s.lastSecond s.refs.qlErr0)), (16, satU 16 (s.lastSecond s.refs.qlErr1))]
  else if off < 0x9080 then s.candStatus (regNo off 0x9040 4)
  else loW (uns 32 (satS 32 (s.cand (regNo off 0x9080 4)).freq))

/-! ### MEM (Tables 12-3 to 12-5) -/

/-- Extents that DEGRADED pseudo-channels still hold (R435). -/
def State.toMove (s : State) : Nat := sumN (((List.range 64).filter fun p => decide ((s.pc p).unit = .degraded)).map fun p => heldIn s.mem.allocs p)

/-- MEM_STATUS. -/
def State.memStatus (s : State) : Word :=
  let thr := match s.mem.throttleAt with
    | some t => decide (s.clk < t + secU)
    | none => false
  pack [(0, b2n s.mem.trained), (1, b2n s.mem.tempHold), (2, b2n s.mem.quiet), (3, b2n (decide (0 < s.toMove))), (4, b2n thr), (5, b2n (s.mem.hot.any id)), (6, s.shown0 s.pcsUsed.length)]

/-- Repairs over all pseudo-channels, hard or soft. -/
def State.repairCount (s : State) (hard : Bool) : Nat := sumN ((List.range 64).map fun p => ((s.pc p).repairs.filter fun e => e.2.2 == hard).length)

/-- The eye widths of byte lanes 0 to 3 in one word. -/
def eyeWord (l : List Nat) : Word := pack ((List.range 4).map fun k => (8 * k, satU 8 (nthD 0 l k)))

/-- The MEM block. -/
def State.memView (s : State) (off : Nat) : Word :=
  let p := s.regBits 0xA080 0 6
  let x := s.pc p
  if off = 0xA000 then s.memStatus
  else if off = 0xA014 then pack [(0, s.shown0 (384 * s.pcsIn.length)), (16, s.shown0 (sumN s.freeExt))]
  else if off = 0xA018 then loW (satU 16 s.toMove)
  else if off = 0xA020 then loW s.mem.ceCnt
  else if off = 0xA024 then loW s.mem.ueCnt
  else if off = 0xA028 then loW s.mem.err.toNat
  else if off = 0xA030 then pack [(0, satU 16 (s.repairCount false)), (16, satU 16 (s.repairCount true))]
  else if off = 0xA084 then
    pack [(0, x.unit.code), (2, b2n x.trainFail), (3, b2n x.lowMargin), (4, s.shown0 (64 - sumN ((List.range 32).map x.used))), (11, heldIn s.mem.allocs p)]
  else if off = 0xA088 then eyeWord x.eyeRd
  else if off = 0xA08C then eyeWord x.eyeWr
  else if off = 0xA090 then pack [(0, satU 8 (nthD 0 x.eyeRd 4)), (8, satU 8 (nthD 0 x.eyeWr 4))]
  else if off = 0xA094 then pack [(0, satU 16 x.ce), (16, satU 16 x.ue)]
  else s.reg off

/-! ### FLT and THP (Tables 13-12 to 13-15) -/

/-- ALIVE_CAUSE: the highest reason that holds (Table 13-13). -/
def State.aliveCause (s : State) : Nat :=
  if s.flt.alive || !s.started then 0 else if !s.sys.supRun || decide (s.sys.stage < 3) then 3 else if s.flt.wdog then 2 else if s.critOut then 1 else 0

/-- FLT_STATUS. -/
def State.fltStatus (s : State) : Word :=
  pack [(0, b2n s.critOut), (1, b2n s.flt.alive), (2, s.aliveCause), (4, b2n (s.flt.entries.any fun e => decide (1024 ≤ e.1))), (16, s.flt.entries.length)]

/-- The outstanding CRITICAL occurrences: SEQ, source, instance. -/
def State.crits (s : State) : List (Word × Src × Nat) :=
  (s.flt.entries.map fun e => (e.2.occs.filter fun o => o.level == 3).map fun o => (o.seq, e.2.src, e.2.inst)).flatten

/-- FLT_CRIT: the oldest of them, in the order of SEQ (R446). -/
def State.fltCrit (s : State) : Word :=
  match (sortBy (fun (a b : Word × Src × Nat) => serLe a.1 b.1) s.crits).head? with
  | some e => pack [(0, e.2.1.info.1), (16, e.2.2)]
  | none => 0

/-- FLT_SRC of the source selected. -/
def State.fltSrc (s : State) : Word :=
  match srcOf (s.regBits 0xB010 0 16) with
  | none => 0
  | some x =>
    pack [(0, s.severity x), (2, b2n x.fixed), (4, x.info.2), (8, satU 8 (s.flt.entries.filter fun e => decide (e.2.src = x)).length),
          (16, satU 16 (tget 0 s.flt.raises x.info.1))]

/-- FLT_OUT and FLT_OUT_INST of the entry selected; an empty entry reads 0. -/
def State.fltOut (s : State) (second : Bool) : Word :=
  let e := tget noEntry s.flt.entries (s.regBits 0xB020 0 11)
  if e.occs = [] then 0
  else if second then
    pack [(0, maxD 0 (e.occs.map (·.level))), (2, b2n (decide (unacked e ≠ []))), (3, b2n (e.occs.any fun o => decide (0 < o.open_))), (16, satU 16 (unacked e).length)]
  else pack [(0, e.src.info.1), (16, e.inst)]

/-- The FLT block. -/
def State.fltView (s : State) (off : Nat) : Word :=
  if off = 0xB000 then s.fltStatus
  else if off = 0xB004 then s.flt.seq
  else if off = 0xB008 then s.fltCrit
  else if off = 0xB00C then pack [(0, satU 16 s.flt.supResets), (16, satU 16 s.flt.wdogs)]
  else if off = 0xB014 then s.fltSrc
  else if off = 0xB024 then s.fltOut false
  else if off = 0xB028 then s.fltOut true
  else s.reg off

/-- THP_STATUS. -/
def State.thpStatus (s : State) : Word :=
  pack [(0, b2n s.thp.warn), (1, b2n s.thp.throttle), (2, b2n s.thp.stopping), (3, b2n s.thp.stopped), (4, s.thp.cause), (6, b2n s.resumeOk),
        (7, b2n (s.started && !s.writesOk)), (8, b2n s.thp.low), (9, b2n (decide (7500 < s.thp.supV)))]

/-- THP_TEMP_DIE, _HBM and _PWR: the hottest valid sensor of a group. -/
def State.tempWord (s : State) (l : List Nat) : Word :=
  match hottest (l.filterMap fun k => (s.sensor k).map fun t => (k, t)) with
  | some e => pack [(0, uns 16 e.2), (16, e.1)]
  | none => 0

/-- SMB_ALERT_N is low (R548). -/
def State.smbAlert (s : State) : Bool := s.sys.strapErr || s.thp.warn || s.thp.throttle || s.thp.stopped || s.thp.low

/-- The LINEAR11 word of num / den: the finest exponent whose rounded mantissa fits 11 bits (PRESUMED; log entry 77). -/
def linear11 (num : Int) (den : Nat) : Word :=
  let y (e : Nat) : Int := (2 * (num * 65536) + Int.ofNat (den * 2 ^ e)) / Int.ofNat (2 * (den * 2 ^ e))
  match (List.range 32).find? fun e => decide (-1024 ≤ y e) && decide (y e ≤ 1023) with
  | some e => pack [(0, uns 11 (y e)), (11, uns 5 (Int.ofNat e - 16))]
  | none => 0

/-- STATUS_WORD: which conditions its two fields stand for is DEDUCED (log entry 77). -/
def State.smbStatus (s : State) : Word :=
  pack [(3, b2n (s.thp.warn || s.thp.throttle || s.thp.shut)), (11, b2n (!(s.thp.core && s.thp.serdes && s.thp.hbm && s.thp.aux))), (13, b2n (s.thp.low || s.thp.fail))]

/-- MFR_STATUS. -/
def State.smbMfr (s : State) : Word :=
  pack [(0, s.sys.stage), (3, b2n s.sys.strapErr), (4, b2n s.flt.alive), (5, b2n s.thp.stopped), (6, b2n s.thp.throttle), (7, b2n s.thp.warn), (8, b2n s.thp.low), (9, b2n s.hif.ready)]

/-- READ_TEMPERATURE: the hottest valid sensor of a group, as the THP register shows it. -/
def State.smbTemp (s : State) (l : List Nat) : Word := linear11 (sgn 16 (bits (s.tempWord l) 0 16)) 16

/-- The two bytes of a word read, and those of a block read after its length. -/
def smbWord (w : Word) : List Byte := [BitVec.ofNat 8 (bits w 0 8), BitVec.ofNat 8 (bits w 8 8)]
def smbBlock (l : List Nat) : List Byte := BitVec.ofNat 8 l.length :: l.map (BitVec.ofNat 8)

/-- What an SMBus read of a command returns, none where the module does not acknowledge it (R547, Table 18-10); no row of the table reads it (log entry 77). -/
def State.smbRead (s : State) (cmd : Nat) : Option (List Byte) :=
  if s.sys.stage = 0 then none
  else if cmd = 0x79 then some (smbWord s.smbStatus)
  else if cmd = 0x88 then some (smbWord (linear11 (Int.ofNat s.thp.supV) 100))
  else if cmd = 0x89 then some (smbWord (linear11 (Int.ofNat s.thp.supI) 1000))
  else if cmd = 0x8D then some (smbWord (s.smbTemp dieSensors))
  else if cmd = 0x8E then some (smbWord (s.smbTemp (hbmSensors 0 ++ hbmSensors 1)))
  else if cmd = 0x8F then some (smbWord (s.smbTemp pwrSensors))
  else if cmd = 0x97 then some (smbWord (linear11 (Int.ofNat s.thp.supP) 10))
  else if cmd = 0x99 then some (smbBlock [0x49, 0x47, 0x59, 0x45, 0x52, 0x49])
  else if cmd = 0x9A then some (smbBlock [0x4B, 0x36, 0x34, 0x38, 0x41])
  else if cmd = 0x9B then some (smbBlock [0x42, 0x31])
  else if cmd = 0xD0 then some (smbWord s.smbMfr)
  else none

/-- The mean of a sensor's last samples, 0 before the first (R458). -/
def meanOf (l : List Int) : Int := if l = [] then 0 else l.foldl (· + ·) 0 / Int.ofNat l.length

/-- The THP block. -/
def State.thpView (s : State) (off : Nat) : Word :=
  let k := s.regBits 0xC014 0 5
  let recent := s.thp.hist.filter fun e => decide (s.clk < e.1 + secU)
  if off = 0xC000 then s.thpStatus
  else if off = 0xC008 then s.tempWord dieSensors
  else if off = 0xC00C then s.tempWord (hbmSensors 0 ++ hbmSensors 1)
  else if off = 0xC010 then s.tempWord pwrSensors
  else if off = 0xC018 then pack [(0, uns 16 (meanOf (tget [] s.thp.samples k))), (16, b2n (decide (k ∈ s.thp.failed)))]
  else if off = 0xC020 then pack [(0, satU 16 s.thp.supV), (16, satU 16 ((recent.map (·.2.1)).foldl min s.thp.supV))]
  else if off = 0xC024 then loW (satU 16 s.thp.supI)
  else if off = 0xC028 then pack [(0, satU 16 s.thp.supP), (16, satU 16 (maxD s.thp.supP (recent.map (·.2.2))))]
  else if off = 0xC02C then pack [(0, b2n s.thp.core), (1, b2n s.thp.serdes), (2, b2n s.thp.hbm), (3, b2n s.thp.aux)]
  else if off = 0xC030 then
    pack [(0, satU 16 s.thp.episodes), (16, satU 16 ((s.thp.thrTime + (if s.thp.throttle then s.clk - s.thp.thrAt else 0)) / secU))]
  else s.reg off

/-! ### CAL, UPD and OBS (Tables 14-6, 14-7, 15-9 to 15-11, 16-4) -/

/-- CAL_STATUS. -/
def State.calStatus (s : State) : Word :=
  pack [(0, b2n s.cal.lanesDone), (1, b2n s.cal.running), (2, b2n s.cal.refFail), (3, b2n s.cal.present), (4, s.cal.trace),
        (6, s.shown0 ((List.range 18).filter fun e => decide ((s.unit e).st = .spare)).length), (11, s.shown0 (b2n (decide ((s.unit 40).st = .spare))))]

/-- CAL_LANE_ERR of a lane. -/
def Lane.errWord (x : Lane) : Word := pack [(0, satU 8 x.worstE), (8, satU 8 x.bestE), (16, b2n x.short), (24, satU 8 x.swaps)]

/-- The CAL block. -/
def State.calView (s : State) (off : Nat) : Word :=
  let i := s.regBits 0xD040 0 7
  let x := s.lane i
  let p := s.pc (s.regBits 0xD060 0 6)
  let k := s.regBits 0xD080 0 5
  let n := s.regBits 0xD0C0 0 6
  let u := s.unit n
  if off = 0xD000 then s.calStatus
  else if off = 0xD00C then loW s.cal.trim.toNat
  else if off = 0xD010 then loW (uns 16 s.cal.resid)
  else if off = 0xD014 then loW s.cal.refTime.toNat
  else if off = 0xD020 then loW Config.calId.toNat
  else if off = 0xD044 then (if i < 80 then loW x.slices else 0)
  else if off = 0xD048 then (if i < 80 then loW (x.slices / 2 ^ 32 % 16) else 0)
  else if off = 0xD04C then (if i < 80 then x.errWord else 0)
  else if off = 0xD064 then pack [(0, satU 8 p.taps.1), (8, satU 8 p.taps.2.1), (16, satU 12 p.taps.2.2)]
  else if off = 0xD084 then (if k < 20 then pack [(0, (s.sensCal k).1 % 16), (16, uns 16 (s.sensCal k).2)] else 0)
  else if off = 0xD0C4 then (if unitOk n then (if s.started then pack [(0, u.st.code), (2, b2n u.fail), (8, u.gen % 256), (16, u.placeOf % 64)] else 0) else 0)
  else if off = 0xD0D0 then pack [(0, b2n s.cal.pend), (1, b2n s.cal.lost), (16, satU 16 s.cal.writes)]
  else if off = 0xD0D4 then pack [(0, satU 16 s.cal.sramSpared), (16, satU 16 s.cal.sramUsedUp)]
  else if off = 0xD0D8 then loW (satU 32 s.cal.retries)
  else s.reg off

/-- STATE of UPD_STATUS. -/
def UpdSt.code : UpdSt → Nat
  | .idle => 0
  | .receiving => 1
  | .verified => 2
  | .writing => 3
  | .armed => 4

/-- The state of a bank as UPD_OTHER shows it. -/
def BankSt.code : BankSt → Nat
  | .empty => 0
  | .written => 1
  | .trial => 2
  | .tried => 3
  | .confirmed => 4

/-- UPD_STATUS. -/
def State.updStatus (s : State) : Word :=
  pack [(0, s.upd.st.code), (3, b2n s.upd.runB), (4, b2n s.upd.trialRun), (5, b2n s.upd.owner.isSome), (6, b2n s.upd.lock), (7, b2n s.upd.ownerErr),
        (8, b2n s.upd.fallback), (9, s.upd.reason)]

/-- UPD_CONFIRM, for a running trial. -/
def State.updConfirm (s : State) : Word :=
  if s.upd.trialRun then
    pack [(0, satU 8 (ceilDiv (s.upd.supStart + 120 * secU - s.clk) secU)), (8, b2n s.confLink), (9, b2n s.mem.trained), (10, b2n s.confQuires), (11, b2n s.upd.goodImp)]
  else 0

/-- A word of a 48-byte hash, byte 0 of the hash in bits 7 to 0 of word 0 (R500). -/
def hashWord (h : BitVec 384) (k : Nat) : Word := loW (leNat (slice (beBytes 48 h.toNat) (4 * k) 4))

/-- The UPD block. -/
def State.updView (s : State) (off : Nat) : Word :=
  if off = 0xE000 then s.updStatus
  else if off = 0xE004 then s.upd.running.version
  else if off = 0xE008 then loW s.upd.running.gen
  else if off = 0xE00C then loW s.upd.other.st.code
  else if off = 0xE010 then (if s.upd.other.st = .empty then 0 else s.upd.other.version)
  else if off = 0xE014 then (match s.upd.staged with | some g => pack [(0, g.count), (16, ceilDiv g.total 4096)] | none => 0)
  else if off = 0xE018 then (match s.upd.staged with | some g => (if g.verified then g.version else 0) | none => 0)
  else if off = 0xE01C then loW s.upd.verr
  else if off = 0xE020 then pack [(0, s.upd.floor % 64), (8, s.upd.running.svn % 64)]
  else if off = 0xE024 then s.updConfirm
  else if off = 0xE030 then hashWord Config.vendorKeyHash 0
  else if 0xE040 ≤ off ∧ off < 0xE070 then (match s.upd.owner with | some h => hashWord h (regNo off 0xE040 4) | none => s.reg off)
  else if off = 0xE080 then pack [(0, b2n s.upd.entReady), (1, b2n s.upd.hardFail), (2, s.upd.lastTest), (4, satU 4 s.upd.restarts)]
  else if off = 0xE084 then pack [(0, satU 16 s.upd.rctCnt), (16, satU 16 s.upd.aptCnt)]
  else s.reg off

/-- The OBS block. -/
def State.obsView (s : State) (off : Nat) : Word :=
  if off = 0xF000 then pack [(0, b2n (s.qEn 33 && s.hif.linkUp)), (16, s.obs.store.length)]
  else if off = 0xF014 then loW (s.counter (s.regBits 0xF010 0 11))
  else s.reg off

/-! ### The register map -/

/-- What a register shows, but for partners of a ROL register. -/
def State.view (s : State) (off : Nat) : Word :=
  if off < 0x1000 then s.hifView off
  else if off < 0x2000 then s.ingView off
  else if off < 0x3000 then s.cmpView off
  else if off < 0x4000 then s.lmpView off
  else if off < 0x5000 then s.impView off
  else if off < 0x6000 then s.slgView off
  else if off < 0x7000 then s.lnqView off
  else if off < 0x8000 then s.qprView off
  else if off < 0x9000 then s.timView off
  else if off < 0xA000 then s.refView off
  else if off < 0xB000 then s.memView off
  else if off < 0xC000 then s.fltView off
  else if off < 0xD000 then s.thpView off
  else if off < 0xE000 then s.calView off
  else if off < 0xF000 then s.updView off
  else s.obsView off

/-- The partner parts a ROL register latches, by offset (R511). -/
def State.partners (s : State) (off : Nat) : List (Nat × Word) :=
  if off = 0x068 then [(0x06C, hiW s.hif.fseq.toNat)]
  else if off = 0x3090 then [(0x3094, tget (rwReset 0x3094) s.lmp.latched 0x3094)]
  else if off = 0x4010 then
    [(0x4014, hiW s.imp.counter), (0x4018, loW (s.imp.flip / 1000000000)), (0x401C, hiW (s.imp.flip / 1000000000)), (0x4020, loW (s.imp.flip % 1000000000))]
  else if off = 0x5028 then [(0x502C, hiW s.slg.bits)]
  else if 0x7100 ≤ off ∧ off < 0x7300 then [(off + 4, hiW (s.quire (regNo off 0x7100 32)).tagNow)]
  else if off = 0x7408 then [(0x740C, hiW (s.leaf (s.regBits 0x7080 0 10)).serial.toNat)]
  else if off = 0x803C then [(0x8040, hiW s.tim.gm.toNat)]
  else if off = 0xA028 then [(0xA02C, hiW s.mem.err.toNat)]
  else if off = 0xD014 then [(0xD018, hiW s.cal.refTime.toNat)]
  else if off = 0xD020 then [(0xD024, hiW Config.calId.toNat)]
  else if off = 0xF014 then [(0xF018, hiW (s.counter (s.regBits 0xF010 0 11)))]
  else []

/-- What a read of a register returns (Table 0-3, R46, R511); UPD_NONCE_LO is read through readNonce. -/
def State.readReg (s : State) (off : Nat) : Word :=
  match regAccess off with
  | none => 0
  | some .wo => 0
  | some .part => tget 0 s.shadows off
  | some _ => s.view off

end Sys2Proof.Machine
end

