-- ==== Sys2Proof/Machine/Staging.lean ====
section
/-! DEFINITION. A command's buffer read into staging (R55) and the second group of checks of R73. -/

namespace Sys2Proof.Machine

open Sys2Proof

/-- A command refused once its buffer has been read: a surface.write of a group takes its group with it (R147). -/
def State.refuseStaged (i : Item) (st : Status) (det : Nat) (s : State) : State :=
  (if i.opcode = 0x0104 ∧ grpNo i.desc ≠ 0 then s.refuseMember i st det else s.refuseWith i st det).resumeWrites

/-- A buffer kept with its item, which moves to a phase. -/
def State.keepBuf (i : Item) (buf : List Byte) (p : Phase) (s : State) : State :=
  let k (x : Item) : Item := { x with buf := buf, phase := p }
  s.modItem i.id k

/-- What each command does with its staged buffer. -/
def State.staged (i : Item) (buf : List Byte) (s : State) : State :=
  if i.opcode = 0x0104 then s.stagedSurface i buf
  else if i.opcode = 0x0301 then s.keepBuf i buf .working
  else if i.opcode = 0x0402 then s.keepBuf i buf .landing
  else if i.opcode = 0x0601 then (if ubKind i.desc = 0 then s.stagedBlock i buf else s.stagedToken i buf)
  else if i.opcode = 0x0703 then s.stagedRestore i buf
  else s

/-- The read of an item's buffer ends (R55, R73, R85): a read error refuses the command, on SQ15 its tag and sequence are checked, and then its chapter goes on. -/
def State.bufferRead (i : Item) (data : Option (List Byte)) (s : State) : State :=
  match data with
  | none => s.refuseStaged i .refusedBounds 1
  | some buf =>
    if i.sq = 15 ∧ dLen i.desc ≠ 0 then
      let u := s.authenticate i buf
      match u.1 with
      | some det => u.2.refuseStaged i .refusedAuth det
      | none => u.2.staged i buf
    else s.staged i buf

/-- Buffers of one queue are taken in the order of its descriptors (R57, R85). -/
def State.stagesNext (s : State) (i : Item) : Bool := s.hif.items.all fun j => !(j.sq == i.sq && decide (j.id < i.id) && decide (j.phase = .staging))

/-- BUFFER_STAGED: the event names an item whose buffer is being read, before no other of its queue, and gives as many bytes as its descriptor asks for, which no read does while the link is lost; another is no event of the module (log entry 2). -/
def execBufferStaged (dt item : Nat) (data : Option (List Byte)) (s : State) : Host.Outcome State Fault Refusal :=
  let s := s.elapse dt
  .next (match s.item? item with
    | none => s
    | some i =>
      let n := match data with
        | none => dLen i.desc
        | some b => b.length
      if i.phase = .staging ∧ s.stagesNext i ∧ n = dLen i.desc ∧ (data = none ∨ s.hif.linkUp) then s.bufferRead i data else s)

end Sys2Proof.Machine
end

