-- ==== Sys2Proof/Machine/Bar0.lean ====
section
/-! DEFINITION. Reads and writes of BAR0 (R7, R46, R511): what a write of each register does, and what a read returns and latches. -/

namespace Sys2Proof.Machine

open Sys2Proof

/-- The number of the queue whose registers hold an offset from 0x200 on (kind 14 of Table 13-3). -/
def queueAt (off : Nat) : Nat := if off < 0x300 then (off - 0x200) / 16 else 16 + (off - 0x300) / 16

/-- HIF: the doorbell page is fixed while ENABLE is set, a ring's base while its EN is (R49). -/
def State.writeHif (off : Nat) (v : Word) (s : State) : State :=
  if off = 0x00C then s.writeHifCtrl v
  else if off = 0x010 ∨ off = 0x014 then (if s.regBit 0x00C 0 then s else s.writeReg off v)
  else if off = 0x01C then { s with hif := { s.hif with err := s.hif.err &&& ~~~(v &&& rwMask off) } }
  else if off = 0x020 then s.writeWinCtrl v
  else if 0x040 ≤ off ∧ off ≤ 0x060 then s.writeFkey ((off - 0x040) / 4) v
  else if off = 0x064 then s.writeFkeyCtrl v
  else if 0x200 ≤ off then
    let k := queueAt off
    if off % 16 = 8 then s.writeQCtrl k v
    else if off % 16 < 8 ∧ s.qEn k then s
    else s.writeReg off v
  else s.writeReg off v

/-- ING: a port's addresses are fixed while its EN is set (R93). -/
def State.writeIng (off : Nat) (v : Word) (s : State) : State :=
  if 0x1020 ≤ off ∧ off < 0x1040 then s.writeMac ((off - 0x1020) / 4) v
  else if 0x1800 ≤ off then
    let p := (off - 0x1800) / 64
    if off % 64 = 0 then State.joinChanges s (s.writePort p v)
    else if s.regBit (portReg p) 0 then s
    else s.writeReg off v
  else s.writeReg off v

/-- CMP. -/
def State.writeCmp (off : Nat) (v : Word) (s : State) : State :=
  if off = 0x200C then s.writeSoffset v else if off = 0x2014 then s.writeTone v else s.writeReg off v

/-- LMP. -/
def State.writeLmp (off : Nat) (v : Word) (s : State) : State := if off = 0x3080 then s.selectLamp v else s.writeReg off v

/-- IMP. -/
def State.writeImp (off : Nat) (v : Word) (s : State) : State :=
  if off = 0x4004 then s.writeImpCtrl v
  else if off = 0x4008 then s.writeImpCommit v
  else if off = 0x4024 ∨ off = 0x4080 then s.writeReg off v
  else s.writeImpLeaf off v

/-- LNQ. -/
def State.writeLnq (off : Nat) (v : Word) (s : State) : State :=
  if 0x6040 ≤ off ∧ off < 0x6080 then s.writeQuad ((off - 0x6040) / 4) v
  else if 0x6080 ≤ off ∧ off < 0x60C0 then s.writeQuire ((off - 0x6080) / 4) v
  else if 0x60C4 ≤ off ∧ off ≤ 0x60CC then s.writeEq ((off - 0x60C4) / 4) v
  else if 0x6400 ≤ off then s.writeLane ((off - 0x6400) / 32) v
  else s.writeReg off v

/-- QPR: LEAVES is fixed unless the quire is OFF (R345). -/
def State.writeQpr (off : Nat) (v : Word) (s : State) : State :=
  if 0x7100 ≤ off ∧ (s.quire ((off - 0x7100) / 32)).st ≠ .off then s else s.writeReg off v

/-- TIM. -/
def State.writeTim (off : Nat) (v : Word) (s : State) : State :=
  if off = 0x800C then s.writeSnap v
  else if off = 0x8028 then s.writeSetNs v
  else if off = 0x805C then s.writePCommit v
  else if 0x8300 ≤ off ∧ off % 32 = 0 then s.writePout ((off - 0x8300) / 32) v
  else if 0x8300 ≤ off ∧ off % 32 = 16 then s.writeTarget ((off - 0x8300) / 32) v
  else if 0x8200 ≤ off then s.writeReg off v
  else (State.joinChanges s (s.writeReg off v)).judgeMasters

/-- FLT: a severity, except those fixed (R442, R468). -/
def State.writeFlt (off : Nat) (v : Word) (s : State) : State :=
  if off = 0xB014 then
    match srcOf (s.regBits 0xB010 0 16) with
    | none => s
    | some x => if x.fixed then s else { s with flt := { s.flt with sev := tput x.info.2 s.flt.sev x.info.1 (bits v 0 2) } }
  else s.writeReg off v

/-- What CALREF reads at a REF_RUN written as a plain register write: a free value (log entry 1). -/
def State.writeRefRun (v : Word) (s : State) : State :=
  let r := s.draw
  r.2.writeCalCmd v (Config.calrefVolts r.1)

/-- CAL. -/
def State.writeCal (off : Nat) (v : Word) (s : State) : State :=
  if off = 0xD004 then s.writeRefRun v
  else if off = 0xD00C then s.writeCalRef v
  else if off = 0xD044 then s.writeLaneUse 0 v
  else if off = 0xD048 then s.writeLaneUse 1 v
  else if off = 0xD084 then s.writeSensTrim v
  else if off = 0xD0C8 then s.writeUnitCtrl v
  else s.writeReg off v

/-- UPD: the hash registers hold what is to be enrolled, and nothing once a hash is (R500). -/
def State.writeUpd (off : Nat) (v : Word) (s : State) : State :=
  if off = 0xE070 then { s with upd := { s.upd with ownerCheck := v } }
  else if off = 0xE074 then s.writeOwnerCmd v
  else if s.upd.owner.isSome then s
  else s.writeReg off v

/-- Software may write a register with this access code. -/
def Access.writable : Access → Bool
  | .rw => true
  | .wo => true
  | .w1c => true
  | .rwl => true
  | _ => false

/-- A write of a register that takes one, by block (R8). -/
def State.writeBlock (off : Nat) (v : Word) (s : State) : State :=
  if off < 0x1000 then s.writeHif off v
  else if off < 0x2000 then s.writeIng off v
  else if off < 0x3000 then s.writeCmp off v
  else if off < 0x4000 then s.writeLmp off v
  else if off < 0x5000 then s.writeImp off v
  else if off < 0x6000 then s.writeReg off v
  else if off < 0x7000 then s.writeLnq off v
  else if off < 0x8000 then s.writeQpr off v
  else if off < 0x9000 then s.writeTim off v
  else if off < 0xA000 then s
  else if off < 0xB000 then (if off = 0xA098 then s.writePcCtrl v else s.writeReg off v)
  else if off < 0xC000 then s.writeFlt off v
  else if off < 0xD000 then (if off = 0xC004 then s.writeThpCmd v else s.writeReg off v)
  else if off < 0xE000 then s.writeCal off v
  else if off < 0xF000 then s.writeUpd off v
  else s.writeReg off v

/-- An access BAR0 accepts: an aligned 32-bit one (R46). -/
def bar0Ok (off size : Nat) : Bool := size == 4 && off % 4 == 0

/-- A write of BAR0: only of a register that software may write. -/
def State.writeBar0 (off : Nat) (v : Word) (s : State) : State :=
  match regAccess off with
  | some a => if a.writable then s.writeBlock off v else s
  | none => s

/-- The offset of an access counts on from BAR0 into BAR2, whose byte 0 is 0x1_0000 (the model's numbering; log entry 29). -/
def bar2Base : Nat := 0x10000

/-- A write of BAR2 (R45): a word of the MSI-X table, with its reserved bits 0; the pending-bit array takes no write. Unmasking a vector sends what is pending on it. -/
def State.writeBar2 (off : Nat) (v : Word) (s : State) : State :=
  let i := off / 4
  let m : Word := if i % 4 = 0 then 0xFFFFFFFC else if i % 4 = 3 then 1 else 0xFFFFFFFF
  if i < 128 then ({ s with hif := { s.hif with msixTab := tput (msixDflt i) s.hif.msixTab i (v &&& m) } } : State).sendPending else s

/-- A read of BAR2. -/
def State.readBar2 (s : State) (off : Nat) : Word :=
  if off < 512 then s.msixWord (off / 4) else if off = 0x800 then s.hif.msixPend else 0

/-- The configuration space counts on from BAR2: byte 0 is 0x1_2000 (the model's numbering; log entry 29). -/
def cfgBase : Nat := 0x12000

/-- A word of configuration space, of which the manual gives the identity (R2), the class code and the subsystem (R41) and bus mastering (R80); the words' places are PCI Express's, and every other bit reads 0 (PRESUMED, log entry 29). The endpoint answers requests from start-up on (R43). -/
def State.cfgWord (s : State) (off : Nat) : Word :=
  let identity : Word := pack [(0, Config.vendorId.toNat), (16, 0x0648)]
  if !s.sys.endpoint then 0
  else if off = 0x00 ∨ off = 0x2C then identity
  else if off = 0x04 then pack [(2, b2n s.hif.busMaster)]
  else if off = 0x08 then pack [(0, 0xB1), (16, 0x0380)]
  else 0

/-- A write of configuration space: the command register's bus mastering bit. Once it is set again what was kept is written (R80). -/
def State.writeCfg (off : Nat) (v : Word) (s : State) : State :=
  if s.sys.endpoint && off == 0x04 then
    let set : State := { s with hif := { s.hif with busMaster := bit v 2 } }
    if bit v 2 && !s.hif.busMaster then ({ set with hif := { set.hif with sweepAt := s.clk } } : State).flushKept else set
  else s

/-- A write by offset: BAR0, BAR2, configuration space. -/
def State.writeAt (off : Nat) (v : Word) (s : State) : State :=
  if off < bar2Base then s.writeBar0 off v
  else if off < cfgBase then s.writeBar2 (off - bar2Base) v
  else s.writeCfg (off - cfgBase) v

/-- REGISTER_WRITE: a write of any size at any offset; one that is not an aligned 32-bit access completes without effect (R46). -/
def execRegisterWrite (dt off size : Nat) (v : Word) (s : State) : Host.Outcome State Fault Refusal :=
  let s := s.elapse dt
  .next (if bar0Ok off size then s.writeAt off v else s)

/-- What a read leaves: the data returned and, for a ROL register, its partners' shadows (R511); UPD_NONCE_LO issues a nonce (R507). -/
def State.readBar0 (off : Nat) (s : State) : State :=
  if off = 0xE028 then s.readNonce
  else
    let d := s.readReg off
    { s with rdata := d, shadows := (if regAccess off = some .rol then (s.partners off).foldl (fun t e => tput 0 t e.1 e.2) s.shadows else s.shadows) }

/-- ROL_READ: a read of any size at an offset; one that is not an aligned 32-bit access returns 0 (R46). -/
def execRolRead (dt : Nat) (r : RegRead) (s : State) : Host.Outcome State Fault Refusal :=
  let s := s.elapse dt
  let off := r.off
  .next (if !bar0Ok off r.size then { s with rdata := 0 } else if off < bar2Base then s.readBar0 off
    else { s with rdata := if off < cfgBase then s.readBar2 (off - bar2Base) else s.cfgWord (off - cfgBase) })

end Sys2Proof.Machine
end

