-- ==== Sys2Proof/Machine/Dispatch.lean ====
section
/-! DEFINITION. What each command does: one direct call of its meaning for every row of spec/opcode_table.json. -/

namespace Sys2Proof.Machine

open Sys2Proof

/-- The effect of a command on everything but the queue. -/
def exec (i : Instr) (s : State) : Host.Outcome State Fault Refusal :=
  match i with
  | .layerDefine dt q desc auth => Sys2Proof.Machine.execLayerDefine dt q desc auth s
  | .layerUpdate dt q desc auth => Sys2Proof.Machine.execLayerUpdate dt q desc auth s
  | .layerRemove dt q desc auth => Sys2Proof.Machine.execLayerRemove dt q desc auth s
  | .surfaceWrite dt q desc auth => Sys2Proof.Machine.execSurfaceWrite dt q desc auth s
  | .fenceSignal dt q desc auth => Sys2Proof.Machine.execFenceSignal dt q desc auth s
  | .sceneCommit dt q desc auth => Sys2Proof.Machine.execSceneCommit dt q desc auth s
  | .streamAdmit dt q desc auth => Sys2Proof.Machine.execStreamAdmit dt q desc auth s
  | .streamRelease dt q desc auth => Sys2Proof.Machine.execStreamRelease dt q desc auth s
  | .tableLoad dt q desc auth => Sys2Proof.Machine.execTableLoad dt q desc auth s
  | .tableVerify dt q desc auth => Sys2Proof.Machine.execTableVerify dt q desc auth s
  | .dimSet dt q desc auth => Sys2Proof.Machine.execDimSet dt q desc auth s
  | .colourReference dt q desc auth => Sys2Proof.Machine.execColourReference dt q desc auth s
  | .leafAdmit dt q desc auth => Sys2Proof.Machine.execLeafAdmit dt q desc auth s
  | .leafCommand dt q desc auth => Sys2Proof.Machine.execLeafCommand dt q desc auth s
  | .quireRebalance dt q desc auth => Sys2Proof.Machine.execQuireRebalance dt q desc auth s
  | .leafRetire dt q desc auth => Sys2Proof.Machine.execLeafRetire dt q desc auth s
  | .pulseRealign dt q desc auth => Sys2Proof.Machine.execPulseRealign dt q desc auth s
  | .updateBlock dt q desc auth => Sys2Proof.Machine.execUpdateBlock dt q desc auth s
  | .updateActivate dt q desc auth => Sys2Proof.Machine.execUpdateActivate dt q desc auth s
  | .faultAck dt q desc auth => Sys2Proof.Machine.execFaultAck dt q desc auth s
  | .saveCalibration dt q desc auth => Sys2Proof.Machine.execSaveCalibration dt q desc auth s
  | .restoreCalibration dt q desc auth => Sys2Proof.Machine.execRestoreCalibration dt q desc auth s
  | .opcodeRefused dt q desc auth => Sys2Proof.Machine.execOpcodeRefused dt q desc auth s
  | .sweep dt page fences => Sys2Proof.Machine.execSweep dt page fences s
  | .doorbellStall dt => Sys2Proof.Machine.execDoorbellStall dt s
  | .bufferStaged dt item data => Sys2Proof.Machine.execBufferStaged dt item data s
  | .holdoffExpiry dt queue => Sys2Proof.Machine.execHoldoffExpiry dt queue s
  | .overflowRecordWrite dt queue => Sys2Proof.Machine.execOverflowRecordWrite dt queue s
  | .hostLinkLoss dt cause => Sys2Proof.Machine.execHostLinkLoss dt cause s
  | .hostLinkReturn dt enables => Sys2Proof.Machine.execHostLinkReturn dt enables s
  | .hifEnable dt v => Sys2Proof.Machine.execHifEnable dt v s
  | .hifQuiesce dt v => Sys2Proof.Machine.execHifQuiesce dt v s
  | .queueEnable dt queue v => Sys2Proof.Machine.execQueueEnable dt queue v s
  | .windowCommit dt v => Sys2Proof.Machine.execWindowCommit dt v s
  | .windowCommitApply dt => Sys2Proof.Machine.execWindowCommitApply dt s
  | .fkeyLock dt v => Sys2Proof.Machine.execFkeyLock dt v s
  | .registerWrite dt off size v => Sys2Proof.Machine.execRegisterWrite dt off size v s
  | .rolRead dt read => Sys2Proof.Machine.execRolRead dt read s
  | .macEnable dt m v => Sys2Proof.Machine.execMacEnable dt m v s
  | .portEnable dt p v => Sys2Proof.Machine.execPortEnable dt p v s
  | .packetReceive dt p f => Sys2Proof.Machine.execPacketReceive dt p f s
  | .membershipQuery dt p qy => Sys2Proof.Machine.execMembershipQuery dt p qy s
  | .stateChangeReportRepeat dt p => Sys2Proof.Machine.execStateChangeReportRepeat dt p s
  | .joinGraceExpiry dt stream => Sys2Proof.Machine.execJoinGraceExpiry dt stream s
  | .streamAbsenceExpiry dt stream => Sys2Proof.Machine.execStreamAbsenceExpiry dt stream s
  | .frameHoldExpiry dt stream => Sys2Proof.Machine.execFrameHoldExpiry dt stream s
  | .streamBuffersReturn dt stream => Sys2Proof.Machine.execStreamBuffersReturn dt stream s
  | .commitPoint dt => Sys2Proof.Machine.execCommitPoint dt s
  | .tileComplete dt engine tile => Sys2Proof.Machine.execTileComplete dt engine tile s
  | .pressCutoff dt => Sys2Proof.Machine.execPressCutoff dt s
  | .walkerCutoff dt => Sys2Proof.Machine.execWalkerCutoff dt s
  | .slugEncoded dt encoder leaf slug gen => Sys2Proof.Machine.execSlugEncoded dt encoder leaf slug gen s
  | .proofDecodeDone dt encoder leaf slug gen ok => Sys2Proof.Machine.execProofDecodeDone dt encoder leaf slug gen ok s
  | .pageFetch dt leaf page readOk => Sys2Proof.Machine.execPageFetch dt leaf page readOk s
  | .tableLoadStaged dt item => Sys2Proof.Machine.execTableLoadStaged dt item s
  | .tableVerifyDone dt end_ => Sys2Proof.Machine.execTableVerifyDone dt end_ s
  | .commitDeadline dt => Sys2Proof.Machine.execCommitDeadline dt s
  | .tick dt => Sys2Proof.Machine.execTick dt s
  | .recordGroupClose dt => Sys2Proof.Machine.execRecordGroupClose dt s
  | .lmpLeafSelect dt v => Sys2Proof.Machine.execLmpLeafSelect dt v s
  | .toneMapCommit dt v => Sys2Proof.Machine.execToneMapCommit dt v s
  | .soffsetWrite dt v => Sys2Proof.Machine.execSoffsetWrite dt v s
  | .impCommit dt v => Sys2Proof.Machine.execImpCommit dt v s
  | .impCheckDone dt => Sys2Proof.Machine.execImpCheckDone dt s
  | .liveWrite dt v => Sys2Proof.Machine.execLiveWrite dt v s
  | .quadEnable dt quad v => Sys2Proof.Machine.execQuadEnable dt quad v s
  | .quireEnable dt quire v => Sys2Proof.Machine.execQuireEnable dt quire v s
  | .eqEntryWrite dt v => Sys2Proof.Machine.execEqEntryWrite dt v s
  | .laneLoopWrite dt lane v => Sys2Proof.Machine.execLaneLoopWrite dt lane v s
  | .laneRestore dt lane v => Sys2Proof.Machine.execLaneRestore dt lane v s
  | .laneAligned dt lane => Sys2Proof.Machine.execLaneAligned dt lane s
  | .laneAlignmentLoss dt lane => Sys2Proof.Machine.execLaneAlignmentLoss dt lane s
  | .acquireTimeout dt lane => Sys2Proof.Machine.execAcquireTimeout dt lane s
  | .realignTimeout dt lane => Sys2Proof.Machine.execRealignTimeout dt lane s
  | .idleNickReceive dt lane seq => Sys2Proof.Machine.execIdleNickReceive dt lane seq s
  | .idleWakeReceive dt lane seq confirmed => Sys2Proof.Machine.execIdleWakeReceive dt lane seq confirmed s
  | .idleBurstTimeout dt lane => Sys2Proof.Machine.execIdleBurstTimeout dt lane s
  | .transmitterIdle dt lane => Sys2Proof.Machine.execTransmitterIdle dt lane s
  | .transmitterWake dt lane => Sys2Proof.Machine.execTransmitterWake dt lane s
  | .linkSheetReceive dt lane sheet => Sys2Proof.Machine.execLinkSheetReceive dt lane sheet s
  | .codewordUncorrectable dt lane => Sys2Proof.Machine.execCodewordUncorrectable dt lane s
  | .laneFomUpdate dt lane snrs => Sys2Proof.Machine.execLaneFomUpdate dt lane snrs s
  | .eqLimit dt at_ => Sys2Proof.Machine.execEqLimit dt at_ s
  | .sliceCheck dt lane u eu x ex => Sys2Proof.Machine.execSliceCheck dt lane u eu x ex s
  | .sheetReceive dt quire dir place digest errored => Sys2Proof.Machine.execSheetReceive dt quire dir place digest errored s
  | .sheetMissing dt quire dir seq => Sys2Proof.Machine.execSheetMissing dt quire dir seq s
  | .breakReceive dt ins b onSheet => Sys2Proof.Machine.execBreakReceive dt ins b onSheet s
  | .replan dt quire => Sys2Proof.Machine.execReplan dt quire s
  | .healComplete dt quire dir => Sys2Proof.Machine.execHealComplete dt quire dir s
  | .rebalanceLaneCheck dt quire => Sys2Proof.Machine.execRebalanceLaneCheck dt quire s
  | .replayTimeout dt leaf slug gen => Sys2Proof.Machine.execReplayTimeout dt leaf slug gen s
  | .ackReceive dt ins entries => Sys2Proof.Machine.execAckReceive dt ins entries s
  | .enrollReport dt ins r => Sys2Proof.Machine.execEnrollReport dt ins r s
  | .flipReport dt ins r => Sys2Proof.Machine.execFlipReport dt ins r s
  | .sensorReport dt ins q => Sys2Proof.Machine.execSensorReport dt ins q s
  | .resultReport dt ins r => Sys2Proof.Machine.execResultReport dt ins r s
  | .checkwordReport dt ins imp gen slug => Sys2Proof.Machine.execCheckwordReport dt ins imp gen slug s
  | .mirrorReport dt ins type part slug which => Sys2Proof.Machine.execMirrorReport dt ins type part slug which s
  | .quireAdoptStart dt quire => Sys2Proof.Machine.execQuireAdoptStart dt quire s
  | .adoptSend dt quire => Sys2Proof.Machine.execAdoptSend dt quire s
  | .adoptingTimeout dt quire => Sys2Proof.Machine.execAdoptingTimeout dt quire s
  | .badCountTimeout dt quire => Sys2Proof.Machine.execBadCountTimeout dt quire s
  | .leafLost dt leaf => Sys2Proof.Machine.execLeafLost dt leaf s
  | .leafFlipLate dt leaf => Sys2Proof.Machine.execLeafFlipLate dt leaf s
  | .timePacketSend dt quire => Sys2Proof.Machine.execTimePacketSend dt quire s
  | .ptpAnnounce dt src a => Sys2Proof.Machine.execPtpAnnounce dt src a s
  | .ptpSync dt src k => Sys2Proof.Machine.execPtpSync dt src k s
  | .ptpDelayResp dt src t4 logInt => Sys2Proof.Machine.execPtpDelayResp dt src t4 logInt s
  | .delayReqSend dt => Sys2Proof.Machine.execDelayReqSend dt s
  | .announceReceiptTimeout dt master => Sys2Proof.Machine.execAnnounceReceiptTimeout dt master s
  | .timeSnap dt v => Sys2Proof.Machine.execTimeSnap dt v s
  | .hostStart dt v => Sys2Proof.Machine.execHostStart dt v s
  | .pCommit dt v => Sys2Proof.Machine.execPCommit dt v s
  | .generatorStart dt => Sys2Proof.Machine.execGeneratorStart dt s
  | .pulseModeWrite dt o v => Sys2Proof.Machine.execPulseModeWrite dt o v s
  | .pulseTargetCommit dt o v => Sys2Proof.Machine.execPulseTargetCommit dt o v s
  | .pulseDue dt o => Sys2Proof.Machine.execPulseDue dt o s
  | .esmcPdu dt m ssm event => Sys2Proof.Machine.execEsmcPdu dt m ssm event s
  | .refqlFrame dt k bytes => Sys2Proof.Machine.execRefqlFrame dt k bytes s
  | .qlTimeout dt c => Sys2Proof.Machine.execQlTimeout dt c s
  | .candidateWindow dt c signal freq fin => Sys2Proof.Machine.execCandidateWindow dt c signal freq fin s
  | .candidateEligible dt c => Sys2Proof.Machine.execCandidateEligible dt c s
  | .candidateSignalLoss dt c => Sys2Proof.Machine.execCandidateSignalLoss dt c s
  | .tcxoCompensation dt temp => Sys2Proof.Machine.execTcxoCompensation dt temp s
  | .dramRead dt a e o twinOk => Sys2Proof.Machine.execDramRead dt a e o twinOk s
  | .dramActivate dt pc bank row => Sys2Proof.Machine.execDramActivate dt pc bank row s
  | .refreshWindowEnd dt stack => Sys2Proof.Machine.execRefreshWindowEnd dt stack s
  | .eyeCheck dt pc found => Sys2Proof.Machine.execEyeCheck dt pc found s
  | .scrubRead dt a e o twinOk => Sys2Proof.Machine.execScrubRead dt a e o twinOk s
  | .trainingTempRecheck dt => Sys2Proof.Machine.execTrainingTempRecheck dt s
  | .migrationDone dt pc => Sys2Proof.Machine.execMigrationDone dt pc s
  | .pcRestore dt v => Sys2Proof.Machine.execPcRestore dt v s
  | .sramReadError dt macroNo row e user => Sys2Proof.Machine.execSramReadError dt macroNo row e user s
  | .thermalSample dt r => Sys2Proof.Machine.execThermalSample dt r s
  | .supplySample dt v k p => Sys2Proof.Machine.execSupplySample dt v k p s
  | .darkRepeat dt => Sys2Proof.Machine.execDarkRepeat dt s
  | .orderlyStopEnd dt => Sys2Proof.Machine.execOrderlyStopEnd dt s
  | .resume dt v => Sys2Proof.Machine.execResume dt v s
  | .supervisorWatchdog dt => Sys2Proof.Machine.execSupervisorWatchdog dt s
  | .supervisorRestart dt => Sys2Proof.Machine.execSupervisorRestart dt s
  | .calrefRun dt v uv => Sys2Proof.Machine.execCalrefRun dt v uv s
  | .calrefRunDone dt code resid => Sys2Proof.Machine.execCalrefRunDone dt code resid s
  | .unitRestore dt v => Sys2Proof.Machine.execUnitRestore dt v s
  | .engineBringInDone dt e pass => Sys2Proof.Machine.execEngineBringInDone dt e pass s
  | .encoderBringInDone dt pass => Sys2Proof.Machine.execEncoderBringInDone dt pass s
  | .spareRecordWrite dt => Sys2Proof.Machine.execSpareRecordWrite dt s
  | .packageVerifyDone dt => Sys2Proof.Machine.execPackageVerifyDone dt s
  | .activateWriteDone dt readbackOk => Sys2Proof.Machine.execActivateWriteDone dt readbackOk s
  | .activateConditionTimeout dt => Sys2Proof.Machine.execActivateConditionTimeout dt s
  | .warmRestart dt => Sys2Proof.Machine.execWarmRestart dt s
  | .imageConfirm dt => Sys2Proof.Machine.execImageConfirm dt s
  | .confirmationDeadline dt => Sys2Proof.Machine.execConfirmationDeadline dt s
  | .ownerProgram dt v => Sys2Proof.Machine.execOwnerProgram dt v s
  | .ownerLock dt v => Sys2Proof.Machine.execOwnerLock dt v s
  | .nonceIssue dt => Sys2Proof.Machine.execNonceIssue dt s
  | .entropyReady dt => Sys2Proof.Machine.execEntropyReady dt s
  | .entropyHealth dt test => Sys2Proof.Machine.execEntropyHealth dt test s
  | .ingestTrace dt => Sys2Proof.Machine.execIngestTrace dt s
  | .supplyValid dt => Sys2Proof.Machine.execSupplyValid dt s
  | .perstRelease dt => Sys2Proof.Machine.execPerstRelease dt s
  | .perstAssert dt => Sys2Proof.Machine.execPerstAssert dt s
  | .startupStageDone dt st found => Sys2Proof.Machine.execStartupStageDone dt st found s
  | .endpointReady dt => Sys2Proof.Machine.execEndpointReady dt s
  | .prereadyShutdownRestart dt => Sys2Proof.Machine.execPrereadyShutdownRestart dt s
  | .duplicateAddressDetection dt p => Sys2Proof.Machine.execDuplicateAddressDetection dt p s
  | .pcRestoreDone dt pc ok found => Sys2Proof.Machine.execPcRestoreDone dt pc ok found s
  | .unitRestoreSelftestDone dt pass => Sys2Proof.Machine.execUnitRestoreSelftestDone dt pass s
  | .resumeComplete dt trained auxLost => Sys2Proof.Machine.execResumeComplete dt trained auxLost s
  | .phaseBuildOutDone dt => Sys2Proof.Machine.execPhaseBuildOutDone dt s

end Sys2Proof.Machine
end

