-- ==== Sys2Proof/Machine/Images.lean ====
section
/-! DEFINITION. The bytes of what the module writes into host memory: completions (Table 2-11), EVQ records (Tables 13-5, 13-7, 13-8 and R455) and trace records (Table 16-2), little-endian (R5), reserved bytes 0 (R7), PHASE at bit 0 of the last 16-bit word (R67, R76), and where in its ring each is written (R51). -/

namespace Sys2Proof.Machine

open Sys2Proof

/-- Fields laid out in order, each given as (size in bytes, value). -/
def layout (fs : List (Nat × Nat)) : List Byte := fs.flatMap fun f => leBytes f.1 f.2

/-- The 32 bytes of a completion (Table 2-11). -/
def Completion.bytes (c : Completion) (phase : Bool) : List Byte :=
  layout [(4, c.tag.toNat), (1, c.sq), (1, 0), (2, c.slot), (2, c.opcode.toNat), (2, c.status.code), (4, c.detail.toNat), (8, c.imp.toNat), (4, c.result.toNat),
    (2, 0), (2, b2n phase + 2 ^ 13 * b2n c.clamped + 2 ^ 14 * b2n c.unknown + 2 ^ 15 * b2n c.final)]

/-- The delivery entry of Table 9-17. -/
def deliveryBytes (q : Nat) (status : Status) (slugs acked failed replayed ageMissing : Nat) (failedLeaves : DWord) : List Byte :=
  layout [(1, q), (1, 0), (2, status.code), (4, slugs), (4, acked), (4, failed), (4, replayed), (2, ageMissing), (2, 0), (8, failedLeaves.toNat)]

/-- Nanoseconds in a second. -/
def nsPerS : Nat := 1000000000

/-- The 62 bytes of an EVQ record before its TAIL. -/
def Rec.body : Rec → List Byte
  | .fault src inst level flags seq cnt imp time detail =>
    layout ([(2, 1), (2, src.info.1), (2, inst), (1, level), (1, flags), (4, seq.toNat), (4, cnt), (8, imp), (8, time / nsPerS), (4, time % nsPerS)] ++
      ((List.range 6).map fun k => (4, (nthD 0 detail k).toNat)) ++ [(2, 0)])
  | .summary parts gen flags imp flip regions level engines shed delayed overAge ageMax proofBad =>
    layout [(2, 2), (1, parts), (1, gen), (4, flags.toNat), (8, imp), (8, flip / nsPerS), (4, flip % nsPerS), (2, regions.toNat), (1, level), (1, engines),
      (8, shed.toNat), (8, delayed.toNat), (8, overAge.toNat), (3, ageMax), (1, proofBad), (2, 0)]
  | .quire imp q status slugs acked failed replayed ageMissing failedLeaves proofLeaves =>
    layout [(2, 3), (6, 0), (8, imp)] ++ deliveryBytes q status slugs acked failed replayed ageMissing failedLeaves ++ layout [(8, proofLeaves.toNat), (6, 0)]
  | .overflow lost => layout [(2, 4), (2, 0), (4, lost), (54, 0)]

/-- The 64 bytes of an EVQ record. -/
def Rec.bytes (r : Rec) (phase : Bool) : List Byte := r.body ++ leBytes 2 (b2n phase)

/-- The 32 bytes of a TRQ record; none is the overflow record with the number lost (Tables 16-2, 16-3; its IMPRESSION and TIME are 0: log entry 80). -/
def trqBytes (t : Option Trace) (lost : Nat) (phase : Bool) : List Byte :=
  (match t with
    | some t => layout [(2, t.kind), (2, t.arg), (4, t.imp), (8, t.time), (14, t.data)]
    | none => layout [(2, 1), (2, 0), (4, 0), (8, 0), (4, lost), (10, 0)]) ++ leBytes 2 (b2n phase)

/-- The bus address of entry i of queue k (R51). -/
def State.entryAddr (s : State) (k i : Nat) : Nat :=
  bits (s.reg (qBase k)) 12 20 * 4096 + (s.reg (qBase k + 4)).toNat * 2 ^ 32 + entryBytes k * i

/-- What an output writes into host memory: the bus address and the bytes. -/
def State.hostWrite (s : State) : Output → Option (Nat × List Byte)
  | .cqEntry q i ph c => some (s.entryAddr (16 + q) i, c.bytes ph)
  | .evqEntry i ph r => some (s.entryAddr 32 i, r.bytes ph)
  | .trqEntry i ph t lost => some (s.entryAddr 33 i, trqBytes t lost ph)
  | .bufWrite a l => some (a.toNat, l)
  | .msix _ a d => some (a.toNat, leBytes 4 d.toNat)
  | _ => none

end Sys2Proof.Machine
end

