-- ==== Sys2Proof/WellFormed.lean ====
section
/-! DEFINITION. Well-formed commands: every number names an object the module has, and every list has the length its row of the manual gives. The meanings are total on every command; a sender keeps to the well-formed ones (log entry 2). -/

namespace Sys2Proof

/-- An inserted packet comes from one of 16 quires, on one of two directions, from one of 64 leaves (R305, Table 9-2). -/
def insOk (i : Ins) : Bool := decide (i.quire < 16) && decide (i.dir < 2) && decide (i.leaf < 64)

/-- A DRAM address inside the two stacks (R415). -/
def dramOk (a : DramAddr) : Bool := decide (a.pc < 64) && decide (a.bank < 32) && decide (a.row < 24576) && decide (a.col < 32)

/-- Eyes of the five lanes of a pseudo-channel (R416). -/
def eyesOk (e : Eyes) : Bool := e.rd.length == 5 && e.wr.length == 5

/-- The operands of a command lie within the ranges the manual gives them. -/
def Instr.wf (i : Instr) : Bool :=
  match i with
  | .layerDefine _ q _ _ => decide (q < 16)
  | .layerUpdate _ q _ _ => decide (q < 16)
  | .layerRemove _ q _ _ => decide (q < 16)
  | .surfaceWrite _ q _ _ => decide (q < 16)
  | .fenceSignal _ q _ _ => decide (q < 16)
  | .sceneCommit _ q _ _ => decide (q < 16)
  | .streamAdmit _ q _ _ => decide (q < 16)
  | .streamRelease _ q _ _ => decide (q < 16)
  | .tableLoad _ q _ _ => decide (q < 16)
  | .tableVerify _ q _ _ => decide (q < 16)
  | .dimSet _ q _ _ => decide (q < 16)
  | .colourReference _ q _ _ => decide (q < 16)
  | .leafAdmit _ q _ _ => decide (q < 16)
  | .leafCommand _ q _ _ => decide (q < 16)
  | .quireRebalance _ q _ _ => decide (q < 16)
  | .leafRetire _ q _ _ => decide (q < 16)
  | .pulseRealign _ q _ _ => decide (q < 16)
  | .updateBlock _ q _ _ => decide (q < 16)
  | .updateActivate _ q _ _ => decide (q < 16)
  | .faultAck _ q _ _ => decide (q < 16)
  | .saveCalibration _ q _ _ => decide (q < 16)
  | .restoreCalibration _ q _ _ => decide (q < 16)
  | .opcodeRefused _ q _ _ => decide (q < 16)
  | .sweep _ page fences => page.length == 136 && fences.all (fun f => decide (f.1 < 448) && f.2.length == 8) && decide (fences.length ≤ 64)
  | .doorbellStall _ => true
  | .bufferStaged _ _ _ => true
  | .holdoffExpiry _ queue => decide (16 ≤ queue) && decide (queue < 34)
  | .overflowRecordWrite _ queue => queue == 32 || queue == 33
  | .hostLinkLoss _ _ => true
  | .hostLinkReturn _ _ => true
  | .hifEnable _ _ => true
  | .hifQuiesce _ _ => true
  | .queueEnable _ queue _ => decide (queue < 34)
  | .windowCommit _ _ => true
  | .windowCommitApply _ => true
  | .fkeyLock _ _ => true
  | .registerWrite _ off _ _ => decide (off < 77824)
  | .rolRead _ read => decide (read.off < 77824)
  | .macEnable _ m _ => decide (m < 8)
  | .portEnable _ p _ => decide (p < 32)
  | .packetReceive _ p _ => decide (p < 32)
  | .membershipQuery _ p _ => decide (p < 32)
  | .stateChangeReportRepeat _ p => decide (p < 32)
  | .joinGraceExpiry _ stream => decide (stream < 64)
  | .streamAbsenceExpiry _ stream => decide (stream < 64)
  | .frameHoldExpiry _ stream => decide (stream < 64)
  | .streamBuffersReturn _ stream => decide (stream < 64)
  | .commitPoint _ => true
  | .tileComplete _ engine _ => decide (engine < 18)
  | .pressCutoff _ => true
  | .walkerCutoff _ => true
  | .slugEncoded _ encoder leaf slug gen => decide (encoder < 9) && decide (leaf < 1024) && decide (slug < 4096) && decide (gen < 16)
  | .proofDecodeDone _ encoder leaf slug gen _ => decide (encoder < 9) && decide (leaf < 1024) && decide (slug < 4096) && decide (gen < 16)
  | .pageFetch _ leaf page _ => decide (leaf < 1024) && decide (page < 256)
  | .tableLoadStaged _ _ => true
  | .tableVerifyDone _ end_ => end_.bad.all fun p => decide (p < 256)
  | .commitDeadline _ => true
  | .tick _ => true
  | .recordGroupClose _ => true
  | .lmpLeafSelect _ _ => true
  | .toneMapCommit _ _ => true
  | .soffsetWrite _ _ => true
  | .impCommit _ _ => true
  | .impCheckDone _ => true
  | .liveWrite _ _ => true
  | .quadEnable _ quad _ => decide (quad < 16)
  | .quireEnable _ quire _ => decide (quire < 16)
  | .eqEntryWrite _ _ => true
  | .laneLoopWrite _ lane _ => decide (lane < 80)
  | .laneRestore _ lane _ => decide (lane < 80)
  | .laneAligned _ lane => decide (lane < 80)
  | .laneAlignmentLoss _ lane => decide (lane < 80)
  | .acquireTimeout _ lane => decide (lane < 80)
  | .realignTimeout _ lane => decide (lane < 80)
  | .idleNickReceive _ lane seq => decide (lane < 80) && decide (seq < 65536)
  | .idleWakeReceive _ lane seq _ => decide (lane < 80) && decide (seq < 65536)
  | .idleBurstTimeout _ lane => decide (lane < 80)
  | .transmitterIdle _ lane => decide (lane < 80)
  | .transmitterWake _ lane => decide (lane < 80)
  | .linkSheetReceive _ lane _ => decide (lane < 80)
  | .codewordUncorrectable _ lane => decide (lane < 80)
  | .laneFomUpdate _ lane snrs => decide (lane < 80) && decide (snrs ≠ [])
  | .eqLimit _ at_ => decide (at_.lane < 80) && decide (at_.tap < 17) && decide (at_.tap ≠ 4)
  | .sliceCheck _ lane u eu x ex => decide (lane < 80) && decide (u < 36) && decide (x < 36) && decide (eu < 256) && decide (ex < 256)
  | .sheetReceive _ quire dir place _ _ => decide (quire < 16) && decide (dir < 2) && decide (0 < place.pos) && decide (place.seq < 65520)
  | .sheetMissing _ quire dir seq => decide (quire < 16) && decide (dir < 2) && decide (seq < 65520)
  | .breakReceive _ ins _ _ => insOk ins
  | .replan _ quire => decide (quire < 16)
  | .healComplete _ quire dir => decide (quire < 16) && decide (dir < 2)
  | .rebalanceLaneCheck _ quire => decide (quire < 16)
  | .replayTimeout _ leaf slug gen => decide (leaf < 1024) && decide (slug < 4096) && decide (gen < 16)
  | .ackReceive _ ins _ => insOk ins
  | .enrollReport _ ins _ => insOk ins
  | .flipReport _ ins _ => insOk ins
  | .sensorReport _ ins q => insOk ins && q.length == 4
  | .resultReport _ ins _ => insOk ins
  | .checkwordReport _ ins _ _ _ => insOk ins
  | .mirrorReport _ ins _ _ _ _ => insOk ins
  | .quireAdoptStart _ quire => decide (quire < 16)
  | .adoptSend _ quire => decide (quire < 16)
  | .adoptingTimeout _ quire => decide (quire < 16)
  | .badCountTimeout _ quire => decide (quire < 16)
  | .leafLost _ leaf => decide (leaf < 1024)
  | .leafFlipLate _ leaf => decide (leaf < 1024)
  | .timePacketSend _ quire => decide (quire < 16)
  | .ptpAnnounce _ src _ => decide (src.port < 32)
  | .ptpSync _ src _ => decide (src.port < 32)
  | .ptpDelayResp _ src _ _ => decide (src.port < 32)
  | .delayReqSend _ => true
  | .announceReceiptTimeout _ _ => true
  | .timeSnap _ _ => true
  | .hostStart _ _ => true
  | .pCommit _ _ => true
  | .generatorStart _ => true
  | .pulseModeWrite _ o _ => decide (o < 4)
  | .pulseTargetCommit _ o _ => decide (o < 4)
  | .pulseDue _ o => decide (o < 4)
  | .esmcPdu _ m ssm _ => decide (m < 8) && decide (ssm < 16)
  | .refqlFrame _ i _ => decide (i < 2)
  | .qlTimeout _ c => decide (c < 10)
  | .candidateWindow _ c _ _ fin => decide (c < 10) && decide (fin < 3)
  | .candidateEligible _ c => decide (c < 10)
  | .candidateSignalLoss _ c => decide (c < 10)
  | .tcxoCompensation _ _ => true
  | .dramRead _ a _ _ _ => dramOk a
  | .dramActivate _ pc bank row => decide (pc < 64) && decide (bank < 32) && decide (row < 24576)
  | .refreshWindowEnd _ stack => decide (stack < 2)
  | .eyeCheck _ pc found => decide (pc < 64) && eyesOk found.eyes && decide (found.drift.length = 5)
  | .scrubRead _ a _ _ _ => dramOk a
  | .trainingTempRecheck _ => true
  | .migrationDone _ pc => decide (pc < 64)
  | .pcRestore _ _ => true
  | .sramReadError _ _ row _ _ => decide (row < 65536)
  | .thermalSample _ r => r.length == 20
  | .supplySample _ _ _ _ => true
  | .darkRepeat _ => true
  | .orderlyStopEnd _ => true
  | .resume _ _ => true
  | .supervisorWatchdog _ => true
  | .supervisorRestart _ => true
  | .calrefRun _ _ _ => true
  | .calrefRunDone _ code _ => decide (code < 128)
  | .unitRestore _ _ => true
  | .engineBringInDone _ e _ => decide (e < 18)
  | .encoderBringInDone _ _ => true
  | .spareRecordWrite _ => true
  | .packageVerifyDone _ => true
  | .activateWriteDone _ _ => true
  | .activateConditionTimeout _ => true
  | .warmRestart _ => true
  | .imageConfirm _ => true
  | .confirmationDeadline _ => true
  | .ownerProgram _ _ => true
  | .ownerLock _ _ => true
  | .nonceIssue _ => true
  | .entropyReady _ => true
  | .entropyHealth _ test => decide (1 ≤ test) && decide (test ≤ 3)
  | .ingestTrace _ => true
  | .supplyValid _ => true
  | .perstRelease _ => true
  | .perstAssert _ => true
  | .startupStageDone _ st found => decide (st.bankForce < 3) && (found.pcs.all fun p => decide (p < 64)) && found.rows.all fun r => decide (r.1 < 64) && decide (r.2.1 < 32) && decide (r.2.2 < 24576)
  | .endpointReady _ => true
  | .prereadyShutdownRestart _ => true
  | .duplicateAddressDetection _ p => decide (p < 32)
  | .pcRestoreDone _ pc _ found => decide (pc < 64) && eyesOk found.eyes && found.rows.all fun r => decide (r.1 < 32) && decide (r.2 < 24576)
  | .unitRestoreSelftestDone _ _ => true
  | .resumeComplete _ _ _ => true
  | .phaseBuildOutDone _ => true

/-- The time from the command before to this one, in units of the registration clock (log entry 2). -/
def Instr.dt (i : Instr) : Nat :=
  match i with
  | .layerDefine dt _ _ _ => dt
  | .layerUpdate dt _ _ _ => dt
  | .layerRemove dt _ _ _ => dt
  | .surfaceWrite dt _ _ _ => dt
  | .fenceSignal dt _ _ _ => dt
  | .sceneCommit dt _ _ _ => dt
  | .streamAdmit dt _ _ _ => dt
  | .streamRelease dt _ _ _ => dt
  | .tableLoad dt _ _ _ => dt
  | .tableVerify dt _ _ _ => dt
  | .dimSet dt _ _ _ => dt
  | .colourReference dt _ _ _ => dt
  | .leafAdmit dt _ _ _ => dt
  | .leafCommand dt _ _ _ => dt
  | .quireRebalance dt _ _ _ => dt
  | .leafRetire dt _ _ _ => dt
  | .pulseRealign dt _ _ _ => dt
  | .updateBlock dt _ _ _ => dt
  | .updateActivate dt _ _ _ => dt
  | .faultAck dt _ _ _ => dt
  | .saveCalibration dt _ _ _ => dt
  | .restoreCalibration dt _ _ _ => dt
  | .opcodeRefused dt _ _ _ => dt
  | .sweep dt _ _ => dt
  | .doorbellStall dt => dt
  | .bufferStaged dt _ _ => dt
  | .holdoffExpiry dt _ => dt
  | .overflowRecordWrite dt _ => dt
  | .hostLinkLoss dt _ => dt
  | .hostLinkReturn dt _ => dt
  | .hifEnable dt _ => dt
  | .hifQuiesce dt _ => dt
  | .queueEnable dt _ _ => dt
  | .windowCommit dt _ => dt
  | .windowCommitApply dt => dt
  | .fkeyLock dt _ => dt
  | .registerWrite dt _ _ _ => dt
  | .rolRead dt _ => dt
  | .macEnable dt _ _ => dt
  | .portEnable dt _ _ => dt
  | .packetReceive dt _ _ => dt
  | .membershipQuery dt _ _ => dt
  | .stateChangeReportRepeat dt _ => dt
  | .joinGraceExpiry dt _ => dt
  | .streamAbsenceExpiry dt _ => dt
  | .frameHoldExpiry dt _ => dt
  | .streamBuffersReturn dt _ => dt
  | .commitPoint dt => dt
  | .tileComplete dt _ _ => dt
  | .pressCutoff dt => dt
  | .walkerCutoff dt => dt
  | .slugEncoded dt _ _ _ _ => dt
  | .proofDecodeDone dt _ _ _ _ _ => dt
  | .pageFetch dt _ _ _ => dt
  | .tableLoadStaged dt _ => dt
  | .tableVerifyDone dt _ => dt
  | .commitDeadline dt => dt
  | .tick dt => dt
  | .recordGroupClose dt => dt
  | .lmpLeafSelect dt _ => dt
  | .toneMapCommit dt _ => dt
  | .soffsetWrite dt _ => dt
  | .impCommit dt _ => dt
  | .impCheckDone dt => dt
  | .liveWrite dt _ => dt
  | .quadEnable dt _ _ => dt
  | .quireEnable dt _ _ => dt
  | .eqEntryWrite dt _ => dt
  | .laneLoopWrite dt _ _ => dt
  | .laneRestore dt _ _ => dt
  | .laneAligned dt _ => dt
  | .laneAlignmentLoss dt _ => dt
  | .acquireTimeout dt _ => dt
  | .realignTimeout dt _ => dt
  | .idleNickReceive dt _ _ => dt
  | .idleWakeReceive dt _ _ _ => dt
  | .idleBurstTimeout dt _ => dt
  | .transmitterIdle dt _ => dt
  | .transmitterWake dt _ => dt
  | .linkSheetReceive dt _ _ => dt
  | .codewordUncorrectable dt _ => dt
  | .laneFomUpdate dt _ _ => dt
  | .eqLimit dt _ => dt
  | .sliceCheck dt _ _ _ _ _ => dt
  | .sheetReceive dt _ _ _ _ _ => dt
  | .sheetMissing dt _ _ _ => dt
  | .breakReceive dt _ _ _ => dt
  | .replan dt _ => dt
  | .healComplete dt _ _ => dt
  | .rebalanceLaneCheck dt _ => dt
  | .replayTimeout dt _ _ _ => dt
  | .ackReceive dt _ _ => dt
  | .enrollReport dt _ _ => dt
  | .flipReport dt _ _ => dt
  | .sensorReport dt _ _ => dt
  | .resultReport dt _ _ => dt
  | .checkwordReport dt _ _ _ _ => dt
  | .mirrorReport dt _ _ _ _ _ => dt
  | .quireAdoptStart dt _ => dt
  | .adoptSend dt _ => dt
  | .adoptingTimeout dt _ => dt
  | .badCountTimeout dt _ => dt
  | .leafLost dt _ => dt
  | .leafFlipLate dt _ => dt
  | .timePacketSend dt _ => dt
  | .ptpAnnounce dt _ _ => dt
  | .ptpSync dt _ _ => dt
  | .ptpDelayResp dt _ _ _ => dt
  | .delayReqSend dt => dt
  | .announceReceiptTimeout dt _ => dt
  | .timeSnap dt _ => dt
  | .hostStart dt _ => dt
  | .pCommit dt _ => dt
  | .generatorStart dt => dt
  | .pulseModeWrite dt _ _ => dt
  | .pulseTargetCommit dt _ _ => dt
  | .pulseDue dt _ => dt
  | .esmcPdu dt _ _ _ => dt
  | .refqlFrame dt _ _ => dt
  | .qlTimeout dt _ => dt
  | .candidateWindow dt _ _ _ _ => dt
  | .candidateEligible dt _ => dt
  | .candidateSignalLoss dt _ => dt
  | .tcxoCompensation dt _ => dt
  | .dramRead dt _ _ _ _ => dt
  | .dramActivate dt _ _ _ => dt
  | .refreshWindowEnd dt _ => dt
  | .eyeCheck dt _ _ => dt
  | .scrubRead dt _ _ _ _ => dt
  | .trainingTempRecheck dt => dt
  | .migrationDone dt _ => dt
  | .pcRestore dt _ => dt
  | .sramReadError dt _ _ _ _ => dt
  | .thermalSample dt _ => dt
  | .supplySample dt _ _ _ => dt
  | .darkRepeat dt => dt
  | .orderlyStopEnd dt => dt
  | .resume dt _ => dt
  | .supervisorWatchdog dt => dt
  | .supervisorRestart dt => dt
  | .calrefRun dt _ _ => dt
  | .calrefRunDone dt _ _ => dt
  | .unitRestore dt _ => dt
  | .engineBringInDone dt _ _ => dt
  | .encoderBringInDone dt _ => dt
  | .spareRecordWrite dt => dt
  | .packageVerifyDone dt => dt
  | .activateWriteDone dt _ => dt
  | .activateConditionTimeout dt => dt
  | .warmRestart dt => dt
  | .imageConfirm dt => dt
  | .confirmationDeadline dt => dt
  | .ownerProgram dt _ => dt
  | .ownerLock dt _ => dt
  | .nonceIssue dt => dt
  | .entropyReady dt => dt
  | .entropyHealth dt _ => dt
  | .ingestTrace dt => dt
  | .supplyValid dt => dt
  | .perstRelease dt => dt
  | .perstAssert dt => dt
  | .startupStageDone dt _ _ => dt
  | .endpointReady dt => dt
  | .prereadyShutdownRestart dt => dt
  | .duplicateAddressDetection dt _ => dt
  | .pcRestoreDone dt _ _ _ => dt
  | .unitRestoreSelftestDone dt _ => dt
  | .resumeComplete dt _ _ => dt
  | .phaseBuildOutDone dt => dt

/-- The same command after another time. -/
def Instr.after (n : Nat) (i : Instr) : Instr :=
  match i with
  | .layerDefine _ q desc auth => .layerDefine n q desc auth
  | .layerUpdate _ q desc auth => .layerUpdate n q desc auth
  | .layerRemove _ q desc auth => .layerRemove n q desc auth
  | .surfaceWrite _ q desc auth => .surfaceWrite n q desc auth
  | .fenceSignal _ q desc auth => .fenceSignal n q desc auth
  | .sceneCommit _ q desc auth => .sceneCommit n q desc auth
  | .streamAdmit _ q desc auth => .streamAdmit n q desc auth
  | .streamRelease _ q desc auth => .streamRelease n q desc auth
  | .tableLoad _ q desc auth => .tableLoad n q desc auth
  | .tableVerify _ q desc auth => .tableVerify n q desc auth
  | .dimSet _ q desc auth => .dimSet n q desc auth
  | .colourReference _ q desc auth => .colourReference n q desc auth
  | .leafAdmit _ q desc auth => .leafAdmit n q desc auth
  | .leafCommand _ q desc auth => .leafCommand n q desc auth
  | .quireRebalance _ q desc auth => .quireRebalance n q desc auth
  | .leafRetire _ q desc auth => .leafRetire n q desc auth
  | .pulseRealign _ q desc auth => .pulseRealign n q desc auth
  | .updateBlock _ q desc auth => .updateBlock n q desc auth
  | .updateActivate _ q desc auth => .updateActivate n q desc auth
  | .faultAck _ q desc auth => .faultAck n q desc auth
  | .saveCalibration _ q desc auth => .saveCalibration n q desc auth
  | .restoreCalibration _ q desc auth => .restoreCalibration n q desc auth
  | .opcodeRefused _ q desc auth => .opcodeRefused n q desc auth
  | .sweep _ page fences => .sweep n page fences
  | .doorbellStall _ => .doorbellStall n
  | .bufferStaged _ item data => .bufferStaged n item data
  | .holdoffExpiry _ queue => .holdoffExpiry n queue
  | .overflowRecordWrite _ queue => .overflowRecordWrite n queue
  | .hostLinkLoss _ cause => .hostLinkLoss n cause
  | .hostLinkReturn _ enables => .hostLinkReturn n enables
  | .hifEnable _ v => .hifEnable n v
  | .hifQuiesce _ v => .hifQuiesce n v
  | .queueEnable _ queue v => .queueEnable n queue v
  | .windowCommit _ v => .windowCommit n v
  | .windowCommitApply _ => .windowCommitApply n
  | .fkeyLock _ v => .fkeyLock n v
  | .registerWrite _ off size v => .registerWrite n off size v
  | .rolRead _ read => .rolRead n read
  | .macEnable _ m v => .macEnable n m v
  | .portEnable _ p v => .portEnable n p v
  | .packetReceive _ p f => .packetReceive n p f
  | .membershipQuery _ p qy => .membershipQuery n p qy
  | .stateChangeReportRepeat _ p => .stateChangeReportRepeat n p
  | .joinGraceExpiry _ stream => .joinGraceExpiry n stream
  | .streamAbsenceExpiry _ stream => .streamAbsenceExpiry n stream
  | .frameHoldExpiry _ stream => .frameHoldExpiry n stream
  | .streamBuffersReturn _ stream => .streamBuffersReturn n stream
  | .commitPoint _ => .commitPoint n
  | .tileComplete _ engine tile => .tileComplete n engine tile
  | .pressCutoff _ => .pressCutoff n
  | .walkerCutoff _ => .walkerCutoff n
  | .slugEncoded _ encoder leaf slug gen => .slugEncoded n encoder leaf slug gen
  | .proofDecodeDone _ encoder leaf slug gen ok => .proofDecodeDone n encoder leaf slug gen ok
  | .pageFetch _ leaf page readOk => .pageFetch n leaf page readOk
  | .tableLoadStaged _ item => .tableLoadStaged n item
  | .tableVerifyDone _ end_ => .tableVerifyDone n end_
  | .commitDeadline _ => .commitDeadline n
  | .tick _ => .tick n
  | .recordGroupClose _ => .recordGroupClose n
  | .lmpLeafSelect _ v => .lmpLeafSelect n v
  | .toneMapCommit _ v => .toneMapCommit n v
  | .soffsetWrite _ v => .soffsetWrite n v
  | .impCommit _ v => .impCommit n v
  | .impCheckDone _ => .impCheckDone n
  | .liveWrite _ v => .liveWrite n v
  | .quadEnable _ quad v => .quadEnable n quad v
  | .quireEnable _ quire v => .quireEnable n quire v
  | .eqEntryWrite _ v => .eqEntryWrite n v
  | .laneLoopWrite _ lane v => .laneLoopWrite n lane v
  | .laneRestore _ lane v => .laneRestore n lane v
  | .laneAligned _ lane => .laneAligned n lane
  | .laneAlignmentLoss _ lane => .laneAlignmentLoss n lane
  | .acquireTimeout _ lane => .acquireTimeout n lane
  | .realignTimeout _ lane => .realignTimeout n lane
  | .idleNickReceive _ lane seq => .idleNickReceive n lane seq
  | .idleWakeReceive _ lane seq confirmed => .idleWakeReceive n lane seq confirmed
  | .idleBurstTimeout _ lane => .idleBurstTimeout n lane
  | .transmitterIdle _ lane => .transmitterIdle n lane
  | .transmitterWake _ lane => .transmitterWake n lane
  | .linkSheetReceive _ lane sheet => .linkSheetReceive n lane sheet
  | .codewordUncorrectable _ lane => .codewordUncorrectable n lane
  | .laneFomUpdate _ lane snrs => .laneFomUpdate n lane snrs
  | .eqLimit _ at_ => .eqLimit n at_
  | .sliceCheck _ lane u eu x ex => .sliceCheck n lane u eu x ex
  | .sheetReceive _ quire dir place digest errored => .sheetReceive n quire dir place digest errored
  | .sheetMissing _ quire dir seq => .sheetMissing n quire dir seq
  | .breakReceive _ ins b onSheet => .breakReceive n ins b onSheet
  | .replan _ quire => .replan n quire
  | .healComplete _ quire dir => .healComplete n quire dir
  | .rebalanceLaneCheck _ quire => .rebalanceLaneCheck n quire
  | .replayTimeout _ leaf slug gen => .replayTimeout n leaf slug gen
  | .ackReceive _ ins entries => .ackReceive n ins entries
  | .enrollReport _ ins r => .enrollReport n ins r
  | .flipReport _ ins r => .flipReport n ins r
  | .sensorReport _ ins q => .sensorReport n ins q
  | .resultReport _ ins r => .resultReport n ins r
  | .checkwordReport _ ins imp gen slug => .checkwordReport n ins imp gen slug
  | .mirrorReport _ ins type part slug which => .mirrorReport n ins type part slug which
  | .quireAdoptStart _ quire => .quireAdoptStart n quire
  | .adoptSend _ quire => .adoptSend n quire
  | .adoptingTimeout _ quire => .adoptingTimeout n quire
  | .badCountTimeout _ quire => .badCountTimeout n quire
  | .leafLost _ leaf => .leafLost n leaf
  | .leafFlipLate _ leaf => .leafFlipLate n leaf
  | .timePacketSend _ quire => .timePacketSend n quire
  | .ptpAnnounce _ src a => .ptpAnnounce n src a
  | .ptpSync _ src k => .ptpSync n src k
  | .ptpDelayResp _ src t4 logInt => .ptpDelayResp n src t4 logInt
  | .delayReqSend _ => .delayReqSend n
  | .announceReceiptTimeout _ master => .announceReceiptTimeout n master
  | .timeSnap _ v => .timeSnap n v
  | .hostStart _ v => .hostStart n v
  | .pCommit _ v => .pCommit n v
  | .generatorStart _ => .generatorStart n
  | .pulseModeWrite _ o v => .pulseModeWrite n o v
  | .pulseTargetCommit _ o v => .pulseTargetCommit n o v
  | .pulseDue _ o => .pulseDue n o
  | .esmcPdu _ m ssm event => .esmcPdu n m ssm event
  | .refqlFrame _ k bytes => .refqlFrame n k bytes
  | .qlTimeout _ c => .qlTimeout n c
  | .candidateWindow _ c signal freq fin => .candidateWindow n c signal freq fin
  | .candidateEligible _ c => .candidateEligible n c
  | .candidateSignalLoss _ c => .candidateSignalLoss n c
  | .tcxoCompensation _ temp => .tcxoCompensation n temp
  | .dramRead _ a e o twinOk => .dramRead n a e o twinOk
  | .dramActivate _ pc bank row => .dramActivate n pc bank row
  | .refreshWindowEnd _ stack => .refreshWindowEnd n stack
  | .eyeCheck _ pc found => .eyeCheck n pc found
  | .scrubRead _ a e o twinOk => .scrubRead n a e o twinOk
  | .trainingTempRecheck _ => .trainingTempRecheck n
  | .migrationDone _ pc => .migrationDone n pc
  | .pcRestore _ v => .pcRestore n v
  | .sramReadError _ macroNo row e user => .sramReadError n macroNo row e user
  | .thermalSample _ r => .thermalSample n r
  | .supplySample _ v k p => .supplySample n v k p
  | .darkRepeat _ => .darkRepeat n
  | .orderlyStopEnd _ => .orderlyStopEnd n
  | .resume _ v => .resume n v
  | .supervisorWatchdog _ => .supervisorWatchdog n
  | .supervisorRestart _ => .supervisorRestart n
  | .calrefRun _ v uv => .calrefRun n v uv
  | .calrefRunDone _ code resid => .calrefRunDone n code resid
  | .unitRestore _ v => .unitRestore n v
  | .engineBringInDone _ e pass => .engineBringInDone n e pass
  | .encoderBringInDone _ pass => .encoderBringInDone n pass
  | .spareRecordWrite _ => .spareRecordWrite n
  | .packageVerifyDone _ => .packageVerifyDone n
  | .activateWriteDone _ readbackOk => .activateWriteDone n readbackOk
  | .activateConditionTimeout _ => .activateConditionTimeout n
  | .warmRestart _ => .warmRestart n
  | .imageConfirm _ => .imageConfirm n
  | .confirmationDeadline _ => .confirmationDeadline n
  | .ownerProgram _ v => .ownerProgram n v
  | .ownerLock _ v => .ownerLock n v
  | .nonceIssue _ => .nonceIssue n
  | .entropyReady _ => .entropyReady n
  | .entropyHealth _ test => .entropyHealth n test
  | .ingestTrace _ => .ingestTrace n
  | .supplyValid _ => .supplyValid n
  | .perstRelease _ => .perstRelease n
  | .perstAssert _ => .perstAssert n
  | .startupStageDone _ st found => .startupStageDone n st found
  | .endpointReady _ => .endpointReady n
  | .prereadyShutdownRestart _ => .prereadyShutdownRestart n
  | .duplicateAddressDetection _ p => .duplicateAddressDetection n p
  | .pcRestoreDone _ pc ok found => .pcRestoreDone n pc ok found
  | .unitRestoreSelftestDone _ pass => .unitRestoreSelftestDone n pass
  | .resumeComplete _ trained auxLost => .resumeComplete n trained auxLost
  | .phaseBuildOutDone _ => .phaseBuildOutDone n

end Sys2Proof
end

