-- ==== Sys2Proof/Safety.lean ====
section
/-! DEFINITION. The terms claims are stated in: what commands leave alone, a fault raised and a completion written, the host commands as forms, and the canonical form of the state's tables. -/

namespace Sys2Proof.Machine

open Sys2Proof

/-- What only a few commands change: the queue, the registration clock, the owner key hash in fuses (R500), and the locked Frisket key (R83). -/
def State.kept (s : State) : List Instr × Nat × Option (BitVec 384) × Bool × BitVec 256 :=
  (s.pending, s.clk, s.upd.owner, s.hif.keyLocked, s.hif.key)

/-- The state without its reports: what the module has sent, the counters and the trace store, the fault collector, and of the host section the completion and record queues, what is kept or lost for them, the pending interrupts, and HIF_ERR. Two states with one body differ in reports alone. -/
def State.body (s : State) : State :=
  { s with
    out := []
    obs := {}
    flt := {}
    hif := { s.hif with cqs := [], kept := [], evqLost := 0, trqLost := 0, err := 0, msixPend := 0 } }

/-- What was kept has been written as far as it can be (R64, R80, R81, R523), and only reports have changed: what is still kept are FINAL completions whose queue has no free entry, and records while EVQ is disabled. -/
def State.flushed (s t : State) : Prop :=
  t.body = s.body ∧
    (s.canWrite = true → ∀ k ∈ t.hif.kept, match k with
      | .cpl c e => e.final = true ∧ t.qFree (16 + c) = 0
      | .rcds _ => s.qEn 32 = false) ∧
    (s.canWrite = false ∨ s.hif.kept = [] → t = s)

/-- The SEQ, the counts, the entries and the severities of the fault collector. -/
def State.faults (s : State) : Word × Tab Nat × Tab Entry × Tab Nat := (s.flt.seq, s.flt.raises, s.flt.entries, s.flt.sev)

/-- A source was raised on an instance: its count of Table 13-12 rose by one, the next SEQ of R446 was given out, and the collector holds an occurrence of the instance with that SEQ. -/
def State.raised (s t : State) (x : Src) (i : Nat) : Prop :=
  tget 0 t.flt.raises x.info.1 = tget 0 s.flt.raises x.info.1 + 1 ∧ t.flt.seq = nextSeq s.flt.seq ∧
    ∃ k, (tget noEntry t.flt.entries k).src = x ∧ ∃ o ∈ (tget noEntry t.flt.entries k).occs, o.inst = i ∧ o.seq = t.flt.seq ∧ o.acked = false

/-- A FINAL completion of completion queue c has been written, or is kept to be written (R64, R80). -/
def State.told (t : State) (c : Nat) (e : Completion) : Prop := (∃ i ph, Output.cqEntry c i ph e ∈ t.out) ∨ Kept.cpl c e ∈ t.hif.kept

/-- How a command on a submission queue is taken: its opcode, queue, slots, whether R553 governs a late TARGET, its GROUP, and its own refusals. -/
structure Form where
  op : Nat
  q : Nat
  desc : Slot
  auth : Slot
  late : Bool
  group : Nat
  own : Item → State → List Refuse

/-- The 22 commands of Table 2-13 as they are taken. -/
def formOf (c : Instr) : Option Form :=
  match c with
  | .layerDefine _ q d a => some ⟨0x0101, q, d, a, true, grpNo d, layerDefineRefusals⟩
  | .layerUpdate _ q d a => some ⟨0x0102, q, d, a, true, grpNo d, updateRefusals⟩
  | .layerRemove _ q d a => some ⟨0x0103, q, d, a, true, grpNo d, removeRefusals⟩
  | .surfaceWrite _ q d a => some ⟨0x0104, q, d, a, true, grpNo d, writeRefusals⟩
  | .fenceSignal _ q d a => some ⟨0x0105, q, d, a, false, 0, fenceRefusals⟩
  | .sceneCommit _ q d a => some ⟨0x0110, q, d, a, true, 0, commitRefusals⟩
  | .streamAdmit _ q d a => some ⟨0x0201, q, d, a, true, 0, admitRefusals⟩
  | .streamRelease _ q d a => some ⟨0x0202, q, d, a, true, 0, releaseRefusals⟩
  | .tableLoad _ q d a => some ⟨0x0301, q, d, a, false, 0, tableLoadRefusals⟩
  | .tableVerify _ q d a => some ⟨0x0302, q, d, a, false, 0, tableVerifyRefusals⟩
  | .dimSet _ q d a => some ⟨0x0303, q, d, a, true, 0, dimSetRefusals⟩
  | .colourReference _ q d a => some ⟨0x0304, q, d, a, true, 0, colourRefusals⟩
  | .leafAdmit _ q d a => some ⟨0x0401, q, d, a, true, 0, leafAdmitRefusals⟩
  | .leafCommand _ q d a => some ⟨0x0402, q, d, a, true, 0, leafCommandRefusals⟩
  | .quireRebalance _ q d a => some ⟨0x0403, q, d, a, true, 0, rebalanceRefusals⟩
  | .leafRetire _ q d a => some ⟨0x0404, q, d, a, true, 0, leafRetireRefusals⟩
  | .pulseRealign _ q d a => some ⟨0x0502, q, d, a, true, 0, realignRefusals⟩
  | .updateBlock _ q d a => some ⟨0x0601, q, d, a, false, 0, blockRefusals⟩
  | .updateActivate _ q d a => some ⟨0x0602, q, d, a, false, 0, activateRefusals⟩
  | .faultAck _ q d a => some ⟨0x0701, q, d, a, false, 0, ackRefusals⟩
  | .saveCalibration _ q d a => some ⟨0x0702, q, d, a, false, 0, saveRefusals⟩
  | .restoreCalibration _ q d a => some ⟨0x0703, q, d, a, false, 0, restoreRefusals⟩
  | _ => none

/-- The sweeper takes the command now (R60, R61). -/
def Form.due (f : Form) (s : State) : Bool := decide (dOp f.desc = f.op) && s.takes f.q

/-- The item the command becomes, and the state in which it is in flight. -/
def Form.item (f : Form) (s : State) : Item := (s.takeItem f.q f.desc f.auth).1
def Form.taken (f : Form) (s : State) : State := (s.takeItem f.q f.desc f.auth).2

/-- The first refusal of the first group of R73 that applies. -/
def Form.refusal (f : Form) (s : State) : Option (Status × Nat) :=
  firstRefusal ((f.taken s).commonRefusals (f.item s) f.late f.group ++ f.own (f.item s) (f.taken s))

/-- The authentication of R85 that is done at take: the DETAIL of a failure, and the state with HIF_FSEQ moved on. -/
def Form.checked (f : Form) (s : State) : Option Nat × State :=
  if f.q = 15 ∧ (dLen f.desc = 0 ∨ dOp f.desc ≠ 0x0104) then (f.taken s).authenticate (f.item s) [] else (none, f.taken s)

/-- The command taken and checked is in flight as i, behind those taken before; nothing else has happened since. -/
def Form.inFlight (f : Form) (s : State) (i : Item) : State := { (f.checked s).2 with hif := { (f.checked s).2.hif with items := s.hif.items ++ [i] } }

/-- The command is taken and not refused. -/
def Form.accepted (f : Form) (s : State) : Prop := f.due s = true ∧ f.refusal s = none ∧ (f.checked s).1 = none

/-- No command in flight bears the number the next one gets. -/
def State.freshId (s : State) : Prop := ∀ x ∈ s.hif.items, x.id ≠ s.nextItem

/-- The queue, the clock and the enrolled owner key hash. -/
def State.core (s : State) : List Instr × Nat × Option (BitVec 384) := (s.pending, s.clk, s.upd.owner)

/-- The queue and the clock stand, and an enrolled owner key hash stays. -/
def State.grows (s t : State) : Prop :=
  t.pending = s.pending ∧ t.clk = s.clk ∧ ∀ h, s.upd.owner = some h → t.upd.owner = some h

/-- A locked Frisket key stays locked and the same (R83). -/
def State.keepsKey (s t : State) : Prop := s.hif.keyLocked = true → t.hif.keyLocked = true ∧ t.hif.key = s.hif.key

/-- Registers that only store what is written: INTERVAL, the window registers, the IRQ registers, SLG_CTRL, SLG_POOL, OBS_TRACE_CTRL and OBS_CNT_SEL. -/
def plainRegs : List Nat :=
  [0x018, 0x5004, 0x5008, 0xF004, 0xF010] ++ (List.range 36).map (fun k => 0x100 + 4 * k) ++ (List.range 18).map (fun k => 0x30C + 16 * k)

/-- Every table of the state that a command reads back is in its canonical form: keys rising, no entry equal to its default. -/
def State.tablesOk (s : State) : Bool :=
  tabWf rwReset s.regs && tabWf (fun _ => (0 : Word)) s.shadows && tabWf (fun _ => ({} : Sq)) s.hif.sqs && tabWf (fun _ => ({} : Cq)) s.hif.cqs &&
    tabWf (fun _ => ({} : Port)) s.ing.ports && tabWf (fun _ => ({} : Stream)) s.ing.streams && tabWf (fun _ => ({} : Leaf)) s.leaves && tabWf laneDflt s.lanes &&
    tabWf (fun _ => ({} : Quire)) s.quires && tabWf (fun _ => ({} : RefEntry)) s.slg.refs && tabWf (fun _ => ({} : Pout)) s.tim.pouts && tabWf (fun _ => ({} : Cand)) s.refs.cands &&
    tabWf unitDflt s.cal.units && tabWf msixDflt s.hif.msixTab && tabWf (fun _ => (0 : DWord)) s.obs.cnt

/-- Commands in flight have different numbers, all of them given out already. -/
def State.itemsOk (s : State) : Bool := (s.hif.items.all fun x => decide (x.id < s.nextItem)) && decide (s.hif.items.map (·.id)).Nodup

/-- No two slugs held have the same leaf, place, impression and generation. -/
def State.slugsOk (s : State) : Bool := decide (s.slg.slugs.map fun x => (x.leaf, x.slug, x.imp, x.gen)).Nodup

/-- The form every state of a run has: canonical tables, and commands and slugs that their names tell apart. -/
def State.wellFormed (s : State) : Prop := s.tablesOk = true ∧ s.itemsOk = true ∧ s.slugsOk = true

end Sys2Proof.Machine
end

