-- ==== Sys2Proof/Certificates/Slice0/Obligations.lean ====
section
/-! DEFINITION. The statements for the provers. -/

open Sys2Proof Sys2Proof.Machine


/-- The interface of the block (log entry 18): a step takes the command at the front of the queue and runs it on the state with the rest of the queue; with an empty queue it idles, which is the model's choice. -/
def Obligations.StepRunsFront : Prop :=
  (∀ (c : Instr) (rest : List Instr) (s : State), s.pending = c :: rest → step s = exec c (s.withPending rest)) ∧
  (∀ (c : Instr) (s : State), step (s.withPending (c :: s.pending)) = exec c s) ∧ (∀ s : State, s.pending = [] → step s = .next s)

/-- The state after reset: nothing waits, nothing has been sent, no command is in flight, memory holds no allocation, the host link is down, the supervisor does not run, READY is 0 and every table of registers reads its reset value (R7, R519; the values log entries 3 and 6 name are the model's). -/
def Obligations.ResetState : Prop :=
  State.reset.pending = [] ∧ State.reset.out = [] ∧ State.reset.hif.items = [] ∧ State.reset.mem.allocs = [] ∧ State.reset.hif.ready = false ∧ State.reset.hif.linkUp = false ∧ State.reset.hif.busMaster = false ∧ State.reset.sys.endpoint = false ∧ State.reset.sys.stage = 0 ∧ State.reset.sys.supRun = false ∧
    State.reset.imp.counter = 0 ∧ State.reset.tim.valid = false ∧ State.reset.tim.genRun = false ∧ State.reset.hif.keyLocked = false ∧ State.reset.upd.owner = none ∧
    (∀ o, State.reset.reg o = rwReset o) ∧ (∀ k < 34, State.reset.qEn k = false) ∧ (∀ q < 16, (State.reset.quire q).st = .off) ∧ (∀ k < 64, (State.reset.stream k).st = .free) ∧
    State.reset.wellFormed ∧ step State.reset = .next State.reset

/-- R376, and log entry 2 for the registration clock: between two commands, module time runs at the rate of TIM_RATE over the registration clock, whose remainder is kept, and nothing but both clocks and the trace waiting for a new nanosecond changes; with RATE 0 it runs as the clock does. The clock never runs back, nor does module time while RATE is above -2^40. -/
def Obligations.TimeElapses : Prop :=
  ∀ (dt : Nat) (s : State),
    let e := s.elapse dt
    e.clk = s.clk + dt ∧ ((0 : Int) ≤ (dt : Int) * (2 ^ 40 + s.tim.rate) + s.tim.resid → ((e.tim.time - s.tim.time : Nat) : Int) * 2 ^ 40 + e.tim.resid = (dt : Int) * (2 ^ 40 + s.tim.rate) + s.tim.resid ∧ e.tim.resid < 2 ^ 40) ∧
      s.tim.time ≤ e.tim.time ∧ (s.tim.rate = 0 → s.tim.resid < 2 ^ 40 → e.tim.time = s.tim.time + dt ∧ e.tim.resid = s.tim.resid) ∧
      e.body = ({ s with clk := e.clk, tim := { s.tim with time := e.tim.time, resid := e.tim.resid } } : State).body ∧ e.faults = s.faults

/-- R446, R447, R448 and Table 13-12, for a source raised on an instance: SEQ rises by one past 0, the source's count by one, and its collector entry gains one occurrence, outstanding, with that SEQ and at a level no lower than the source's severity; no other entry changes. Nothing but reports follows from it. -/
def Obligations.SourceRaised : Prop :=
  ∀ (x : Src) (i : Nat) (det : List Nat) (cond : Bool) (s : State),
    let t := s.raise x i det cond
    let k := (s.entryFor x i).1
    s.raised t x i ∧ (∀ j, j ≠ k → tget noEntry t.flt.entries j = tget noEntry s.flt.entries j) ∧ (∀ j, j ≠ x.info.1 → tget 0 t.flt.raises j = tget 0 s.flt.raises j) ∧
      (∃ o, (tget noEntry t.flt.entries k).occs = (tget noEntry s.flt.entries k).occs ++ [o] ∧ o.inst = i ∧ o.acked = false ∧ o.seq = t.flt.seq ∧ s.severity x ≤ o.level) ∧
      (∀ y, t.severity y = s.severity y) ∧ t.body = s.body

/-- R500 and the interface, over every command: what a command does never adds to or takes from the queue, moves the registration clock by the command's own DT alone, and never changes or removes an enrolled owner key hash, module resets included; so a step takes exactly the front command from the queue. -/
def Obligations.EveryCommandKeeps : Prop :=
  (∀ (c : Instr) (s t : State), exec c s = .next t → t.pending = s.pending ∧ t.clk = s.clk + c.dt ∧ ∀ h, s.upd.owner = some h → t.upd.owner = some h) ∧
  (∀ (s t : State), step s = .next t → t.pending = s.pending.tail ∧ s.clk ≤ t.clk ∧ ∀ h, s.upd.owner = some h → t.upd.owner = some h)

/-- R83, over every command: once the Frisket key is locked, its lock and its words stay through every command but those that may end in a reset of the module (PERST_ASSERT, WARM_RESTART, CONFIRMATION_DEADLINE, SUPPLY_SAMPLE), after which the key is locked as before or the host section is as after reset. -/
def Obligations.LockedKeyStays : Prop :=
  ∀ (c : Instr) (s t : State), exec c s = .next t → s.hif.keyLocked = true →
    t.hif.keyLocked = true ∧ t.hif.key = s.hif.key ∨ t.hif = State.reset.hif ∧ ∃ dt, c = .perstAssert dt ∨ c = .warmRestart dt ∨ c = .confirmationDeadline dt ∨ ∃ v i p, c = .supplySample dt v i p

/-- Over every command: in a state whose tables are in their canonical form, whose commands in flight have different numbers below the next one, and whose slugs no two share a name, every command leaves such a state, and so does every step. The premises on tables, item numbers and slugs of the other statements are this form. -/
def Obligations.FormStays : Prop :=
  (∀ (c : Instr) (s t : State), exec c s = .next t → s.wellFormed → t.wellFormed) ∧ (∀ (s t : State), step s = .next t → s.wellFormed → t.wellFormed)

/-- R50, R523 and Table 2-3, for HIF_ENABLE and HIF_QUIESCE once READY is set. A write that asks for ENABLE while it is 0 sets it when one enabled window grants READ over the whole doorbell page: the next sweep starts at once and what was kept is written; it is refused with EN_REFUSED otherwise. Every other write of HIF_CTRL stores its two bits. R50, R51, R49 and R523: enabling queue k of Table 13-3. With LOG2_SIZE from 4 to 16 and the whole ring in one enabled window that grants READ to a submission queue or WRITE to another, EN reads 1, both indices of the queue are 0, and what was kept for the queues the module writes is written; without them EN reads 0 and EN_REFUSED is set. Any other write of the register stores EN and, unless the queue is enabled, the rest. -/
def Obligations.HostAndQueuesEnabled : Prop :=
  (∀ (dt : Nat) (v : Word) (s : State), (s.elapse dt).hif.ready = true →
     let e := s.elapse dt
     let page := bits (e.reg 0x010) 12 20 * 4096 + (e.reg 0x014).toNat * 2 ^ 32
     (bit v 0 = true → e.regBit 0x00C 0 = false → e.bufOk page 4096 true false = true →
       (∃ t, exec (.hifEnable dt v) s = .next t ∧
         (t.regBit 0x00C 0 = true ∧ t.regBit 0x00C 1 = bit v 1 ∧
           ({ e with regs := tput 0 e.regs 0x00C (pack [(0, 1), (1, b2n (bit v 1))]), hif := { e.hif with linkLost := false, sweepAt := e.clk } } : State).flushed t))) ∧
     (bit v 0 = true → e.regBit 0x00C 0 = false → e.bufOk page 4096 true false = false →
       (∃ t, exec (.hifEnable dt v) s = .next t ∧
         (bit t.hif.err 7 = true ∧ t = { e with regs := t.regs, hif := { e.hif with err := t.hif.err } } ∧ t.regs = tput 0 e.regs 0x00C (pack [(1, b2n (bit v 1))])))) ∧
     (bit v 0 = false ∨ e.regBit 0x00C 0 = true →
       exec (.hifQuiesce dt v) s = .next { e with regs := tput 0 e.regs 0x00C (pack [(0, b2n (bit v 0)), (1, b2n (bit v 1))]) })) ∧
  (∀ (dt k : Nat) (v : Word) (s : State), k ≤ 33 →
     let e := s.elapse dt
     let ask := e.qEn k = false ∧ bit v 0 = true
     let ok := 4 ≤ bits v 1 5 ∧ bits v 1 5 ≤ 16 ∧ e.ringOk k (2 ^ bits v 1 5 * entryBytes k) (decide (k < 16)) (decide (16 ≤ k)) = true
     let ctrl := tput (rwReset (qBase k + 8)) e.regs (qBase k + 8) (pack ([(0, 1), (1, bits v 1 5)] ++ if k < 16 then [(6, bits v 6 2), (8, bits v 8 4)] else []))
     (ask → ok → k < 16 → (∃ t, exec (.queueEnable dt k v) s = .next t ∧
       (t.qEn k = true ∧ t = { e with regs := ctrl, hif := { e.hif with sqs := tput {} e.hif.sqs k {} } }))) ∧
     (ask → ok → 16 ≤ k → (∃ t, exec (.queueEnable dt k v) s = .next t ∧
       (t.qEn k = true ∧ (e.hif.kept = [] → tabWf (fun _ => ({} : Cq)) e.hif.cqs = true → t.cq k = { lostNew := (e.cq k).lostNew }) ∧
         ({ e with regs := ctrl, hif := { e.hif with cqs := tput {} e.hif.cqs k { lostNew := (e.cq k).lostNew }, evqOnce := e.hif.evqOnce || decide (k = 32) } } : State).flushed t))) ∧
     (ask → ¬ok → (∃ t, exec (.queueEnable dt k v) s = .next t ∧
       (bit t.hif.err 7 = true ∧ (tabWf rwReset e.regs = true → t.qEn k = false) ∧ t = { e with regs := t.regs, hif := { e.hif with err := t.hif.err } } ∧ ∀ o, o ≠ qBase k + 8 → t.reg o = e.reg o))) ∧
     (¬ask → exec (.queueEnable dt k v) s = .next { e with regs := tput (rwReset (qBase k + 8)) e.regs (qBase k + 8) (pack ([(0, b2n (bit v 0)), (1, if e.qEn k = true then e.regBits (qBase k + 8) 1 5 else bits v 1 5)] ++ if k < 16 then [(6, bits v 6 2), (8, bits v 8 4)] else [])) }))

/-- R44, R80 and R521: a loss of the host link, whatever its cause, raises HIF_LINK_DOWN, sets LINK_LOST and discards the trace; everything else, the scene with it, stays. When the link returns, once the endpoint is up, bus mastering and MSI-X are as the host set them and the next sweep starts at once; with bus mastering and ENABLE the EVQ records kept are written or counted as lost. R53: the window registers come into force together, when COMMIT is written, or once no operation in flight would be left outside them; until then they wait. Nothing but the windows changes, and what was kept for a ring they now take in is written. -/
def Obligations.LinkAndWindows : Prop :=
  ((∀ (dt : Nat) (c : LinkLossCause) (s : State), (s.elapse dt).hif.linkUp = true →
     let e := s.elapse dt
     (∃ t, exec (.hostLinkLoss dt c) s = .next t ∧
       (e.raised t .hifLinkDown 0 ∧ bit t.hif.err 6 = true ∧ t.obs.store = [] ∧ t.body = ({ e with hif := { e.hif with linkUp := false, linkLost := true } } : State).body))) ∧
   (∀ (dt : Nat) (bm msix : Bool) (s : State), (s.elapse dt).sys.endpoint = true →
     let e := s.elapse dt
     (∃ t, exec (.hostLinkReturn dt ⟨bm, msix⟩) s = .next t ∧
       (t.body = ({ e with hif := { e.hif with linkUp := true, busMaster := bm, msixEn := msix, sweepAt := e.clk } } : State).body ∧
         (bm = true → e.regBit 0x00C 0 = true → e.sys.supRun = true → e.hif.evqOnce = true → e.qEn 32 = true → ∀ l, Kept.rcds l ∉ t.hif.kept)))) ∧
   (∀ (dt : Nat) (bm msix : Bool) (s : State), (s.elapse dt).sys.endpoint = false → exec (.hostLinkReturn dt ⟨bm, msix⟩) s = .next (s.elapse dt))) ∧
  (∀ (dt : Nat) (v : Word) (s : State),
     let e := s.elapse dt
     (bit v 0 = true → e.inFlightOk e.winRegs = true → (∃ t, exec (.windowCommit dt v) s = .next t ∧
       (t.hif.wins = e.winRegs ∧ ({ e with hif := { e.hif with wins := e.winRegs, winPend := none } } : State).flushed t))) ∧
     (bit v 0 = true → e.inFlightOk e.winRegs = false → exec (.windowCommit dt v) s = .next { e with hif := { e.hif with winPend := some e.winRegs } }) ∧
     (bit v 0 = false → exec (.windowCommit dt v) s = .next e) ∧
     (∀ ws, e.hif.winPend = some ws → e.inFlightOk ws = true → (∃ t, exec (.windowCommitApply dt) s = .next t ∧
       (t.hif.wins = ws ∧ ({ e with hif := { e.hif with wins := ws, winPend := none } } : State).flushed t))) ∧
     (∀ ws, e.hif.winPend = some ws → e.inFlightOk ws = false → exec (.windowCommitApply dt) s = .next e) ∧
     (e.hif.winPend = none → exec (.windowCommitApply dt) s = .next e))

/-- R83: a write with LOCK = 1 locks the key words when their CRC-32C matches, and discards them with KEY_ERR when it does not; a write with LOCK = 0 changes nothing; once the key is locked, writes of its registers, as commands or as plain register writes, change nothing. -/
def Obligations.FrisketKeyLock : Prop :=
  (∀ (dt : Nat) (v : Word) (s : State), (s.elapse dt).hif.keyLocked = false → bit v 0 = true →
    let e := s.elapse dt
    (crc32c e.keyBytes = e.hif.keyCheck → exec (.fkeyLock dt v) s = .next { e with hif := { e.hif with keyLocked := true, keyErr := false, key := e.hif.keyWords } }) ∧
    (crc32c e.keyBytes ≠ e.hif.keyCheck → exec (.fkeyLock dt v) s = .next { e with hif := { e.hif with keyErr := true, keyWords := 0 } })) ∧
  (∀ (dt : Nat) (v : Word) (s : State), bit v 0 = false → exec (.fkeyLock dt v) s = .next (s.elapse dt)) ∧
  (∀ (dt off : Nat) (v : Word) (s : State), (s.elapse dt).hif.keyLocked = true → 0x040 ≤ off → off ≤ 0x064 → off % 4 = 0 →
    exec (.registerWrite dt off 4 v) s = .next (s.elapse dt) ∧ exec (.fkeyLock dt v) s = .next (s.elapse dt))

/-- R46: a write that is not an aligned 32-bit access, or of an offset no register occupies, or of a register software does not write, changes nothing; a read that is not an aligned 32-bit access, or of an offset no register occupies, returns 0. -/
def Obligations.Bar0Accesses : Prop :=
  (∀ (dt off size : Nat) (v : Word) (s : State), size ≠ 4 ∨ off % 4 ≠ 0 → exec (.registerWrite dt off size v) s = .next (s.elapse dt)) ∧
  (∀ (dt off size : Nat) (v : Word) (s : State), off < 65536 → regAccess off = none ∨ regAccess off = some .ro ∨ regAccess off = some .rol ∨ regAccess off = some .part →
    exec (.registerWrite dt off size v) s = .next (s.elapse dt)) ∧
  (∀ (dt off size : Nat) (s : State), size ≠ 4 ∨ off % 4 ≠ 0 → exec (.rolRead dt ⟨off, size⟩) s = .next { s.elapse dt with rdata := 0 }) ∧
  (∀ (dt off : Nat) (s : State), off < 65536 → off % 4 = 0 → regAccess off = none → exec (.rolRead dt ⟨off, 4⟩) s = .next { s.elapse dt with rdata := 0 })

/-- R7, R8, R48 and Table 7-7, for REGISTER_WRITE and ROL_READ on registers that only store: a write changes the implemented bits of that register alone, cut to its range, and every other register and all else stays; a later read returns what the write stored and changes nothing but the data returned. R511 for IMP_COUNT and its partners: a read of the low part returns it and latches the high part and the flip time of the same instant; a read of a partner, however much later, returns what was latched, and neither changes anything but the data returned and the latches. R2, R41, R45 and R80, in the numbering of log entry 29, whose layout inside the words is PCI Express's and the model's: a write of a word of the MSI-X table of BAR2 stores it without its reserved bits and sends what is pending on a vector it unmasks; a later read returns it. Once the endpoint is up, configuration space shows the identity and the class code of the manual and whether the module masters the bus; before that it reads 0. -/
def Obligations.RegistersStoreAndRead : Prop :=
  (∀ (dt off : Nat) (v : Word) (s : State), off ∈ plainRegs → regAccess off = some .rw →
     let e := s.elapse dt
     let w := regClamp off ((e.reg off &&& ~~~(rwMask off)) ||| (v &&& rwMask off))
     (∃ t, exec (.registerWrite dt off 4 v) s = .next t ∧
       (t = { e with regs := tput (rwReset off) e.regs off w } ∧ (∀ o, o ≠ off → t.reg o = e.reg o) ∧
         (tabWf rwReset e.regs = true → t.reg off = w ∧ exec (.rolRead 0 ⟨off, 4⟩) t = .next { t.elapse 0 with rdata := w })))) ∧
  ((∀ (dt : Nat) (s : State), tabWf (fun _ => (0 : Word)) (s.elapse dt).shadows = true →
     let e := s.elapse dt
     (∃ t, exec (.rolRead dt ⟨0x4010, 4⟩) s = .next t ∧
       (t = { e with rdata := loW e.imp.counter, shadows := t.shadows } ∧ tget 0 t.shadows 0x4014 = hiW e.imp.counter ∧
         tget 0 t.shadows 0x4018 = loW (e.imp.flip / 1000000000) ∧ tget 0 t.shadows 0x401C = hiW (e.imp.flip / 1000000000) ∧ tget 0 t.shadows 0x4020 = loW (e.imp.flip % 1000000000)))) ∧
   (∀ (dt off : Nat) (s : State), off < 65536 → off % 4 = 0 → regAccess off = some .part →
     exec (.rolRead dt ⟨off, 4⟩) s = .next { s.elapse dt with rdata := tget 0 (s.elapse dt).shadows off })) ∧
  ((∀ (dt i : Nat) (v : Word) (s : State), i < 128 →
     let e := s.elapse dt
     let w := v &&& (if i % 4 = 0 then 0xFFFFFFFC else if i % 4 = 3 then 1 else 0xFFFFFFFF)
     (∃ t, exec (.registerWrite dt (0x10000 + 4 * i) 4 v) s = .next t ∧
       (t.body = ({ e with hif := { e.hif with msixTab := tput (msixDflt i) e.hif.msixTab i w } } : State).body ∧
         (∀ k < 32, bit t.hif.msixPend k = (bit e.hif.msixPend k && !t.vectorOpen k)) ∧
         (tabWf msixDflt e.hif.msixTab = true → exec (.rolRead 0 ⟨0x10000 + 4 * i, 4⟩) t = .next { t.elapse 0 with rdata := w })))) ∧
   (∀ (dt : Nat) (s : State),
     let e := s.elapse dt
     let cfg (off : Nat) (d : Word) : Prop := exec (.rolRead dt ⟨0x12000 + off, 4⟩) s = .next { e with rdata := if e.sys.endpoint = true then d else 0 }
     cfg 0x00 (pack [(0, Config.vendorId.toNat), (16, 0x0648)]) ∧ cfg 0x04 (pack [(2, b2n e.hif.busMaster)]) ∧ cfg 0x08 (pack [(0, 0xB1), (16, 0x0380)]) ∧
       cfg 0x2C (pack [(0, Config.vendorId.toNat), (16, 0x0648)])))

/-- R46 to R63, R274, R395 and the register tables of every chapter: a 32-bit write of a register whose write acts on the module is the command of that register, with its effect and no other; UPD_NONCE_LO is read as NONCE_ISSUE reads it. -/
def Obligations.RegisterWriteIsCommand : Prop :=
  ∀ (dt : Nat) (v : Word) (s : State),
    let w (off : Nat) := exec (.registerWrite dt off 4 v) s
    w 0x00C = exec (.hifEnable dt v) s ∧ w 0x00C = exec (.hifQuiesce dt v) s ∧ w 0x020 = exec (.windowCommit dt v) s ∧ w 0x064 = exec (.fkeyLock dt v) s ∧
    (∀ k ≤ 33, w (qBase k + 8) = exec (.queueEnable dt k v) s) ∧
    (∀ m < 8, w (0x1020 + 4 * m) = exec (.macEnable dt m v) s) ∧ (∀ p < 32, w (0x1800 + 64 * p) = exec (.portEnable dt p v) s) ∧
    w 0x200C = exec (.soffsetWrite dt v) s ∧ w 0x2014 = exec (.toneMapCommit dt v) s ∧ w 0x3080 = exec (.lmpLeafSelect dt v) s ∧
    w 0x4004 = exec (.liveWrite dt v) s ∧ w 0x4008 = exec (.impCommit dt v) s ∧
    (∀ q < 16, w (0x6040 + 4 * q) = exec (.quadEnable dt q v) s ∧ w (0x6080 + 4 * q) = exec (.quireEnable dt q v) s) ∧
    w 0x60CC = exec (.eqEntryWrite dt v) s ∧ (∀ i < 80, w (0x6400 + 32 * i) = exec (.laneLoopWrite dt i v) s ∧ w (0x6400 + 32 * i) = exec (.laneRestore dt i v) s) ∧
    w 0x800C = exec (.timeSnap dt v) s ∧ w 0x8028 = exec (.hostStart dt v) s ∧ w 0x805C = exec (.pCommit dt v) s ∧
    (∀ o < 4, w (0x8300 + 32 * o) = exec (.pulseModeWrite dt o v) s ∧ w (0x8310 + 32 * o) = exec (.pulseTargetCommit dt o v) s) ∧
    w 0xA098 = exec (.pcRestore dt v) s ∧ w 0xC004 = exec (.resume dt v) s ∧ w 0xD0C8 = exec (.unitRestore dt v) s ∧
    w 0xE074 = exec (.ownerProgram dt v) s ∧ w 0xE074 = exec (.ownerLock dt v) s ∧ exec (.rolRead dt ⟨0xE028, 4⟩) s = exec (.nonceIssue dt) s

/-- R5, R60, R63, R64 and R68: a sweep that is due reads the indices of the doorbell page, little-endian words 0 to 15 for the submission queues and 16 to 33 for the others. The index of an enabled queue that has no error comes into force when it lies below the ring size, and halts its queue with INDEX_ERR when it does not; other queues keep theirs. The next sweep starts one interval later. Beside the queues' indices, only what R49, R60 and R70 give a sweep and the waiting fenced writes changes. R60, R80 and R81: a sweep that is not due changes nothing. -/
def Obligations.SweepsOfTheDoorbellPage : Prop :=
  (∀ (dt : Nat) (page : List Byte) (fences : List (Nat × List Byte)) (s : State), (s.elapse dt).sweepDue = true →
     tabWf (fun _ => ({} : Sq)) (s.elapse dt).hif.sqs = true →
     let e := s.elapse dt
     let ix (n : Nat) : Nat := leNat ((page.drop (4 * n)).take 4)
     (∃ t, exec (.sweep dt page fences) s = .next t ∧
       (t.hif.sweepAt = e.clk + usU / 4 * e.regBits 0x018 0 9 ∧ t.hif.sweepPos = 0 ∧
       (∀ n < 16, e.qEn n = true → (e.sq n).err = false → ix n < e.qSize n → t.sq n = { e.sq n with pi := ix n }) ∧
       (∀ n < 16, e.qEn n = true → (e.sq n).err = false → e.qSize n ≤ ix n → t.sq n = { e.sq n with err := true } ∧ bit t.hif.err 2 = true) ∧
       (∀ n, (n < 16 → e.qEn n = false ∨ (e.sq n).err = true) → t.sq n = e.sq n) ∧
       (∀ k, 16 ≤ k → k ≤ 33 → tabWf (fun _ => ({} : Cq)) e.hif.cqs = true → e.qEn k = true → (e.cq k).halted = false →
         (ix k < e.qSize k → (t.cq k).ci = ix k ∧ (t.cq k).halted = false) ∧ (e.qSize k ≤ ix k → (t.cq k).halted = true ∧ (t.cq k).ci = (e.cq k).ci)) ∧
       t.body = ({ e with
         hif := { e.hif with sweepAt := t.hif.sweepAt, sweepPos := 0, sqs := t.hif.sqs, force := t.hif.force, items := t.hif.items }
         cmp := { e.cmp with fenceRead := t.cmp.fenceRead, fenceLast := t.cmp.fenceLast } } : State).body))) ∧
  (∀ (dt : Nat) (page : List Byte) (fences : List (Nat × List Byte)) (s : State), (s.elapse dt).sweepDue = false → exec (.sweep dt page fences) s = .next (s.elapse dt))

/-- R62: a doorbell read that overran its bound raises HIF_DOORBELL_STALL, sets DB_STALL, and the next sweep starts from fresh; before that bound nothing happens. R45 and R79, the time trigger of queue k: with IE set and HOLDOFF above 0 and elapsed since the first entry not yet signalled, one message on the queue's vector, as its MSI-X table entry says, or its pending bit while the vector is masked, and nothing left to signal. R67: when room has returned on EVQ or TRQ, its overflow record gives the number lost, at the producer index, and nothing is left to tell. R5, R7, R67, R76, R455 and Tables 2-11, 13-5 and 16-2: a completion is written as 32 bytes, an EVQ record as 64 and a TRQ record as 32, each field little-endian at its place and reserved bytes 0; PHASE is bit 0 of the last 16-bit word, and an entry begins at its queue's base and its place in the ring. -/
def Obligations.StallsHoldoffsOverflows : Prop :=
  (∀ (dt : Nat) (s : State),
     let e := s.elapse dt
     (e.stallDue = true → (∃ t, exec (.doorbellStall dt) s = .next t ∧
       (e.raised t .hifDoorbellStall 0 ∧ bit t.hif.err 1 = true ∧ t.body = ({ e with hif := { e.hif with sweepAt := e.clk } } : State).body))) ∧
     (e.clk < e.hif.sweepAt + max (8 * e.sweepInterval) (50 * usU) → exec (.doorbellStall dt) s = .next e)) ∧
  (∀ (dt k : Nat) (s : State), (s.elapse dt).holdoffDue k = true →
     let e := s.elapse dt
     let v := bits (e.irq k) 0 5
     (∃ t, exec (.holdoffExpiry dt k) s = .next t ∧
       ((e.vectorOpen v = true → t.out = .msix v ((e.msixWord (4 * v + 1)).append (e.msixWord (4 * v))) (e.msixWord (4 * v + 2)) :: e.out ∧ t.hif = { e.hif with cqs := t.hif.cqs }) ∧
       (e.vectorOpen v = false → t.out = e.out ∧ bit t.hif.msixPend v = true ∧ t.hif = { e.hif with cqs := t.hif.cqs, msixPend := t.hif.msixPend }) ∧
       t.flt = e.flt ∧ t.body = e.body ∧ (tabWf (fun _ => ({} : Cq)) e.hif.cqs = true → t.cq k = { e.cq k with unsig := 0, firstAt := none })))) ∧
  (∀ (dt : Nat) (s : State), (s.elapse dt).canWrite = true → tabWf (fun _ => ({} : Cq)) (s.elapse dt).hif.cqs = true →
     let e := s.elapse dt
     (0 < (e.cq 32).lostNew → 0 < e.qFree 32 → (∃ t, exec (.overflowRecordWrite dt 32) s = .next t ∧
       (.evqEntry (e.cq 32).pi (e.cq 32).phase (.overflow (e.cq 32).lostNew) ∈ t.out ∧ (t.cq 32).lostNew = 0 ∧ t.body = e.body ∧ t.hif.evqLost = e.hif.evqLost))) ∧
     (0 < (e.cq 33).lostNew → 0 < e.qFree 33 → (∃ t, exec (.overflowRecordWrite dt 33) s = .next t ∧
       (.trqEntry (e.cq 33).pi (e.cq 33).phase none (e.cq 33).lostNew ∈ t.out ∧ (t.cq 33).lostNew = 0 ∧ t.body = e.body ∧ t.hif.trqLost = e.hif.trqLost)))) ∧
  ((∀ (c : Completion) (ph : Bool),
     let b := c.bytes ph
     b.length = 32 ∧ at_ b 0 4 = c.tag.toNat ∧ at_ b 4 1 = c.sq % 256 ∧ at_ b 5 1 = 0 ∧ at_ b 6 2 = c.slot % 65536 ∧ at_ b 8 2 = c.opcode.toNat ∧ at_ b 10 2 = c.status.code ∧ at_ b 12 4 = c.detail.toNat ∧
       at_ b 16 8 = c.imp.toNat ∧ at_ b 24 4 = c.result.toNat ∧ at_ b 28 2 = 0 ∧ at_ b 30 2 = b2n ph + 2 ^ 13 * b2n c.clamped + 2 ^ 14 * b2n c.unknown + 2 ^ 15 * b2n c.final) ∧
   (∀ (r : Rec) (ph : Bool), (r.bytes ph).length = 64 ∧ at_ (r.bytes ph) 62 2 = b2n ph ∧
     at_ (r.bytes ph) 0 2 = (match r with | .fault .. => 1 | .summary .. => 2 | .quire .. => 3 | .overflow .. => 4) ∧ (r.bytes (!ph)).take 62 = (r.bytes ph).take 62) ∧
   (∀ (src : Src) (inst level flags cnt imp time : Nat) (seq : Word) (det : List Word) (ph : Bool),
     let b := Rec.bytes (.fault src inst level flags seq cnt imp time det) ph
     at_ b 2 2 = src.info.1 % 65536 ∧ at_ b 4 2 = inst % 65536 ∧ at_ b 6 1 = level % 256 ∧ at_ b 8 4 = seq.toNat ∧ at_ b 12 4 = cnt % 2 ^ 32 ∧ at_ b 16 8 = imp % 2 ^ 64 ∧
       at_ b 24 8 = time / 1000000000 % 2 ^ 64 ∧ at_ b 32 4 = time % 1000000000 ∧ ∀ k < 6, at_ b (36 + 4 * k) 4 = (nthD 0 det k).toNat) ∧
   (∀ (t : Option Trace) (lost : Nat) (ph : Bool), (trqBytes t lost ph).length = 32 ∧ at_ (trqBytes t lost ph) 30 2 = b2n ph ∧ (t = none → at_ (trqBytes t lost ph) 0 2 = 1 ∧ at_ (trqBytes t lost ph) 16 4 = lost % 2 ^ 32)) ∧
   (∀ (s : State) (q i : Nat) (ph : Bool) (c : Completion), q < 16 → s.hostWrite (.cqEntry q i ph c) = some (s.entryAddr (16 + q) 0 + 32 * i, c.bytes ph)) ∧
   (∀ (s : State) (i : Nat) (ph : Bool) (r : Rec), s.hostWrite (.evqEntry i ph r) = some (s.entryAddr 32 0 + 64 * i, r.bytes ph)))

/-- R55, R73, R85, R125, R140, R178, R335, R478, R490 to R492 and R503: what the end of a buffer's read does. A buffer that cannot be read refuses its command with REFUSED_BOUNDS 1 and sets BOUNDS; on SQ15 a tag or sequence that fails refuses it with REFUSED_AUTH. Read, a surface.write becomes a version of its surface, or waits for one, a table goes on to its checks, a leaf.command with data waits to land, a package block is placed in its granules and completes the package or is DONE, a first block discards the package before, a token consumes the nonce, and a calibration image is applied to land or refused. An event that names no buffer being read, or not the first of its queue, or gives the wrong length, changes nothing. -/
def Obligations.BufferRead : Prop :=
  ∀ (dt id : Nat) (s : State),
    let e := s.elapse dt
    (∀ i, e.item? id = some i → i.phase = .staging → e.stagesNext i = true → (∃ t, exec (.bufferStaged dt id none) s = .next t ∧
      (t.told i.cq (i.completion .refusedBounds 1 0 0 false) ∧ bit t.hif.err 0 = true ∧ ∀ x ∈ t.hif.items, x.id ≠ id))) ∧
    (∀ i buf, e.item? id = some i → i.phase = .staging → e.stagesNext i = true → e.hif.linkUp = true → buf.length = dLen i.desc →
      let plain := i.sq ≠ 15 ∨ dLen i.desc = 0
      let ended (st : Status) (det res : Nat) (t : State) : Prop := t.told i.cq (i.completion st det 0 res false) ∧ ∀ x ∈ t.hif.items, x.id ≠ id
      let waits (p : Phase) : State := { e with hif := { e.hif with items := e.hif.items.map fun x => if x.id = id then { x with buf := buf, phase := p } else x } }
      (i.sq = 15 → dLen i.desc ≠ 0 → (∃ t, exec (.bufferStaged dt id (some buf)) s = .next t ∧ (match (e.authenticate i buf).1 with
        | some det => t.told i.cq (i.completion .refusedAuth det 0 0 false)
        | none => t.hif.fseq = BitVec.ofNat 64 (fld i.auth 0 8)))) ∧
      (plain → i.opcode = 0x0104 → e.waitsAhead i = true ∨ e.makeRoom i = none → exec (.bufferStaged dt id (some buf)) s = .next (waits .waiting)) ∧
      (plain → i.opcode = 0x0104 → e.waitsAhead i = false → (e.makeRoom i).isSome = true → (∃ t, exec (.bufferStaged dt id (some buf)) s = .next t ∧
        (∃ v ∈ (t.layer (lyrKey i.desc)).vers, v.item = id ∧ v.stagedAt = e.tim.time ∧ v.rect = (wrX i.desc, wrY i.desc, wrW i.desc, wrH i.desc) ∧ v.own = ownWords i.desc buf))) ∧
      (plain → i.opcode = 0x0301 → exec (.bufferStaged dt id (some buf)) s = .next (waits .working)) ∧
      (plain → i.opcode = 0x0402 → exec (.bufferStaged dt id (some buf)) s = .next (waits .landing)) ∧
      (plain → i.opcode = 0x0601 → ubKind i.desc = 0 → (crc32c buf).toNat ≠ prm i.desc 12 4 → (∃ t, exec (.bufferStaged dt id (some buf)) s = .next t ∧ (ended .refusedMalformed 0 0 t))) ∧
      (∀ g, plain → i.opcode = 0x0601 → ubKind i.desc = 0 → (crc32c buf).toNat = prm i.desc 12 4 → ubFirst i.desc = false → e.upd.staged = some g → e.noBlock i.desc = false →
        let h : Staged := { g with granules := putBlock (ubOff i.desc) buf g.granules }
        (h.full = false ∨ g.item ≠ none → (∃ t, exec (.bufferStaged dt id (some buf)) s = .next t ∧
          (ended (if i.late then .doneLate else .done) 0 (b2n h.full) t ∧ t.upd = { e.upd with st := .receiving, staged := some h }))) ∧
        (h.full = true → g.item = none → (∃ t, exec (.bufferStaged dt id (some buf)) s = .next t ∧ (toPhase .working i ∈ t.hif.items ∧
          t = { e with upd := { e.upd with st := .receiving, staged := some { h with item := some i.id } }, hif := { e.hif with items := t.hif.items } })))) ∧
      (∀ a c, plain → i.opcode = 0x0601 → ubKind i.desc = 0 → (crc32c buf).toNat = prm i.desc 12 4 → ubFirst i.desc = true →
        (e.release e.stagedAllocs).alloc clsBulk (extents (ubTotal i.desc)) = some (a, c) → (∃ t, exec (.bufferStaged dt id (some buf)) s = .next t ∧
          (t.mem = c.mem ∧ t.upd.st = .receiving ∧ (∃ h, t.upd.staged = some h ∧ h.total = ubTotal i.desc ∧ h.granules = putBlock (ubOff i.desc) buf [] ∧ h.alloc = a ∧ h.verified = false) ∧
          ∀ g j, e.upd.staged = some g → g.item = some j.id → e.item? j.id = some j → j.id ≠ id → j.late = false → t.told j.cq (j.completion .done 0 0 1 false)))) ∧
      (plain → i.opcode = 0x0601 → ubKind i.desc ≠ 0 → (∃ t, exec (.bufferStaged dt id (some buf)) s = .next t ∧
        (t.upd.nonceLive = false ∧ (∀ x ∈ t.hif.items, x.id ≠ id) ∧ (e.upd.nonceLive = false → t.upd.lock = e.upd.lock)))) ∧
      (plain → i.opcode = 0x0703 → imageOf buf = none → (∃ t, exec (.bufferStaged dt id (some buf)) s = .next t ∧ (ended .refusedMalformed 0 0 t))) ∧
      (plain → i.opcode = 0x0703 → (imageOf buf).isSome = true → (∃ t, exec (.bufferStaged dt id (some buf)) s = .next t ∧
        (if at_ buf 16 8 ≠ Config.calId.toNat then ended .refusedState 1 0 t
        else if e.cal.running = true then ended .refusedState 2 0 t
        else { i with buf := buf, phase := .landing, target := e.nextImp, late := false } ∈ t.hif.items)))) ∧
    (∀ data, e.item? id = none ∨ (∃ i, e.item? id = some i ∧ (i.phase ≠ .staging ∨ e.stagesNext i = false)) → exec (.bufferStaged dt id data) s = .next e) ∧
    (∀ i buf, e.item? id = some i → e.hif.linkUp = false ∨ buf.length ≠ dLen i.desc → exec (.bufferStaged dt id (some buf)) s = .next e)

/-- R60, R61, R64, R66, R80, R84: a command that the sweeper does not take now, or that is not at the head of its queue with its opcode, changes nothing. R73, R77, R78 and R85, for the 22 commands of Table 2-13: a command taken that a check of the first group refuses gets the first refusal of the order of R73 as its FINAL completion, and has no other effect than the reports of its refusal: its slots are used up, and a refused member spoils its group (R147). A command on SQ15 whose tag or sequence fails is refused with REFUSED_AUTH. -/
def Obligations.RefusedAtTake : Prop :=
  ((∀ (c : Instr) (f : Form) (s : State), formOf c = some f → f.due (s.elapse c.dt) = false → exec c s = .next (s.elapse c.dt)) ∧
   (∀ (dt q : Nat) (d a : Slot) (s : State), (s.elapse dt).takes q = false → exec (.opcodeRefused dt q d a) s = .next (s.elapse dt))) ∧
  (∀ (c : Instr) (f : Form) (s : State) (st : Status) (det : Nat), formOf c = some f → f.due (s.elapse c.dt) = true →
     (f.refusal (s.elapse c.dt) = some (st, det) ∨ f.refusal (s.elapse c.dt) = none ∧ (f.checked (s.elapse c.dt)).1 = some det ∧ st = .refusedAuth) →
     (s.elapse c.dt).freshId →
     let e := s.elapse c.dt
     (∃ t, exec c s = .next t ∧
       (t.told (f.item e).cq ((f.item e).completion st det 0 0 false) ∧ st.final = true ∧
         t.body = ({ e with
           nextItem := e.nextItem + 1
           hif := { e.hif with sqs := tput {} e.hif.sqs f.q { e.sq f.q with head := ((e.sq f.q).head + slotsOf f.q) % e.qSize f.q }, sweepPos := sweepRank f.q }
           cmp := { e.cmp with spoiled := t.cmp.spoiled } } : State).body ∧
         (f.group = 0 → t.cmp.spoiled = e.cmp.spoiled) ∧ (f.group ≠ 0 → (f.q, f.group) ∈ t.cmp.spoiled))))

/-- R74: an opcode not in Table 2-13, or not permitted on SQ15 when it arrives there, is refused with REFUSED_MALFORMED. -/
def Obligations.OpcodeRefused : Prop :=
  ∀ (dt q : Nat) (d a : Slot) (s : State), (cmdInfo (dOp d) = none ∨ q = 15 ∧ ∃ x, cmdInfo (dOp d) = some x ∧ x.1 = false) → (s.elapse dt).takes q = true →
    (∀ x ∈ (s.elapse dt).hif.items, x.id ≠ (s.elapse dt).nextItem) →
    let e := s.elapse dt
    let i := (e.takeItem q d a).1
    (∃ t, exec (.opcodeRefused dt q d a) s = .next t ∧
      (t.told i.cq (i.completion .refusedMalformed 0 0 0 false) ∧
        t.body = ({ e with
          nextItem := e.nextItem + 1
          hif := { e.hif with sqs := tput {} e.hif.sqs q { e.sq q with head := ((e.sq q).head + slotsOf q) % e.qSize q }, sweepPos := sweepRank q } } : State).body))

/-- R26, R57, R101, R137 and R196: the commands that take effect at a commit point, accepted, wait for the one of their target, the table.verify for the module's own work; a stream.release keeps which legs it names as they stand after the commands before it, a colour.reference the reading of its reference leaf. Nothing else of the state the command was taken and checked in changes. R55, R140 and R335: the commands with a buffer to read, accepted, wait for it (a fenced surface.write whose fence is not reached waits for that first, and a leaf.command without data for its commit point); nothing else of the state the command was taken and checked in changes. -/
def Obligations.CommandsWait : Prop :=
  (∀ (dt q : Nat) (d a : Slot) (s : State), (s.elapse dt).freshId →
     let e := s.elapse dt
     (∀ f, formOf (.dimSet dt q d a) = some f → f.accepted e → exec (.dimSet dt q d a) s = .next (f.inFlight e (toPhase .landing (f.item e)))) ∧
     (∀ f, formOf (.leafAdmit dt q d a) = some f → f.accepted e → exec (.leafAdmit dt q d a) s = .next (f.inFlight e (toPhase .landing (f.item e)))) ∧
     (∀ f, formOf (.quireRebalance dt q d a) = some f → f.accepted e → exec (.quireRebalance dt q d a) s = .next (f.inFlight e (toPhase .landing (f.item e)))) ∧
     (∀ f, formOf (.leafRetire dt q d a) = some f → f.accepted e → exec (.leafRetire dt q d a) s = .next (f.inFlight e (toPhase .landing (f.item e)))) ∧
     (∀ f, formOf (.pulseRealign dt q d a) = some f → f.accepted e → exec (.pulseRealign dt q d a) s = .next (f.inFlight e (toPhase .landing (f.item e)))) ∧
     (∀ f, formOf (.tableVerify dt q d a) = some f → f.accepted e → exec (.tableVerify dt q d a) s = .next (f.inFlight e (toPhase .working (f.item e)))) ∧
     (∀ f, formOf (.streamRelease dt q d a) = some f → f.accepted e →
       let m := if prm d 2 1 = 0 then 3 else prm d 2 1
       exec (.streamRelease dt q d a) s = .next (f.inFlight e { f.item e with phase := .landing, aux := b2n (e.legIn (prm d 1 1) 0 && m % 2 == 1) + 2 * b2n (e.legIn (prm d 1 1) 1 && m / 2 % 2 == 1) })) ∧
     (∀ f, formOf (.colourReference dt q d a) = some f → f.accepted e →
       exec (.colourReference dt q d a) s = .next (f.inFlight e { f.item e with phase := .landing, aux := (f.checked e).2.refScale d }))) ∧
  (∀ (dt q : Nat) (d a : Slot) (s : State), (s.elapse dt).freshId →
     let e := s.elapse dt
     (∀ f, formOf (.tableLoad dt q d a) = some f → f.accepted e → exec (.tableLoad dt q d a) s = .next (f.inFlight e (toPhase .staging (f.item e)))) ∧
     (∀ f, formOf (.updateBlock dt q d a) = some f → f.accepted e → exec (.updateBlock dt q d a) s = .next (f.inFlight e (toPhase .staging (f.item e)))) ∧
     (∀ f, formOf (.restoreCalibration dt q d a) = some f → f.accepted e → exec (.restoreCalibration dt q d a) s = .next (f.inFlight e (toPhase .staging (f.item e)))) ∧
     (∀ f, formOf (.leafCommand dt q d a) = some f → f.accepted e →
       exec (.leafCommand dt q d a) s = .next (f.inFlight e (toPhase (if prm d 4 2 = 0 then .landing else .staging) (f.item e)))) ∧
     (∀ f, formOf (.surfaceWrite dt q d a) = some f → f.accepted e →
       exec (.surfaceWrite dt q d a) s = .next (f.inFlight e (toPhase (if wrFenced d = true ∧ e.fenceReached (prm d 16 2) (prm d 20 8) = false then .fencing else .staging) (f.item e)))))

/-- R26, R27, R57, R72 and Table 2-10: what a command is once taken. It has the next item number, its queue's completion queue and slot, and its descriptor; it targets its TARGET, where it is bound to an impression and names one, or the first impression whose window has not opened, but never an impression before that one nor one before a command of its queue takes effect; and it is late when that lies after its TARGET. R145, R156 and R124 to R128: a layer command with a GROUP is held for its scene.commit; without one it joins the window in hand when R156 lets it, and waits to land otherwise. A layer.define is of the effective class of R58, and one of a surface has two versions reserved. -/
def Obligations.LayerCommandsTaken : Prop :=
  (∀ (q : Nat) (d a : Slot) (s : State),
     let i := (s.takeItem q d a).1
     let named := dTargeted d = true ∧ isBound d = true
     i.id = s.nextItem ∧ i.sq = q ∧ i.slot = (s.sq q).head ∧ i.cq = bits (s.sqCtrl q) 8 4 ∧ i.desc = d ∧ i.takenImp = s.imp.counter ∧ i.takenAt = s.clk ∧
       i.target = max (if named then dTarget d else s.nextImp) (max s.nextImp i.floor) ∧ (i.late = true ↔ named ∧ dTarget d < i.target) ∧
       (s.sq q).floor ≤ i.floor ∧ (∀ x ∈ s.hif.items, x.sq = q → isBound x.desc = true → inGroup x.desc = false → x.target ≤ i.floor) ∧
       (i.floor = (s.sq q).floor ∨ ∃ x ∈ s.hif.items, x.sq = q ∧ isBound x.desc = true ∧ inGroup x.desc = false ∧ i.floor = x.target) ∧
       (s.takeItem q d a).2.hif.items = s.hif.items ++ [i] ∧ (s.takeItem q d a).2.nextItem = s.nextItem + 1) ∧
  (∀ (dt q : Nat) (d a : Slot) (s : State), (s.elapse dt).freshId →
     let e := s.elapse dt
     (∀ f, formOf (.layerUpdate dt q d a) = some f → f.accepted e →
       let i := toPhase .landing (f.item e)
       let b := f.inFlight e i
       (grpNo d ≠ 0 → exec (.layerUpdate dt q d a) s = .next (f.inFlight e (toPhase .held (f.item e)))) ∧
         (grpNo d = 0 → b.tryJoin d [i] = none → ∃ t, exec (.layerUpdate dt q d a) s = .next t ∧ t.body = b.body) ∧
         (∀ t, grpNo d = 0 → b.tryJoin d [i] = some t → exec (.layerUpdate dt q d a) s = .next t)) ∧
     (∀ f, formOf (.layerRemove dt q d a) = some f → f.accepted e →
       let i := toPhase .landing (f.item e)
       let b := f.inFlight e i
       (grpNo d ≠ 0 → exec (.layerRemove dt q d a) s = .next (f.inFlight e (toPhase .held (f.item e)))) ∧
         (grpNo d = 0 → b.tryJoin d [i] = none → ∃ t, exec (.layerRemove dt q d a) s = .next t ∧ t.body = b.body) ∧
         (∀ t, grpNo d = 0 → b.tryJoin d [i] = some t → exec (.layerRemove dt q d a) s = .next t)) ∧
     (∀ f, formOf (.layerDefine dt q d a) = some f → f.accepted e →
       let c := (f.checked e).2
       let asked := prm d 4 1 % 4
       let least := bits (e.sqCtrl q) 6 2
       let i (n : Nat) (p : Phase) : Item := { f.item e with cls := max asked least, clamped := decide (asked < least) && !isFrisk d, aux := n, phase := p }
       let room := c.alloc (surfCls (isFrisk d)) (extents (4 * prm d 12 2 * prm d 14 2))
       let b (n : Nat) (p : Phase) (m : Mem) : State := { f.inFlight e (i n p) with mem := m }
       (defSurf d = false → grpNo d ≠ 0 → exec (.layerDefine dt q d a) s = .next (b 0 .held c.mem)) ∧
         (defSurf d = false → grpNo d = 0 → (b 0 .landing c.mem).tryJoin d [i 0 .landing] = none → ∃ t, exec (.layerDefine dt q d a) s = .next t ∧ t.body = (b 0 .landing c.mem).body) ∧
         (∀ t, defSurf d = false → grpNo d = 0 → (b 0 .landing c.mem).tryJoin d [i 0 .landing] = some t → exec (.layerDefine dt q d a) s = .next t) ∧
         (defSurf d = true → ∃ n c1 n' c2, room = some (n, c1) ∧ c1.alloc (surfCls (isFrisk d)) (extents (4 * prm d 12 2 * prm d 14 2)) = some (n', c2) ∧ n' = n + 1 ∧
           (grpNo d ≠ 0 → exec (.layerDefine dt q d a) s = .next (b n .held c2.mem)) ∧
           (grpNo d = 0 → (b n .landing c2.mem).tryJoin d [i n .landing] = none → ∃ t, exec (.layerDefine dt q d a) s = .next t ∧ t.body = (b n .landing c2.mem).body) ∧
           (∀ t, grpNo d = 0 → (b n .landing c2.mem).tryJoin d [i n .landing] = some t → exec (.layerDefine dt q d a) s = .next t))))

/-- R69, R142 and R143: fence.signal raises its fence to VALUE, never lowers it, lets the writes go that awaited it unless their commit point is here already, and ends DONE with the first impression that can show them. -/
def Obligations.FenceSignalled : Prop :=
  ∀ (dt q : Nat) (d a : Slot) (s : State) (f : Form), formOf (.fenceSignal dt q d a) = some f → f.accepted (s.elapse dt) → (s.elapse dt).freshId →
    let e := s.elapse dt
    let b := (f.checked e).2
    let v := max (prm d 8 8) (tget 0 b.cmp.fenceSig (prm d 0 2)).toNat
    (∃ t, exec (.fenceSignal dt q d a) s = .next t ∧
      (t.told (f.item e).cq ((f.item e).completion .done 0 e.nextImp 0 false) ∧
        (e.commitDue = false → ∀ x ∈ e.hif.items, x.phase = .fencing → (fenceOf x).1 = prm d 0 2 → (fenceOf x).2 ≤ v → toPhase .staging x ∈ t.hif.items) ∧
        (e.commitDue = true → t.hif.items = e.hif.items) ∧
        t.body = ({ b with cmp := { b.cmp with fenceSig := tput 0 b.cmp.fenceSig (prm d 0 2) (BitVec.ofNat 64 v) }, hif := { b.hif with items := t.hif.items } } : State).body))

/-- R97 to R100, R103 and Table 3-9: stream.admit of form 0 defines its slot with its format, to be sampled from its target on; of form 1 it adds the leg, admitted now, and a DEFINED stream is JOINING from then, to be sampled from the target of this command on; both wait for the commit point of their target. -/
def Obligations.StreamAdmitted : Prop :=
  ∀ (dt q : Nat) (d a : Slot) (s : State) (f : Form), formOf (.streamAdmit dt q d a) = some f → f.accepted (s.elapse dt) → (s.elapse dt).freshId →
    tabWf (fun _ => ({} : Stream)) (s.elapse dt).ing.streams = true →
    let e := s.elapse dt
    let b := f.inFlight e (toPhase .landing (f.item e))
    let k := prm d 1 1
    (∃ t, exec (.streamAdmit dt q d a) s = .next t ∧
      (t.hif.items = b.hif.items ∧ (∀ j, j ≠ k → t.stream j = b.stream j) ∧
        (prm d 0 1 = 0 → (t.stream k).st = .defined ∧ (t.stream k).fmt = BitVec.ofNat 256 (prm d 0 32) ∧ (t.stream k).visibleFrom = (f.item e).target ∧
          (t.stream k).frisket = decide (q = 15) ∧ (t.stream k).red = none ∧ (t.stream k).blue = none) ∧
        (prm d 0 1 ≠ 0 → (t.stream k).st = (if (b.stream k).st = .defined then .joining else (b.stream k).st) ∧ t.mem = b.mem ∧
          ((b.stream k).st = .defined → (t.stream k).visibleFrom = max (b.stream k).visibleFrom (f.item e).target) ∧
          (legNo d = 0 → (t.stream k).red = some { legOf d with admAt := e.clk } ∧ (t.stream k).blue = (b.stream k).blue) ∧
          (legNo d ≠ 0 → (t.stream k).blue = some { legOf d with admAt := e.clk } ∧ (t.stream k).red = (b.stream k).red)) ∧
        t.body = ({ b with mem := t.mem, ing := { b.ing with streams := t.ing.streams, ports := t.ing.ports } } : State).body))

/-- R450: fault.ack acknowledges, of the entries it names, every occurrence whose SEQ is at or below UPTO, the SEQ of the last record for an UPTO of 0, and is DONE at once with their number, with an IMPRESSION of 0, which is the model's (log entry 25). R55 and R477: save.calibration writes the image of the sections it asks for to its buffer, and is DONE with the bytes written, or FAILED_UNIT with DETAIL 2 where the write fails, which the model leaves free; no calibration changes. The IMPRESSION of 0 is the model's (log entry 25). -/
def Obligations.FaultsAckedCalibrationSaved : Prop :=
  (∀ (dt q : Nat) (d a : Slot) (s : State) (f : Form), formOf (.faultAck dt q d a) = some f → f.accepted (s.elapse dt) → (s.elapse dt).freshId →
     let e := s.elapse dt
     let b := (f.checked e).2
     let upto : Word := if prm d 8 4 % 2 ^ 32 = 0 then b.flt.seq else BitVec.ofNat 32 (prm d 8 4)
     ∃ t, exec (.faultAck dt q d a) s = .next t ∧
       t.told (f.item e).cq ((f.item e).completion .done 0 0 (sumN (e.flt.entries.map fun x => if ackNames d x.2 then (x.2.occs.filter fun o => !o.acked && serLe o.seq upto).length else 0)) false) ∧
         (tabWf (fun _ => noEntry) e.flt.entries = true → ∀ k, ackNames d (tget noEntry t.flt.entries k) = true →
           ∀ o ∈ (tget noEntry t.flt.entries k).occs, serLe o.seq upto = true → o.acked = true) ∧
         t.flt.seq = e.flt.seq ∧ t.flt.raises = e.flt.raises ∧ t.body = ({ b with hif := { b.hif with items := e.hif.items } } : State).body) ∧
  (∀ (dt q : Nat) (d a : Slot) (s : State) (f : Form), formOf (.saveCalibration dt q d a) = some f → f.accepted (s.elapse dt) → (s.elapse dt).freshId →
     let e := s.elapse dt
     let b := (f.checked e).2
     ∃ t, exec (.saveCalibration dt q d a) s = .next t ∧
       (if Config.resultWriteFails b.fresh = true then t.told (f.item e).cq ((f.item e).completion .failedUnit 2 0 0 false)
         else t.told (f.item e).cq ((f.item e).completion .done 0 0 (imgLen (saveIds d)) false) ∧ .bufWrite (BitVec.ofNat 64 (dAddr d)) (b.savedImage (saveIds d)) ∈ t.out) ∧
       t.body = ({ b with fresh := b.fresh + 1, hif := { b.hif with items := e.hif.items } } : State).body)

/-- R145 to R147 and R156: a scene.commit of a group that is not spoiled takes every member of it held so far, to land together at its own target, or to join the window in hand where R156 lets them; the commit of a spoiled group, and one with ABANDON, refuse the members with REFUSED_STATE 4. A spoiled group's commit is refused with them; one with ABANDON is DONE, or waits to land where it carries wall settings. -/
def Obligations.SceneCommitTaken : Prop :=
  ∀ (dt q : Nat) (d a : Slot) (s : State) (f : Form), formOf (.sceneCommit dt q d a) = some f → f.accepted (s.elapse dt) → (s.elapse dt).itemsOk = true →
    let e := s.elapse dt
    let b := (f.checked e).2
    let g := prm d 0 1
    let ci := toPhase .landing (f.item e)
    let ms := b.heldMembers q g
    let taken (x : Item) : Item := if ms.any (fun y => y.id == x.id) then { x with commitId := some e.nextItem } else x
    let c : State := { b with hif := { b.hif with items := e.hif.items.map taken ++ [ci] } }
    (cmAbandon d = false → (q, g) ∉ b.cmp.spoiled →
      (ms = [] → exec (.sceneCommit dt q d a) s = .next c) ∧
      (c.tryJoin d (c.members e.nextItem ++ [ci]) = none → ∃ t, exec (.sceneCommit dt q d a) s = .next t ∧ t.body = c.body) ∧
      (∀ t, ms ≠ [] → (∀ x ∈ c.members e.nextItem, x.phase = .held ∧ isFenced x.desc = false) → cmWall d = false → c.tryJoin d (c.members e.nextItem ++ [ci]) = some t →
        exec (.sceneCommit dt q d a) s = .next (t.supersedeAt t.m))) ∧
    (cmAbandon d = false → (q, g) ∈ b.cmp.spoiled → ∃ t, exec (.sceneCommit dt q d a) s = .next t ∧
      t.told (f.item e).cq ((f.item e).completion .refusedState 4 0 0 false) ∧ ∀ x ∈ ms, t.told x.cq (x.completion .refusedState 4 0 0 false)) ∧
    (cmAbandon d = true → ∃ t, exec (.sceneCommit dt q d a) s = .next t ∧ (∀ x ∈ ms, t.told x.cq (x.completion .refusedState 4 0 0 false)) ∧
      (cmWall d = false → t.told (f.item e).cq ((f.item e).completion .done 0 b.nextImp 0 false)) ∧
      ((∀ x ∈ e.hif.items, x.phase ≠ .waiting) →
        t.hif.items = (e.hif.items.filter fun x => !(ms.any fun y => y.id == x.id)) ++ (if cmWall d = true then [ci] else []) ∧ (q, g) ∉ t.cmp.spoiled ∧
          t.ing = b.ing ∧ t.lanes = b.lanes ∧ t.quires = b.quires ∧ t.win = b.win))

/-- R88 and R89: EN of ING_MACm_CFG is taken when SPLIT is not 3, the quad named is enabled in Ethernet mode and no other MAC that is enabled names it; the four lanes of the quad that are in service are then in ACQUIRE for it, out of any test loop. Without those, the fields are stored and EN reads 0; while EN is 1, a write that keeps it changes nothing, as does one that clears it while a port of the MAC is enabled; otherwise the lanes stop and the ports lose their link. R93 and R94: EN of ING_Pp_CTRL is taken with a unicast MAC address that is not 0 and an address of an enabled family; duplicate-address detection then begins, with an ARP probe for IPv4 and a neighbour solicitation for IPv6 where the port is active. Otherwise EN reads 0. While EN is 1, a write that keeps it changes nothing; a write with EN 0 ends the port's addressing and its conflicts. -/
def Obligations.MacAndPortEnable : Prop :=
  (∀ (dt m : Nat) (v : Word) (s : State), m < 8 →
     let e := s.elapse dt
     let q := bits v 0 4
     let free := ∀ n < 8, n ≠ m → e.regBit (0x1020 + 4 * n) 8 = true → e.regBits (0x1020 + 4 * n) 0 4 ≠ q
     let ok := bit v 8 = true ∧ bits v 4 2 ≠ 3 ∧ e.quadEth q = true ∧ free
     (e.regBit (macReg m) 8 = false → ok → (∃ t, exec (.macEnable dt m v) s = .next t ∧
       (t.reg (macReg m) = pack [(0, q), (4, bits v 4 2), (8, 1)] ∧ (∀ o, o ≠ macReg m → (∀ l < 5, o ≠ laneReg (5 * q + l)) → t.reg o = e.reg o) ∧
         (∀ l < 4, (e.lane (5 * q + l)).unit = .inService → (e.lane (5 * q + 4)).subst = false → (t.lane (5 * q + l)).func = 1 ∧ (t.lane (5 * q + l)).link = .acquire) ∧
         (∀ i, i / 5 ≠ q → t.lane i = e.lane i) ∧
         t = { e with regs := t.regs, lanes := t.lanes, fresh := t.fresh, cal := { e.cal with pend := t.cal.pend } }))) ∧
     (e.regBit (macReg m) 8 = false → ¬ok → exec (.macEnable dt m v) s = .next { e with regs := tput (rwReset (macReg m)) e.regs (macReg m) (pack [(0, q), (4, bits v 4 2), (8, 0)]) }) ∧
     (e.regBit (macReg m) 8 = true → (bit v 8 = true ∨ ∃ k < 4, e.regBit (portReg (4 * m + k)) 0 = true) → exec (.macEnable dt m v) s = .next e) ∧
     (e.regBit (macReg m) 8 = true → bit v 8 = false → (∀ k < 4, e.regBit (portReg (4 * m + k)) 0 = false) → (∃ t, exec (.macEnable dt m v) s = .next t ∧
       ((∀ l < 5, (e.lane (5 * e.regBits (macReg m) 0 4 + l)).func = 1 → (t.lane (5 * e.regBits (macReg m) 0 4 + l)).link = .off) ∧
         (tabWf (fun _ => ({} : Port)) e.ing.ports = true → ∀ k < 4, (t.port (4 * m + k)).link = false) ∧
         t = { e with regs := tput (rwReset (macReg m)) e.regs (macReg m) (setBit (e.reg (macReg m)) 8 false), lanes := t.lanes, ing := { e.ing with ports := t.ing.ports } })))) ∧
  (∀ (dt p : Nat) (v : Word) (s : State), p < 32 → tabWf (fun _ => ({} : Port)) (s.elapse dt).ing.ports = true →
     let e := s.elapse dt
     let o := portReg p
     let mac := bits (e.reg (o + 0xC)) 0 16 * 2 ^ 32 + (e.reg (o + 8)).toNat
     let ok := bit v 0 = true ∧ mac ≠ 0 ∧ mac / 2 ^ 40 % 2 = 0 ∧ (bit v 1 = true ∧ e.portV4 p ≠ 0 ∨ bit v 2 = true ∧ e.portV6 p ≠ 0)
     (e.regBit o 0 = false → ok → (∃ t, exec (.portEnable dt p v) s = .next t ∧
       (t.regBit o 0 = true ∧ (t.portActive p = true → bit v 1 = true → .net p (.arpProbe (e.portV4 p)) ∈ t.out) ∧ (t.portActive p = true → bit v 2 = true → .net p (.nsProbe (e.portV6 p)) ∈ t.out) ∧
         (t.port p).tentative = bit v 2 ∧ (t.port p).probes = b2n (t.portActive p && bit v 1) ∧ (t.port p).v4Conf = false ∧ (t.port p).v6Conf = false ∧
         (∀ i, i ≠ o → t.reg i = e.reg i) ∧ t.body = ({ e with regs := t.regs, ing := { e.ing with ports := t.ing.ports } } : State).body))) ∧
     (e.regBit o 0 = false → ¬ok → (∃ t, exec (.portEnable dt p v) s = .next t ∧
       (t = { e with regs := tput (rwReset o) e.regs o (setBit (v &&& 0xFFFF) 0 false) }))) ∧
     (e.regBit o 0 = true → bit v 0 = true → exec (.portEnable dt p v) s = .next e) ∧
     (e.regBit o 0 = true → bit v 0 = false → (∃ t, exec (.portEnable dt p v) s = .next t ∧
       (t.regs = tput (rwReset o) e.regs o (setBit (e.reg o) 0 false) ∧ t.ing.streams = e.ing.streams ∧ t.body = ({ e with regs := t.regs, ing := { e.ing with ports := t.ing.ports } } : State).body))))

/-- R90, R104 and R105: a frame longer than 9,216 bytes, with a bad FCS or with a bad UDP checksum is counted and dropped; one with another VLAN, or of no protocol of the port, is a stranger; a port that is not active takes nothing. None of them changes a stream. R103, R104, R107, R109, R111 and R112: a media packet of a leg, after what time alone has brought about on its stream, brings the leg up and its stream to RECEIVING. Its data enters the open frame of its timestamp once, whichever leg brings it first; a second copy enters nothing but its marker; and the packet that makes the frame whole closes it complete, with the capture time of R112. A packet of a timestamp not seen opens a frame; one of a frame that has closed enters nothing. Other streams stay. -/
def Obligations.FramesReceived : Prop :=
  (∀ (dt p : Nat) (f : EthFrame) (s : State),
     let e := s.elapse dt
     (p < 32 → e.portActive p = true → 9216 < f.len ∨ f.fcsOk = false ∨ f.udpBad = true → (∃ t, exec (.packetReceive dt p f) s = .next t ∧
       (t = { e with obs := t.obs } ∧ t.obs.store = e.obs.store ∧ (tabWf (fun _ => (0 : DWord)) e.obs.cnt = true → tget 0 t.obs.cnt (0x040 + 6 * p) = tget 0 e.obs.cnt (0x040 + 6 * p) + 1 ∧
           (f.len ≤ 9216 → f.fcsOk = false → tget 0 t.obs.cnt (0x042 + 6 * p) = tget 0 e.obs.cnt (0x042 + 6 * p) + 1))))) ∧
     (p < 32 → e.portActive p = true → f.len ≤ 9216 → f.fcsOk = true → f.udpBad = false → e.vlanOk p f.vlan = false ∨ f.body = .other → (∃ t, exec (.packetReceive dt p f) s = .next t ∧
       (t.ing.streams = e.ing.streams ∧ ((e.port p).strangerAt = none → e.raised t .streamStranger (instOf 7 p) ∧ (t.port p).strangerAt = some e.clk) ∧
         t.body = ({ e with ing := { e.ing with ports := t.ing.ports } } : State).body))) ∧
     (32 ≤ p ∨ e.portActive p = false → exec (.packetReceive dt p f) s = .next e)) ∧
  (∀ (dt p : Nat) (s : State) (f : EthFrame) (m : MediaPkt) (k n : Nat) (l : Leg),
     let e := s.elapse dt
     let x := (e.streamTimers k).stream k
     p < 32 → e.portActive p = true → f.len ≤ 9216 → f.fcsOk = true → f.udpBad = false → e.vlanOk p f.vlan = true → f.body = .media m → m.odd = false →
       (e.legs.find? fun l => legMatch p m (e.stream l.1) l.2.2) = some (k, n, l) → ssrcOk (e.stream k) l m.ssrc = true →
       (∃ t, exec (.packetReceive dt p f) s = .next t ∧
         ((t.stream k).st = .receiving ∧ (t.stream k).lastAt = e.clk ∧
           (let up := some { l with up := true, lossOpen := false, lastAt := some e.clk, ssrc := some (l.ssrc.getD m.ssrc) }
            if n = 0 then (t.stream k).red = up ∧ (t.stream k).blue = x.blue else (t.stream k).blue = up ∧ (t.stream k).red = x.red) ∧
           (∀ o, (x.opens.find? fun o => o.ts == m.ts) = some o →
             let rows := if o.keys.any fun y => y.1 == m.seq then o.rows else o.rows ++ m.rows
             let whole := (o.marker || m.marker) && frameFull x.fmt rows
             (whole = false → ∃ y ∈ (t.stream k).opens, y.ts = m.ts ∧ y.rows = rows ∧ y.keys = o.keys ++ [(m.seq, n, e.ns)] ∧ y.marker = (o.marker || m.marker)) ∧
             (whole = true → (∀ y ∈ (t.stream k).opens, y.ts ≠ m.ts) ∧ (t.stream k).nComplete = (x.nComplete + 1) % 65536 ∧
               ∃ y, (t.stream k).lastFill = some y ∧ y.complete = true ∧ y.cap = capture o.first m.ts ∧ y.doneAt = e.ns * nsU ∧ y.rows = rows)) ∧
           (x.opens = [] → x.gone = [] → (m.marker && frameFull x.fmt m.rows) = false →
             ∃ y, (t.stream k).opens = [y] ∧ y.ts = m.ts ∧ y.rows = m.rows ∧ y.first = e.ns * nsU ∧ y.keys = [(m.seq, n, e.ns)]) ∧
           ((x.opens.find? fun o => o.ts == m.ts) = none → (x.gone.find? fun g => g.ts == m.ts).isSome = true → (t.stream k).opens = x.opens ∧ (t.stream k).closed = x.closed) ∧
           (∀ j, j ≠ k → t.stream j = e.stream j) ∧ t.ing.ports = e.ing.ports ∧ t.body = ({ e with ing := t.ing } : State).body)))

/-- R91, R92 and R94: a query of the current version is answered with a report for every leg it asks about and changes no state; one of an older version sets OLD_QUERIER and is not answered. A state-change report is repeated at the interval of R92 until it has been sent ROBUSTNESS times, and duplicate-address detection goes on with its next probe, whose number is the model's (log entry 9). Nothing but the port changes. -/
def Obligations.MembershipAndAddresses : Prop :=
  ∀ (dt p : Nat) (qy : McQuery) (s : State), p < 32 → (s.elapse dt).portActive p = true → tabWf (fun _ => ({} : Port)) (s.elapse dt).ing.ports = true →
    let e := s.elapse dt
    let x := e.port p
    let f (y : Port) : State := { e with ing := { e.ing with ports := tput {} e.ing.ports p y } }
    (qy.old = true → exec (.membershipQuery dt p qy) s = .next (f { x with oldQuerier := true, oldQueries := x.oldQueries + 1 })) ∧
    (qy.old = false → (∃ t, exec (.membershipQuery dt p qy) s = .next t ∧
      ((∀ y ∈ e.legs, y.2.2.port = p → y.2.2.ipv6 = qy.ipv6 → qy.group = none ∨ qy.group = some y.2.2.group → qy.sources = [] ∨ y.2.2.src ∈ qy.sources →
        .net p (.report y.2.2.ipv6 true y.2.2.group y.2.2.src) ∈ t.out) ∧ t.ing = e.ing ∧ t.body = e.body))) ∧
    (∃ t, exec (.stateChangeReportRepeat dt p) s = .next t ∧
      ((∀ r ∈ x.reports, r.sentAt + e.uri ≤ e.clk → .net p (.report r.ipv6 r.join r.group r.src) ∈ t.out) ∧
        t.body = (f { x with reports := (x.reports.map fun r => if r.sentAt + e.uri ≤ e.clk then { r with left := r.left - 1, sentAt := e.clk } else r).filter fun r => decide (0 < r.left) }).body)) ∧
    (∃ t, exec (.duplicateAddressDetection dt p) s = .next t ∧
      ((∀ i, i ≠ p → t.port i = e.port i) ∧
        (bit (e.reg (portReg p)) 1 = true → x.v4Conf = false → x.probes < 3 → .net p (.arpProbe (e.portV4 p)) ∈ t.out ∧ (t.port p).probes = x.probes + 1) ∧
        (bit (e.reg (portReg p)) 1 = true → x.v4Conf = false → 3 ≤ x.probes → x.probes < 5 → .net p (.arpAnnounce (e.portV4 p)) ∈ t.out ∧ (t.port p).probes = x.probes + 1) ∧
        (bit (e.reg (portReg p)) 2 = true → x.tentative = true → x.nsSent = 0 → .net p (.nsProbe (e.portV6 p)) ∈ t.out ∧ (t.port p).nsSent = 1 ∧ (t.port p).tentative = true) ∧
        (bit (e.reg (portReg p)) 2 = true → x.tentative = true → x.nsSent ≠ 0 → (t.port p).tentative = false) ∧
        t.body = ({ e with ing := { e.ing with ports := t.ing.ports } } : State).body))

/-- R101 to R103, R110 and Table 3-9: a stream with no packet within 2 s of its join is ABSENT, and so is a RECEIVING one without a packet for the absence time, whose open frames close; both raise STREAM_ABSENT. A leg silent for the absence time is down. A stream being released is FREE again, its buffers given back, once no frame of it is held. R110 and R113: a frame whose hold time has passed closes incomplete, and no other frame of the stream does. Once a second an INGEST record for each stream that is not FREE, after which the second's counts begin again (R515). -/
def Obligations.StreamsTimedAndTraced : Prop :=
  (∀ (dt k : Nat) (s : State), k < 64 →
     let e := s.elapse dt
     let x := e.stream k
     (x.st = .joining → x.joinAt + 2 * secU ≤ e.clk → (∃ t, exec (.joinGraceExpiry dt k) s = .next t ∧
       (e.raised t .streamAbsent (instOf 6 k) ∧ t.body = ({ e with ing := { e.ing with streams := tput {} e.ing.streams k { x with st := .absent } } } : State).body))) ∧
     (∃ t, exec (.streamAbsenceExpiry dt k) s = .next t ∧
       ((x.st = .receiving → x.lastAt + absence x.fmt ≤ e.clk → (t.stream k).st = .absent ∧ (t.stream k).opens = [] ∧ tget 0 t.flt.raises 0x0302 = tget 0 e.flt.raises 0x0302 + 1) ∧
       (x.st ≠ .receiving ∨ e.clk < x.lastAt + absence x.fmt → x.st ≠ .free → (t.stream k).st = x.st) ∧
       (∀ l, x.red = some l → legSilent x e.clk l = true → (t.stream k).red = some { l with up := false, lossOpen := true }) ∧
       (∀ l, x.blue = some l → legSilent x e.clk l = true → (t.stream k).blue = some { l with up := false, lossOpen := true }) ∧
       (∀ j, j ≠ k → t.stream j = e.stream j) ∧ t.body = ({ e with ing := { e.ing with streams := t.ing.streams } } : State).body)) ∧
     (x.st = .releasing → e.frameHeld k = false → (∃ t, exec (.streamBuffersReturn dt k) s = .next t ∧
       (t.ing.streams = tput {} e.ing.streams k {} ∧ (∀ a ∈ t.mem.allocs, a.id ≠ x.alloc) ∧ t = { e with ing := { e.ing with streams := t.ing.streams }, mem := t.mem }))) ∧
     (x.st ≠ .releasing ∨ e.frameHeld k = true → exec (.streamBuffersReturn dt k) s = .next e)) ∧
  (∀ (dt k : Nat) (s : State), k < 64 →
     let e := s.elapse dt
     let x := e.stream k
     let spill (o : OpenFrame) : Bool := match o.newerAt with | none => false | some t => decide (t + holdTime x ≤ e.clk)
     (∃ t, exec (.frameHoldExpiry dt k) s = .next t ∧
       ((∀ o ∈ x.opens, spill o = true → ∀ y ∈ (t.stream k).opens, y.ts ≠ o.ts) ∧ (∀ o ∈ x.opens, (∀ y ∈ x.opens, y.ts = o.ts → spill y = false) → o ∈ (t.stream k).opens) ∧
         (∀ j, j ≠ k → t.stream j = e.stream j) ∧ t.body = ({ e with ing := { e.ing with streams := t.ing.streams } } : State).body)) ∧
     (e.ing.traceAt + secU ≤ e.clk → (∃ t, exec (.ingestTrace dt) s = .next t ∧
       (t.ing.traceAt = e.clk ∧ (x.st ≠ .free → t.stream k = { x with secRed := 0, secBlue := 0, secDone := 0, secBad := 0, secDiff := 0 }) ∧ (x.st = .free → t.stream k = x) ∧
         t.body = ({ e with ing := { e.ing with streams := t.ing.streams, traceAt := e.clk } } : State).body))) ∧
     (e.clk < e.ing.traceAt + secU → exec (.ingestTrace dt) s = .next e))

/-- R20, R22, R137, R138, R163, R201, R211, R212, R256 and R259: the commit point, when it has come, opens the window of the next impression on the tick before and the tick to come, with the registers that come into force there. A checked set-up is in force from then on when R32 holds and there is room for it, and is refused otherwise with the quire or leaf at fault; a waiting CMP_SOFFSET comes into force or is refused; and the tone registers are applied when CMP_TM_COMMIT was written. Neither the counter nor module time changes. Before it has come, nothing changes. -/
def Obligations.CommitPointOpens : Prop :=
  ∀ (dt : Nat) (s : State),
    let e := s.elapse dt
    (e.commitDue = true → (∃ t, exec (.commitPoint dt) s = .next t ∧
      (t.win.open_ = true ∧ t.win.imp = e.imp.counter + 1 ∧ t.win.t0 = e.tim.tickAt ∧ t.win.tFlip = e.nextTick ∧ t.win.pressCut = false ∧ t.win.walkCut = false ∧ t.win.deadline = false ∧
        t.slg.ctrl = e.reg 0x5004 ∧ t.cmp.toneCommit = false ∧ t.imp.counter = e.imp.counter ∧ t.imp.flip = e.imp.flip ∧
        (∀ u, e.imp.snap = some u → e.imp.pend = true → u.egressFail e.leaves e.tim.pUse e.cmp.sUs = none →
          (∀ r, e.reserveStaging u = .inr r → t.imp.setup = u ∧ t.imp.pend = false ∧ t.imp.result = resultWord .done 0 0) ∧
          (∀ leaf, e.reserveStaging u = .inl leaf → t.imp.setup = e.imp.setup ∧ t.imp.pend = false ∧ t.imp.result = resultWord .refusedCapacity leaf 8)) ∧
        (∀ u q, e.imp.snap = some u → e.imp.pend = true → u.egressFail e.leaves e.tim.pUse e.cmp.sUs = some q →
          t.imp.setup = e.imp.setup ∧ t.imp.pend = false ∧ t.imp.result = resultWord .refusedCapacity (64 * q) 7) ∧
        (∀ v p, e.imp.pend = false → e.cmp.sPend = some (v, true) → e.tim.pUse = some p →
          t.cmp.sPend = none ∧ (e.imp.setup.egressFail e.leaves (some p) (e.capS v) = none → t.cmp.sUs = e.capS v) ∧
            (e.imp.setup.egressFail e.leaves (some p) (e.capS v) ≠ none → t.cmp.sUs = e.cmp.sUs ∧ t.cmp.soffRefused = true)) ∧
        (e.cmp.toneCommit = true → tabWf rwReset e.cmp.tone = true → ∀ o ∈ toneOffs, tget (rwReset o) t.cmp.tone o = e.reg o) ∧
        (e.cmp.toneCommit = false → t.cmp.tone = e.cmp.tone) ∧ t.tim = { e.tim with pouts := t.tim.pouts } ∧ t.thp = e.thp ∧ t.refs = e.refs ∧ t.sys = e.sys))) ∧
    (e.commitDue = false → exec (.commitPoint dt) s = .next e)

/-- R19, R153, R154 and R157: an engine that finishes a tile outside any group replaces the tile of the canvas by what the scene in force gives it, with the layers the job shows as before; a tile of a group stays aside until its group is whole, and then the tiles of the group replace those of the canvas together; a tile of a late join is kept with the join. An engine without that tile, or no open window, changes nothing, but that UNIT_STATE_CONFLICT is raised for an engine out of service. -/
def Obligations.TileComplete : Prop :=
  ∀ (dt en n : Nat) (s : State),
    let e := (s.elapse dt).strayUnit 9 en en
    (((s.elapse dt).unit en).st.out = true → (s.elapse dt).raised e .unitStateConflict (instOf 9 en)) ∧
    (∀ j, e.win.open_ = true → e.running? en n = some j → (∃ t, exec (.tileComplete dt en n) s = .next t ∧
      (let x := e.composeTile (j.was.foldl (fun ls k => tput {} ls k (tget {} e.cmp.prev k)) e.cmp.layers) n
      (j.gen = 0 → t.cmp.byEngine = tput 0 e.cmp.byEngine n (en + 1) ∧ t.cmp.late = e.cmp.late) ∧
        (j.gen = 0 → j.group = none → t.cmp.tiles = tput {} e.cmp.tiles n x ∧ t.cmp.side = e.cmp.side) ∧
        (∀ g, j.gen = 0 → j.group = some g → (∃ k ∈ e.cmp.jobs, k.group = some g ∧ ¬(k.engine = some en ∧ k.tile = n)) →
          t.cmp.tiles = e.cmp.tiles ∧ t.cmp.side = e.cmp.side ++ [(g, n, x)]) ∧
        (∀ g, j.gen = 0 → j.group = some g → (∀ k ∈ e.cmp.jobs, k.group = some g → k.engine = some en ∧ k.tile = n) →
          t.cmp.tiles = ((e.cmp.side ++ [(g, n, x)]).filter fun y => y.1 == g).foldl (fun c y => tput {} c y.2.1 y.2.2) e.cmp.tiles ∧ t.cmp.side = e.cmp.side.filter fun y => y.1 != g) ∧
        (j.gen ≠ 0 → t.cmp.tiles = e.cmp.tiles ∧ t.cmp.side = e.cmp.side) ∧
        (∀ l, j.gen ≠ 0 → e.join? j.gen = some l → t.cmp.late = e.cmp.late.map (doneTile j.gen n (e.composeTile l.layers n))) ∧
        t.cmp.layers = e.cmp.layers ∧ t = { e with cmp := t.cmp, obs := t.obs, cal := { e.cal with units := t.cal.units } }))) ∧
    (e.win.open_ = false ∨ e.running? en n = none → exec (.tileComplete dt en n) s = .next e)

/-- R153, R154 and R218: at the press cutoff every tile not dispatched, and every tile of a group that has one, is held; its layers are marked, and a region with a held tile has the age of what it still shows; PRESS_BUDGET_EXCEEDED is raised when there is a held tile, and no work is left that an engine has not begun. R30, R208, R240 and Table 12-2: at the walker's cutoff every slug of a walked quire not produced is held: its codes are those of its entry of the reference image, with the capture time of that entry, sent standing where its reference is certain; a slug whose entry is poisoned is not made, nor those of a quire that fails the impression. -/
def Obligations.CutoffsHold : Prop :=
  (∀ (dt : Nat) (s : State),
     let e := s.elapse dt
     let held := e.cmp.heldTiles ++ heldAtCutoff e.cmp.jobs e.cmp.side
     let ks := (held.map (·.layers)).flatten
     (e.win.open_ = true → e.win.pressCut = false → e.pressAt ≤ e.tim.time → (∃ t, exec (.pressCutoff dt) s = .next t ∧
       (t.cmp.heldTiles = held ∧ (∀ j ∈ t.cmp.jobs, j.engine.isSome = true ∧ j ∈ e.cmp.jobs) ∧
         (∀ j ∈ e.cmp.jobs, j.engine = none → j.gen = 0 → j.extra = false → unassigned j ∈ t.cmp.heldTiles) ∧ (held ≠ [] → e.raised t .pressBudgetExceeded 0) ∧ t.cmp.tiles = e.cmp.tiles ∧
         t.win = { e.win with pressCut := true, held := e.win.held || decide (held ≠ []), regionAges := t.win.regionAges, delayed := t.win.delayed } ∧
         (tabWf (fun _ => ({} : Layer)) e.cmp.layers = true → (∀ k, e.layer k ≠ {} → t.layer k = { e.layer k with held := decide (k ∈ ks) }) ∧
           ∀ r < 16, nthD 0 t.win.regionAges r = if 64 + r ∈ ks then (e.layer (64 + r)).capWas.age e.win.tFlip else nthD 0 e.win.regionAges r) ∧
         t.body = ({ e with cmp := t.cmp, win := t.win, hif := { e.hif with items := t.hif.items } } : State).body))) ∧
     (e.win.open_ = false ∨ e.win.pressCut = true ∨ e.tim.time < e.pressAt → exec (.pressCutoff dt) s = .next e)) ∧
  (∀ (dt : Nat) (s : State),
     let e := s.elapse dt
     (e.win.open_ = true → e.win.pressCut = true → e.win.walkCut = false → e.walkAt ≤ e.tim.time → (∃ t, exec (.walkerCutoff dt) s = .next t ∧
       (t.win = { e.win with walkCut := true, held := e.win.held || (List.range 16).any fun q => !(e.unproduced q).isEmpty } ∧
         (∀ q < 16, ∀ u ∈ e.unproduced q, u.1 / 64 = q → (e.refEntry u.1 u.2).bad = false → (t.ring q).failedFor ≠ some e.m →
           ∃ x, t.slug? u.1 u.2 0 = some x ∧ x.codes = whole (e.refEntry u.1 u.2).codes ∧ x.cap = (e.refEntry u.1 u.2).cap ∧ (x.method = 1 ↔ e.refOk u.1 u.2 = true)) ∧
         (∀ q < 16, ∀ u ∈ e.unproduced q, u.1 / 64 = q → (e.refEntry u.1 u.2).bad = true → t.slug? u.1 u.2 0 = none) ∧
         t.slg.refs = e.slg.refs ∧ t.body = ({ e with win := t.win, slg := t.slg, quires := t.quires } : State).body))) ∧
     (e.win.open_ = false ∨ e.win.pressCut = false ∨ e.win.walkCut = true ∨ e.tim.time < e.walkAt → exec (.walkerCutoff dt) s = .next e))

/-- R168, R232, R235, R240, R251, R255, R256 and R258: a slug an encoder completes holds the codes of its lamps, coded by the method R239 and R251 choose at the encoder's level, with their check and capture time, and its codes enter the reference image; every 256th non-standing slug of the encoder is held for the proof decoder. Without room in its quire's staging, its quire fails the impression. A slug whose page is not in the cache only stalls, and one that cannot be complete now changes nothing. R232: a slug held for the proof decoder is released when its decoding matches. When it does not, PROOF_DECODE_MISMATCH is raised on its encoder, which leaves service at MAJOR, the coding made is never sent, and another encoder codes the slug again with method 0. A slug that is not held for that encoder's check is not touched. -/
def Obligations.SlugsEncodedAndDecoded : Prop :=
  (∀ (dt en k sl gen : Nat) (s : State),
     let e := (s.elapse dt).strayUnit 10 en (32 + en)
     let codes := e.slugCodes gen k sl
     let level := e.slg.level - e.lowered en
     let c := encodeSlug (e.refOk k sl) (bit e.slg.ctrl 3) level (e.geom k).n ((e.geom k).lineOf sl) codes (e.refCodes k sl)
     let room := (e.stage (k / 64) (stagedBytes c.payload.length)).isSome
     let rest (t : State) : Prop := (∀ j, j ≠ k → t.leaf j = e.leaf j) ∧
       t.body = ({ e with slg := t.slg, leaves := t.leaves, quires := t.quires, cal := { e.cal with units := t.cal.units } } : State).body
     (e.canEncode en k sl gen = true → e.pageHere k sl = true → room = true → tabWf (fun _ => ({} : RefEntry)) e.slg.refs = true → (∃ t, exec (.slugEncoded dt en k sl gen) s = .next t ∧
       ((∃ x, t.slug? k sl gen = some x ∧ x.codes = codes ∧ x.crc = crcCodes codes ∧ x.cap = e.slugCap gen k sl ∧ x.method = c.method ∧ x.payload = c.payload ∧ x.encoder = en ∧ x.level = level ∧
         (x.checking = true ↔ c.method ≠ 1 ∧ (tget 0 e.slg.encCount en + 1) % 256 = 0)) ∧
         (t.refEntry k sl).codes = codes ∧ (t.refEntry k sl).cap = e.slugCap gen k sl ∧ (∀ j i, 4096 * j + i ≠ 4096 * k + sl → t.refEntry j i = e.refEntry j i) ∧ rest t))) ∧
     (e.canEncode en k sl gen = true → e.pageHere k sl = true → room = false → (∃ t, exec (.slugEncoded dt en k sl gen) s = .next t ∧
       ((t.ring (k / 64)).failedFor = some e.m ∧ t.slg.slugs = e.slg.slugs ∧ t.slg.refs = e.slg.refs ∧ t.leaves = e.leaves ∧ rest t))) ∧
     (e.canEncode en k sl gen = true → e.pageHere k sl = false → exec (.slugEncoded dt en k sl gen) s = .next { e with lmp := { e.lmp with stallsNow := e.lmp.stallsNow + 1 } }) ∧
     (e.canEncode en k sl gen = false → exec (.slugEncoded dt en k sl gen) s = .next e)) ∧
  (∀ (dt en k sl gen : Nat) (s : State),
     let e := s.elapse dt
     (∀ x, e.slug? k sl gen = some x → x.checking = true → x.encoder = en → (∃ t, exec (.proofDecodeDone dt en k sl gen true) s = .next t ∧
       ((∃ y, t.slug? k sl gen = some y ∧ y.checking = false ∧ y.codes = x.codes ∧ y.payload = x.payload) ∧ t.imp.decodedNow = e.imp.decodedNow + 1 ∧
         t.body = ({ e with slg := t.slg, quires := t.quires, imp := { e.imp with decodedNow := t.imp.decodedNow } } : State).body))) ∧
     (∀ x, e.slug? k sl gen = some x → x.checking = true → x.encoder = en → (e.stage (k / 64) (stagedBytes (literal x.codes).length)).isSome = true →
       (∃ t, exec (.proofDecodeDone dt en k sl gen false) s = .next t ∧
         (e.raised t .proofDecodeMismatch (instOf 10 en) ∧ (∃ y, t.slug? k sl gen = some y ∧ y.method = 0 ∧ y.payload = literal x.codes ∧ y.codes = x.codes ∧ y.cap = x.cap) ∧
           t.imp = { e.imp with decodeBad := e.imp.decodeBad + 1, decodedNow := e.imp.decodedNow + 1 } ∧
           (2 ≤ (e.raiseL .proofDecodeMismatch (instOf 10 en) [] false true).1 → en < 9 → (t.unit (32 + en)).st = .retired)))) ∧
     (∀ x ok, e.slug? k sl gen = some x → x.checking = false ∨ x.encoder ≠ en → exec (.proofDecodeDone dt en k sl gen ok) s = .next e) ∧
     (∀ ok, e.slug? k sl gen = none → exec (.proofDecodeDone dt en k sl gen ok) s = .next e))

/-- R182 and R183: a page of a table in use that the pager may read, or one to be fetched once more, arrives and decompresses, and is then in the cache; a page that fails is fetched once more, and a second failure makes its table LOST and raises TABLE_PAGE_MALFORMED. A page of no table in use, or one the pager must not read yet, changes nothing. R178, R179 and R181: a table staged is checked as a whole: it waits for its commit point when its directory, pages, CRC and size are good, and is refused otherwise with the status of its failing check. A table.verify is DONE with the table's identity and the check of its pages, or FAILED_UNIT with the first page that cannot be read or is not good. -/
def Obligations.MakereadyTables : Prop :=
  (∀ (dt k p : Nat) (ok : Bool) (s : State), tabWf (fun _ => ({} : Leaf)) s.leaves = true →
     let e := s.elapse dt
     let key := 256 * k + p
     let wanted (b : Table) : Prop := p ∈ b.retry ∨ key ∈ e.pageKeys ∧ e.mayFetch = true
     let good (b : Table) : Bool := ok && (decompressPage (nthD [] b.pages p)).isSome
     let others (t : State) : Prop := ∀ j, j ≠ k → t.leaf j = e.leaf j
     (∀ b, (e.leaf k).table = some b → wanted b → good b = true → (∃ t, exec (.pageFetch dt k p ok) s = .next t ∧
       (t.lmp.cache = (if key ∈ e.pageKeys then (key :: e.lmp.cache.filter fun c => c != key).take 768 else e.lmp.cache) ∧
         t.leaf k = { e.leaf k with table := some { b with retry := b.retry.filter fun x => x != p } } ∧ others t ∧
         t = { e with leaves := t.leaves, lmp := { e.lmp with cache := t.lmp.cache } }))) ∧
     (∀ b, (e.leaf k).table = some b → wanted b → good b = false → b.lost = false → p < b.pages.length → p ∉ b.retry → (∃ t, exec (.pageFetch dt k p ok) s = .next t ∧
       (t.leaf k = { e.leaf k with table := some { b with retry := p :: b.retry } } ∧ t.lmp.cache = e.lmp.cache.filter (fun c => c != key) ∧ others t ∧
         t = { e with leaves := t.leaves, lmp := { e.lmp with cache := t.lmp.cache } }))) ∧
     (∀ b, (e.leaf k).table = some b → good b = false → b.lost = false → p < b.pages.length → p ∈ b.retry → (∃ t, exec (.pageFetch dt k p ok) s = .next t ∧
       (t.leaf k = { e.leaf k with table := some { b with lost := true, bad := p :: b.bad, retry := [] } } ∧ e.raised t .tablePageMalformed (instOf 4 k) ∧ (∀ c ∈ t.lmp.cache, c / 256 ≠ k) ∧ others t ∧
         t.body = ({ e with leaves := t.leaves, lmp := { e.lmp with cache := t.lmp.cache } } : State).body))) ∧
     (∀ b, (e.leaf k).table = some b → ¬wanted b → exec (.pageFetch dt k p ok) s = .next e) ∧
     ((e.leaf k).table = none → exec (.pageFetch dt k p ok) s = .next e)) ∧
  (∀ (dt id : Nat) (s : State) (i : Item), (s.elapse dt).item? id = some i → i.phase = .working → (∀ x ∈ (s.elapse dt).hif.items, x.id = id → x = i) →
     let e := s.elapse dt
     let gone : List Item := e.hif.items.filter fun x => x.id != id
     let ended (st : Status) (det res : Nat) (t : State) : Prop :=
       t.told i.cq (i.completion st det 0 res false) ∧ t.body = ({ e with hif := { e.hif with items := gone } } : State).body
     (∀ ps, i.opcode = 0x0301 → tblPages i.desc i.buf = some ps → tblGood i.desc ps = true →
       let n := sumN (ps.map List.length)
       (∀ a u, n + e.tableBytes (tblLeaf i.desc) ≤ 2 ^ 32 → e.alloc clsPaging (extents n) = some (a, u) → (∃ t, exec (.tableLoadStaged dt id) s = .next t ∧
         ({ i with phase := .landing, stagedAt := e.tim.time, aux := a } ∈ t.hif.items ∧ t = { u with hif := { e.hif with items := t.hif.items } }))) ∧
       (2 ^ 32 < n + e.tableBytes (tblLeaf i.desc) ∨ e.alloc clsPaging (extents n) = none → ∃ t, exec (.tableLoadStaged dt id) s = .next t ∧ ended .refusedCapacity 3 0 t)) ∧
     (i.opcode = 0x0301 → tblPages i.desc i.buf = none ∨ (∃ ps, tblPages i.desc i.buf = some ps ∧ tblGood i.desc ps = false) → ∃ t, exec (.tableLoadStaged dt id) s = .next t ∧ ended .refusedMalformed 0 0 t) ∧
     (∀ b bad, i.opcode = 0x0302 → (e.leaf (tblLeaf i.desc)).table = some b → (∀ p < b.pages.length, b.pageBad bad p = false) →
       ∃ t, exec (.tableVerifyDone dt ⟨id, bad⟩) s = .next t ∧ ended .done b.id.toNat (crc32c ((b.pages.map fun p => (decompressPage p).getD []).flatten)).toNat t) ∧
     (∀ b bad, i.opcode = 0x0302 → (e.leaf (tblLeaf i.desc)).table = some b → ∀ p < b.pages.length, (∀ j < p, b.pageBad bad j = false) → b.pageBad bad p = true →
       (∃ t, exec (.tableVerifyDone dt ⟨id, bad⟩) s = .next t ∧ (t.told i.cq (i.completion .failedUnit (0x10000 + p) 0 0 false) ∧ t.hif.items = gone))) ∧
     (∀ bad, i.opcode = 0x0302 → (e.leaf (tblLeaf i.desc)).table = none → ∃ t, exec (.tableVerifyDone dt ⟨id, bad⟩) s = .next t ∧ ended .failedUnit 0 0 t))

/-- R22, R239, R325 and R329: the commit deadline, when it has come, fails every slug of the impression not acknowledged, notes one delivery entry for each enabled quire, keeps as certain the slugs whose references are settled, and queues the impression's record group. The set-up, the counter and module time stay. R231, R454 and Table 6-8: half a period after its flip, while no orderly stop is in progress, the oldest record group is written, its summary record and its quire records together, and the counts of that impression are what the registers show as the last closed one; each leaf in use whose report never came leaves two proofs missing. -/
def Obligations.DeadlineAndRecords : Prop :=
  (∀ (dt : Nat) (s : State),
     let e := s.elapse dt
     (e.win.open_ = true → e.win.walkCut = true → e.win.deadline = false → e.deadlineAt ≤ e.tim.time → (∃ t, exec (.commitDeadline dt) s = .next t ∧
       (t.win = { e.win with deadline := true } ∧ (∀ x ∈ t.slg.slugs, x.imp = e.m → x.acked = false → x.failed = true) ∧ t.slg.slugs = e.slg.slugs.map (failSlug e.m) ∧
         (∃ g, t.groups = e.groups ++ [g] ∧ g.w.imp = e.m ∧ g.deliveries = e.enabledQuires.map e.delivery) ∧ t.slg.certain = e.settled ∧
         t.imp = e.imp ∧ t.tim = e.tim ∧ t.lanes = e.lanes ∧ t.quires = e.quires ∧ t.thp = e.thp))) ∧
     (e.win.open_ = false ∨ e.win.walkCut = false ∨ e.win.deadline = true ∨ e.tim.time < e.deadlineAt → exec (.commitDeadline dt) s = .next e)) ∧
  (∀ (dt : Nat) (s : State),
     let e := s.elapse dt
     (∀ g r, e.groups = g :: r → e.groupDue g = true → (∃ t, exec (.recordGroupClose dt) s = .next t ∧
       (let miss := e.missingProofs g
       let recs := groupRecs (e.limit e.cmp.friskAge) g (dedup g.proofLeaves)
       t.groups = r ∧ t.slg = { e.slg with last := g.counts, bits := g.bits } ∧
         t.imp = { e.imp with decoded := g.decoded, ageUsed := g.ageUsed, merged := g.merged, proofMissing := satU 16 (2 * miss.length) } ∧
         t.lmp = { e.lmp with stalls := g.stalls, closed := g.lamps } ∧ t.tim = e.tim ∧ t.cmp = e.cmp ∧ t.lanes = e.lanes ∧
         (miss = [] → e.hif.evqOnce = true → e.canWrite = true → (e.cq 32).lostNew = 0 → recs.length ≤ e.qFree 32 → ∀ x ∈ recs, ∃ i ph, Output.evqEntry i ph x ∈ t.out)))) ∧
     (∀ g r, e.groups = g :: r → e.groupDue g = false → exec (.recordGroupClose dt) s = .next e) ∧
     (e.groups = [] → exec (.recordGroupClose dt) s = .next e))

/-- R20, R138, R215 and R392: the tick, when it has come, ends the window in hand; it raises the impression counter and notes the flip time, but for the first tick of the generator, which does neither. A pending P comes into force at its t_c, from the first tick of the new schedule no sooner than one new P after it, and S then is at most half of it; a CMP_SOFFSET written before the tick comes into force at the next commit point. -/
def Obligations.Tick : Prop :=
  ∀ (dt : Nat) (s : State),
    let e := s.elapse dt
    (∀ p, e.tim.pUse = some p → e.tim.genRun = true → e.nextTick ≤ e.tim.time → (∃ t, exec (.tick dt) s = .next t ∧
      (t.win.open_ = false ∧ t.tim.tickAt = e.nextTick ∧ t.tim.ticks = e.tim.ticks + 1 ∧ t.tim.time = e.tim.time ∧ t.cmp.sPend = e.cmp.sPend.map (fun x => (x.1, true)) ∧
        (e.tim.ticks ≠ 0 → t.imp.counter = e.imp.counter + 1 ∧ t.imp.flip = e.nextTick / nsU) ∧ (e.tim.ticks = 0 → t.imp.counter = e.imp.counter ∧ t.imp.flip = e.imp.flip) ∧
        (e.tim.pPend = none → t.tim.pUse = some p ∧ t.tim.tickK = e.tim.tickK + 1) ∧
        (∀ new kc, e.tim.pPend = some (new, kc) → e.tim.tickK + 1 < kc → t.tim.pUse = some p ∧ t.tim.pPend = e.tim.pPend ∧ t.tim.tickK = e.tim.tickK + 1) ∧
        (∀ new kc, e.tim.pPend = some (new, kc) → kc ≤ e.tim.tickK + 1 →
          t.tim.pUse = some new ∧ t.tim.pPend = none ∧ t.tim.tickK = firstNew p new (e.tim.tickK + 1) ∧ t.cmp.sUs = min e.cmp.sUs (periodU new / 2 / usU))))) ∧
    (e.tim.genRun = false ∨ e.tim.pUse = none ∨ e.tim.time < e.nextTick → exec (.tick dt) s = .next e)

/-- R138, R163, R201, R211, R212, R214 and Tables 6-3 and 6-4: IMP_COMMIT takes a snapshot of the shadow copy, whose checks leave it PENDING or answer with the first that fails; LIVE is set only while no Frisket region is defined, and clearing it copies the set-up in force into the shadow copy; CMP_TM_COMMIT waits for its commit point, as CMP_SOFFSET does, which is stored as at most half of P; and LMP_LEAF_SEL latches the registers of its leaf from the last closed impression. Nothing else changes. -/
def Obligations.SetUpsCommitted : Prop :=
  ∀ (dt : Nat) (v : Word) (s : State),
    let e := s.elapse dt
    (bit v 0 = true → e.imp.checking = false → e.imp.pend = false → exec (.impCommit dt v) s = .next { e with imp := { e.imp with snap := some e.shadowSetup, checking := true } }) ∧
    (bit v 0 = false ∨ e.imp.checking = true ∨ e.imp.pend = true → exec (.impCommit dt v) s = .next e) ∧
    (∀ u, e.imp.snap = some u → e.imp.checking = true → u.check e.leaves e.tim.pUse e.cmp.sUs = none → exec (.impCheckDone dt) s = .next { e with imp := { e.imp with checking := false, pend := true } }) ∧
    (∀ u st leaf why, e.imp.snap = some u → e.imp.checking = true → u.check e.leaves e.tim.pUse e.cmp.sUs = some (st, leaf, why) →
      exec (.impCheckDone dt) s = .next { e with imp := { e.imp with checking := false, snap := none, result := resultWord st leaf why } }) ∧
    (e.imp.snap = none ∨ e.imp.checking = false → exec (.impCheckDone dt) s = .next e) ∧
    (bit v 0 = true → e.friskDefined = false → exec (.liveWrite dt v) s = .next { e with regs := tput (rwReset 0x4004) e.regs 0x4004 1, imp := { e.imp with live := true, liveRefused := false } }) ∧
    (bit v 0 = true → e.friskDefined = true → exec (.liveWrite dt v) s = .next { e with regs := tput (rwReset 0x4004) e.regs 0x4004 0, imp := { e.imp with live := false, liveRefused := true } }) ∧
    (bit v 0 = false → e.imp.live = false → exec (.liveWrite dt v) s = .next { e with regs := tput (rwReset 0x4004) e.regs 0x4004 0, imp := { e.imp with live := false, liveRefused := false } }) ∧
    (bit v 0 = false → e.imp.live = true → exec (.liveWrite dt v) s = .next { e with
      regs := tput (rwReset 0x4004) (tput (rwReset 0x2008) e.regs 0x2008 e.imp.setup.canvas) 0x4004 0,
      imp := { e.imp with live := false, liveRefused := false, shadow := e.imp.setup.leaves } }) ∧
    (exec (.toneMapCommit dt v) s = .next { e with cmp := { e.cmp with toneCommit := e.cmp.toneCommit || bit v 0 } }) ∧
    ((∃ t, exec (.soffsetWrite dt v) s = .next t ∧ (t.cmp = { e.cmp with sPend := some (e.capS (bits v 0 16), false), soffRefused := false } ∧
      (tabWf rwReset e.regs = true → bits (t.reg 0x200C) 0 16 = e.capS (bits v 0 16)) ∧ (∀ o, o ≠ 0x200C → t.reg o = e.reg o) ∧ t = { e with regs := t.regs, cmp := t.cmp }))) ∧
    ((∃ t, exec (.lmpLeafSelect dt v) s = .next t ∧ ((∀ j < 9, tget (rwReset (0x3084 + 4 * j)) t.lmp.latched (0x3084 + 4 * j) = nthD 0 (tget lampRegs0 e.lmp.closed (bits v 0 10)) j) ∧
      (∀ o, o ≠ 0x3080 → t.reg o = e.reg o) ∧ t = { e with regs := t.regs, lmp := { e.lmp with latched := t.lmp.latched } })))

/-- R311, R312, R318, R347, R348, R352, R353 and Table 9-15: a quire whose wait or bad count ends, or whose adoption ends with no leaf enrolled, is ADOPTING under a tag that is not 0 and was not drawn before, once the entropy source is ready; every leaf loses its enrollment, and ADOPT goes out on every lane-end that is UP. Adoption that ends with leaves enrolled leaves the quire RUNNING in epoch 1 with the balanced plan and its CLAIMs. ADOPT is repeated when due. Before its time nothing changes. The number of tags drawn is taken to be below 2^63. R210, R313, R321 and R322: an ENROLL that passes R308, is no second copy and is consistent enrols its position with its identity and figures; it is foreign, and raises LEAF_FOREIGN, when no admission record fits it, and otherwise a SPARE leaf is to enter service; MISMATCH is judged on its figures; and the quire is RUNNING once every position is enrolled. One that is not consistent, while ADOPTING, leaves the quire in BAD_COUNT and raises QUIRE_CLOSURE_MISMATCH. A second copy, or an ENROLL that comes in BAD_COUNT or is not consistent while RUNNING, enrols nothing. -/
def Obligations.SessionsAndEnrollment : Prop :=
  (∀ (dt q : Nat) (s : State), q < 16 → s.upd.tags.length < 2 ^ 63 → tabWf (fun _ => ({} : Leaf)) s.leaves = true →
     let e := s.elapse dt
     let x := e.quire q
     let may := x.st = .wait ∧ (e.upDirs q).isSome = true ∧ e.upd.entReady = true ∧ 6 ≤ e.sys.stage ∧ e.sys.txOffTo ≤ e.clk
     let past (st : QSt) := x.st = st ∧ x.since + secU ≤ e.clk
     let adopted (t : State) : Prop := let tag := (t.quire q).tag
       (t.quire q).st = .adopting ∧ tag ≠ 0 ∧ tag ∉ e.upd.tags ∧ t.upd = { e.upd with tags := tag :: e.upd.tags } ∧ (t.quire q).since = e.clk ∧ (t.quire q).ready = false ∧
         (∀ i < 64, (t.leaf (64 * q + i)).enrolled = false ∧ (t.leaf (64 * q + i)).nextSeq = 1) ∧ (∀ j, j / 64 ≠ q → t.leaf j = e.leaf j) ∧ (∀ p, p ≠ q → t.quire p = e.quire p) ∧
         (∀ d < 2, e.endUp q d = true → .packet q d tag (.adopt tag (e.nLeaves q) d q) ∈ t.out) ∧
         t.body = ({ e with fresh := e.fresh + 1, upd := t.upd, leaves := t.leaves, quires := t.quires } : State).body
     (may → (∃ t, exec (.quireAdoptStart dt q) s = .next t ∧ adopted t)) ∧
     (¬may → exec (.quireAdoptStart dt q) s = .next e) ∧
     (past .badCount → e.upd.entReady = true → (∃ t, exec (.badCountTimeout dt q) s = .next t ∧ adopted t)) ∧
     (¬past .badCount ∨ e.upd.entReady = false → exec (.badCountTimeout dt q) s = .next e) ∧
     (past .adopting → e.enrolledAt q = [] → e.upd.entReady = true → (∃ t, exec (.adoptingTimeout dt q) s = .next t ∧ adopted t)) ∧
     (past .adopting → e.enrolledAt q ≠ [] → (∃ t, exec (.adoptingTimeout dt q) s = .next t ∧
       ((t.quire q).st = .running ∧ (t.quire q).since = e.clk ∧ (t.quire q).epoch = 1 ∧ (t.quire q).ready = false ∧ (t.quire q).tag = x.tag ∧
         (∀ i < e.nLeaves q, (t.leaf (64 * q + i)).feed = x.adjust i (splitAt (e.balancedK q) i)) ∧
         (∀ n < 2, .packet q 2 x.tag (.claim 1 n (t.runOf q (n + 1)).1 (t.runOf q (n + 1)).2) ∈ t.out) ∧ t.body = ({ e with leaves := t.leaves, quires := t.quires } : State).body))) ∧
     (¬past .adopting ∨ e.enrolledAt q = [] ∧ e.upd.entReady = false → exec (.adoptingTimeout dt q) s = .next e) ∧
     (e.adoptDue q = true → (∃ t, exec (.adoptSend dt q) s = .next t ∧
       ((∀ d < 2, e.endUp q d = true → .packet q d x.tag (.adopt x.tag (e.nLeaves q) d q) ∈ t.out) ∧ t.body = ({ e with quires := tput {} e.quires q { x with adoptAt := e.clk } } : State).body))) ∧
     (e.adoptDue q = false → exec (.adoptSend dt q) s = .next e)) ∧
  (∀ (dt : Nat) (i : Ins) (r : Enroll) (s : State), tabWf (fun _ => ({} : Leaf)) s.leaves = true →
     let e := s.elapse dt
     let q := i.quire
     let k := 64 * q + i.leaf
     let st := (e.quire q).st
     let g := e.geom k
     e.insPass i 9 (enrollBody r) = true →
     (st = .adopting ∨ st = .running → e.secondCopy i r = false → e.enrollOk q i.leaf r = true → (∃ t, exec (.enrollReport dt i r) s = .next t ∧
       (let l := t.leaf k
       l.enrolled = true ∧ l.maker = r.maker ∧ l.model = r.model ∧ l.serial = r.serial ∧ l.lamps = r.lamps ∧ l.nLamp = r.n ∧ l.budget = r.budget ∧ l.nextSeq = 1 ∧
         (l.foreign = true ↔ ¬∃ a, (e.leaf k).adm = some a ∧ a.fits r.maker r.model r.serial = true) ∧ (l.foreign = true → tget 0 t.flt.raises 0x0204 = tget 0 e.flt.raises 0x0204 + 1) ∧
         (l.entering = true ↔ l.foreign = false ∧ (e.leaf k).unit = .spare) ∧ (l.mismatch = true ↔ g.en = true ∧ (r.lamps ≠ g.lamps ∨ r.n ≠ g.n)) ∧
         (∀ j, j ≠ k → t.leaf j = { e.leaf j with feed := (t.leaf j).feed }) ∧ (st = .running → (t.quire q).st = .running) ∧
         (st = .adopting → ((t.quire q).st = .running ↔ (t.enrolledAt q).length = t.nLeaves q)) ∧ t.body = ({ e with leaves := t.leaves, quires := t.quires } : State).body))) ∧
     (st = .adopting → e.secondCopy i r = false → e.enrollOk q i.leaf r = false → (∃ t, exec (.enrollReport dt i r) s = .next t ∧
       ((t.quire q).st = .badCount ∧ (t.quire q).since = e.clk ∧ e.raised t .quireClosureMismatch (instOf 3 (2 * q)) ∧ (t.leaf k).enrolled = (e.leaf k).enrolled ∧
         t.body = ({ e with leaves := t.leaves, quires := t.quires } : State).body))) ∧
     (e.secondCopy i r = true ∨ st = .badCount ∨ st = .running ∧ e.enrollOk q i.leaf r = false → (∃ t, exec (.enrollReport dt i r) s = .next t ∧
       (t.leaf k = { e.leaf k with lastHeard := e.imp.counter, lostEp := false } ∧ (∀ j, j ≠ k → t.leaf j = e.leaf j) ∧ (t.quire q).st = st ∧
         t.body = ({ e with leaves := t.leaves, quires := t.quires } : State).body))))

/-- R189, R195, R198, R199, R229, R230, R306, R330, R331, R333, R334, R335 and R346: what a report of a leaf that passes R308 changes. A FLIP report gives the leaf's temperature, ends or begins its LEAF_FLIP_LATE episode, and in time has its proofs compared with those expected; a SENSOR report gives its readings but for those of 0, and the keeper takes its step; a RESULT ends the command it answers and the leaf.command that caused it, whose response is written to its buffer or FAILED_UNIT where that write fails; CHECKWORD and MIRROR reports are counted and raised. A second copy from the other direction changes nothing more, and no report of one leaf changes another leaf. R346: a leaf in use from which nothing has come for 8 impressions after the one in which it was last heard is LEAF_LOST, raised once for the episode, and IN_SERVICE becomes DEGRADED at MAJOR or above; one whose FLIP report has not come by half a period after the flip is LEAF_FLIP_LATE, once. R397: a TIME that is due goes out on each lane-end that is UP with the time at which it departs, the state of the servo and RATE; the SEQ of its sheet is a free value. -/
def Obligations.LeafReportsAndWatch : Prop :=
  (∀ (dt : Nat) (i : Ins) (s : State), tabWf (fun _ => ({} : Leaf)) s.leaves = true →
     let e := s.elapse dt
     let k := 64 * i.quire + i.leaf
     let l := e.leaf k
     let rest (t : State) : Prop := (∀ j, j ≠ k → t.leaf j = e.leaf j) ∧ (∀ q, q ≠ i.quire → t.quire q = e.quire q)
     let first (b : List Byte) : Bool := ((l.copies.filter fun c => decide (e.clk < c.2.1 + msU)).findIdx? (secondOf i (insBytes i 9 b) e.clk)).isNone
     let plain (t : State) : Prop := rest t ∧ t.body = ({ e with leaves := t.leaves, quires := t.quires } : State).body
     (∀ r, e.insPass i 9 (flipBody r) = true → (∃ t, exec (.flipReport dt i r) s = .next t ∧
       (let y := t.leaf k
       y.temp = r.temp ∧ y.tempAt = e.clk ∧ y.tempSeen = true ∧ y.rejected = r.rejected ∧ (bit r.flags 0 = true → y.lateEp = false) ∧ (bit r.flags 0 = false → l.inUse = true → y.lateEp = true) ∧
         (∀ g h, r.sched = e.imp.counter → e.tim.time ≤ e.tim.tickAt + e.periodNow / 2 → (e.groups.find? fun g => g.w.imp == r.sched) = some g → (e.hdrs.find? fun h => h.imp == r.shown) = some h →
           k ∉ g.reported → l.inUse = true → y.fproofMissing = 0 ∧ (y.fproofBad = true ↔ (e.expected h k r).1 ≠ r.frisket) ∧ (y.rangeBad = true ↔ (e.expected h k r).2 ≠ r.range) ∧
             ((e.expected h k r).1 ≠ r.frisket → tget 0 t.flt.raises (Src.frisketProofMismatch).info.1 = tget 0 e.flt.raises (Src.frisketProofMismatch).info.1 + 1)) ∧ rest t ∧
         t.body = ({ e with leaves := t.leaves, quires := t.quires, groups := t.groups, imp := { e.imp with proofBad := t.imp.proofBad } } : State).body))) ∧
     (∀ q, e.insPass i 9 (sensorBody q) = true → first (sensorBody q) = true → (∃ t, exec (.sensorReport dt i q) s = .next t ∧
       ((t.leaf k).q = (List.range 4).map (fun c => if (nthD 0 q c).toNat = 0 then nthD (0, 0) l.q c else ((nthD 0 q c).toNat, e.clk)) ∧ (e.sys.supRun = false → (t.leaf k).trim = l.trim) ∧
         (∀ c < 4, ∀ e0, e.sys.supRun = true → bit (e.lmpReg 0x3004) 0 = true → l.trim.length = 4 → nthD none l.e0 c = some e0 → (nthD 0 q c).toNat ≠ 0 →
           bits (e.lmpReg 0x3018) 8 8 ≤ nthD 0 l.reports c + 1 →
           nthD 0 (t.leaf k).trim c = (keeperStep (bits (e.lmpReg 0x3018) 0 8) (e0 - nthD 0 e.lmp.kappa c - qLog (nthD 0 q c).toNat) (nthD 0 l.trim c)).1) ∧ plain t))) ∧
     (∀ q, e.insPass i 9 (sensorBody q) = true → first (sensorBody q) = false → (∃ t, exec (.sensorReport dt i q) s = .next t ∧ ((t.leaf k).q = l.q ∧ (t.leaf k).trim = l.trim ∧ plain t))) ∧
     (∀ r c, e.insPass i 9 (resultBody r) = true → (l.cmds.find? fun c => c.seq == r.seq && c.sent && !c.dead) = some c → (∃ t, exec (.resultReport dt i r) s = .next t ∧
       ((∀ x ∈ (t.leaf k).cmds, x.seq = r.seq → x.dead = true) ∧ (t.leaf k).answered = max l.answered r.seq ∧ rest t ∧
         (∀ id x, c.item = some id → e.item? id = some x → x.opcode = 0x0402 →
           let out := r.data.take (prm x.desc 6 2)
           if out = [] then t.told x.cq (x.completion (if x.late then .doneLate else .done) 0 r.applied r.status.toNat false)
           else if e.canWrite = false ∨ Config.resultWriteFails e.fresh = true then t.told x.cq (x.completion .failedUnit 2 0 0 false)
           else .bufWrite (BitVec.ofNat 64 (dAddr x.desc)) out ∈ t.out ∧ t.told x.cq (x.completion (if x.late then .doneLate else .done) out.length r.applied r.status.toNat false)) ∧
         t.body = ({ e with leaves := t.leaves, quires := t.quires, hif := { e.hif with items := t.hif.items }, fresh := t.fresh } : State).body))) ∧
     (∀ r, e.insPass i 9 (resultBody r) = true → (l.cmds.find? fun c => c.seq == r.seq && c.sent && !c.dead) = none →
       (∃ t, exec (.resultReport dt i r) s = .next t ∧ ((t.leaf k).cmds = l.cmds ∧ t.hif.items = e.hif.items ∧ plain t))) ∧
     (∀ m g n, e.insPass i 9 (checkwordBody m g n) = true → (∃ t, exec (.checkwordReport dt i m g n) s = .next t ∧ (plain t ∧
       (first (checkwordBody m g n) = true → (t.leaf k).checkwords = satU 16 (l.checkwords + 1) ∧ tget 0 t.flt.raises 0x0208 = tget 0 e.flt.raises 0x0208 + 1 ∧
         tget 0 t.flt.raises 0x0207 = tget 0 e.flt.raises 0x0207 + b2n (!l.inUse)) ∧
       (first (checkwordBody m g n) = false → (t.leaf k).checkwords = l.checkwords ∧ t.flt.seq = e.flt.seq)))) ∧
     (∀ ty p n w, e.insPass i 9 (mirrorBody ty p n w) = true → (∃ t, exec (.mirrorReport dt i ty p n w) s = .next t ∧ (plain t ∧
       (first (mirrorBody ty p n w) = true → e.raised t .mirrorMismatch (instOf 4 k)) ∧ (first (mirrorBody ty p n w) = false → t.flt.seq = e.flt.seq))))) ∧
  (∀ (dt k q : Nat) (s : State),
     let e := s.elapse dt
     let l := e.leaf k
     (l.inUse = true → l.lostEp = false → max (l.lastHeard + 1) l.inUseFrom + 8 ≤ e.imp.counter → (∃ t, exec (.leafLost dt k) s = .next t ∧
       (e.raised t .leafLost (instOf 4 k) ∧ (t.leaf k).lostEp = true ∧ ((t.leaf k).unit = l.unit ∨ (t.leaf k).unit = .degraded) ∧ (2 ≤ e.severity .leafLost → (t.leaf k).unit = .degraded) ∧
         (∀ j, j ≠ k → t.leaf j = e.leaf j) ∧ t.body = ({ e with leaves := t.leaves } : State).body))) ∧
     (l.inUse = false ∨ l.lostEp = true ∨ e.imp.counter < max (l.lastHeard + 1) l.inUseFrom + 8 → exec (.leafLost dt k) s = .next e) ∧
     (e.flipMissing k = true → (∃ t, exec (.leafFlipLate dt k) s = .next t ∧
       (e.raised t .leafFlipLate (instOf 4 k) ∧ t.body = ({ e with leaves := tput {} e.leaves k { l with lateEp := true } } : State).body))) ∧
     (e.flipMissing k = false → exec (.leafFlipLate dt k) s = .next e) ∧
     (q < 16 → e.timeDue q = true → (∃ t, exec (.timePacketSend dt q) s = .next t ∧
       ((∀ d < 2, e.endUp q d = true → ∃ seq, .packet q d (e.quire q).tag (.time seq e.tim.time (b2n (decide (e.tim.servo = .locked)) + 2 * b2n (decide (e.tim.servo = .holdover)) + 4 * d) e.tim.rate) ∈ t.out) ∧
         t = { e with out := t.out, fresh := e.fresh + b2n (e.endUp q 0) + b2n (e.endUp q 1), quires := tput {} e.quires q { e.quire q with timeAt := e.clk } }))) ∧
     (16 ≤ q ∨ e.timeDue q = false → exec (.timePacketSend dt q) s = .next e))

/-- R306, R307 and R308: a packet of a leaf that is errored, whose CHECK is not that of its bytes, or that does not carry the tag of a quire in session is discarded: of what a report would change, only the count of packets discarded on an existing quire that is not OFF rises. R19, R241, R306, R325, R328 and R366: an ACK that passes R308 and is no second copy acknowledges the slugs and header parts its entries name, and no slug else; one that its leaf's state forbids raises UNIT_STATE_CONFLICT. A slug whose replay interval has passed without an acknowledgement, and for which its lane-end has room, is sent again with REPLAY set, and the second time as a literal. A second copy, or a replay when copies may no longer start, changes no slug. R6, R7, R234, R307, R318, R320, R331 and Tables 9-2, 9-3, 9-10 and 9-11: a packet on a lane-end of a quire is its header, its body and CHECK, most significant byte first: TYPE, FLAGS with MIRROR, LENGTH, LEAF and SESSION stand in the header, CHECK is the CRC-32C over the header and over the body but for a slug's payload; an ADOPT has HOP 0 and NEW_SESSION as given, a COMMAND its SEQ, OPCODE and data, and a slug its 16 bytes of header and its payload padded with 0 to a byte. -/
def Obligations.AcksAndReplays : Prop :=
  (∀ (dt ty : Nat) (c : Instr) (b : List Byte) (i : Ins) (s : State),
     (∃ es r f q z imp g n tp p w, c = .ackReceive dt i es ∧ ty = 8 ∧ b = ackBody es ∨ c = .enrollReport dt i r ∧ ty = 9 ∧ b = enrollBody r ∨ c = .flipReport dt i f ∧ ty = 9 ∧ b = flipBody f ∨
       c = .sensorReport dt i q ∧ ty = 9 ∧ b = sensorBody q ∨ c = .resultReport dt i z ∧ ty = 9 ∧ b = resultBody z ∨ c = .checkwordReport dt i imp g n ∧ ty = 9 ∧ b = checkwordBody imp g n ∨
       c = .mirrorReport dt i tp p n w ∧ ty = 9 ∧ b = mirrorBody tp p n w) →
     let e := s.elapse dt
     e.insPass i ty b = false →
     (i.quire < 16 → (e.quire i.quire).st ≠ .off → (∃ t, exec c s = .next t ∧
       (t = { e with obs := t.obs, quires := tput {} e.quires i.quire { e.quire i.quire with insBad := e.clk :: lastSec e.clk (e.quire i.quire).insBad } }))) ∧
     (16 ≤ i.quire ∨ (e.quire i.quire).st = .off → exec c s = .next e)) ∧
  (∀ (dt : Nat) (s : State),
     let e := s.elapse dt
     (∀ i es, e.insPass i 8 (ackBody es) = true → (∃ t, exec (.ackReceive dt i es) s = .next t ∧
       (let k := 64 * i.quire + i.leaf
       let first : Bool := (((e.leaf k).copies.filter fun c => decide (e.clk < c.2.1 + msU)).findIdx? (secondOf i (insBytes i 8 (ackBody es)) e.clk)).isNone
       (first = true → ∀ a ∈ es, a.batch ≠ 255 → ∀ x ∈ e.slg.slugs, ackCovers a k x = true → x.waiting = true → bit a.bitmap (x.slug % 64) = true →
         (∀ y ∈ e.slg.slugs, y.leaf = x.leaf → y.slug = x.slug → y.imp = x.imp → y.gen = x.gen → y = x) →
         ∃ y ∈ t.slg.slugs, y.leaf = x.leaf ∧ y.slug = x.slug ∧ y.imp = x.imp ∧ y.gen = x.gen ∧ y.acked = true) ∧
         (∀ y ∈ t.slg.slugs, y.acked = true → (∃ x ∈ e.slg.slugs, x.leaf = y.leaf ∧ x.slug = y.slug ∧ x.imp = y.imp ∧ x.gen = y.gen ∧ x.acked = true) ∨
           ∃ a ∈ es, ackCovers a k y = true ∧ bit a.bitmap (y.slug % 64) = true) ∧
         (first = true → ∀ a ∈ es, a.batch = 255 → a.imp.toNat = e.m % 65536 → ∀ p < 17, bit a.bitmap p = true → (i.leaf, p) ∈ (t.quire i.quire).hdrAcks) ∧
         (first = true → tget 0 t.flt.raises 0x0207 = tget 0 e.flt.raises 0x0207 + b2n (ackForbidden (e.leaf k).unit es)) ∧
         (first = false → t.slg = e.slg ∧ (t.quire i.quire).hdrAcks = (e.quire i.quire).hdrAcks ∧ t.flt.seq = e.flt.seq) ∧
         t.body = ({ e with slg := t.slg, quires := t.quires, leaves := t.leaves } : State).body))) ∧
     (∀ k sl gen x d, e.slug? k sl gen = some x → x.waiting = true → x.sentAt + e.replayU ≤ e.clk → e.delivering = true → e.slugDir x = some d →
       (∃ t, exec (.replayTimeout dt k sl gen) s = .next t ∧
         (let tag := (e.quire (k / 64)).tag
         (x.copies ≠ 2 → e.roomFor x d = true → .packet (k / 64) d tag (x.pkt true) ∈ t.out ∧
           ∃ y, t.slug? k sl gen = some y ∧ y.copies = x.copies + 1 ∧ y.sentAt = e.clk ∧ y.sentOn = some d ∧ y.codes = x.codes) ∧
         (x.copies = 2 → e.roomFor (asLiteral x) d = true → (e.stage (k / 64) (stagedBytes 8192)).isSome = true → .packet (k / 64) d tag ((asLiteral x).pkt true) ∈ t.out ∧
           ∃ y, t.slug? k sl gen = some y ∧ y.method = 0 ∧ y.codes = x.codes) ∧
         (x.copies = 2 → e.roomFor (asLiteral x) d = true → (e.stage (k / 64) (stagedBytes 8192)).isSome = false → (t.ring (k / 64)).failedFor = some e.m) ∧
         t.body = ({ e with slg := t.slg, quires := t.quires } : State).body))) ∧
     (∀ k sl gen, e.delivering = false → exec (.replayTimeout dt k sl gen) s = .next e)) ∧
  ((∀ (p : QPkt) (dirs : Nat) (tag : DWord),
     let b := p.bytes dirs tag
     let n := p.body.length
     b.length = 20 + n ∧ beNat (slice b 0 1) = p.type ∧ beNat (slice b 1 1) = b2n (p.mirror dirs) ∧ beNat (slice b 2 2) = (20 + n) % 65536 ∧ beNat (slice b 4 1) = p.leaf % 256 ∧ slice b 5 3 = [0, 0, 0] ∧
       beNat (slice b 8 8) = tag.toNat ∧ slice b 16 n = p.body ∧ beNat (slice b (16 + n) 4) = (crc32c (b.take 16 ++ p.covered)).toNat ∧ (p.type ≠ 2 → p.covered = p.body)) ∧
   (∀ (tag : DWord) (leaves endNo q : Nat), let b := QPkt.body (.adopt tag leaves endNo q)
     b.length = 32 ∧ beNat (slice b 4 2) = 1 ∧ beNat (slice b 16 8) = tag.toNat ∧ beNat (slice b 24 1) = 0 ∧ beNat (slice b 25 1) = leaves % 256 ∧ beNat (slice b 26 1) = endNo % 256 ∧ beNat (slice b 27 1) = q % 256) ∧
   (∀ (leaf seq target : Nat) (op : Half) (data : List Byte), let b := QPkt.body (.command leaf seq op target data)
     beNat (slice b 0 4) = seq % 2 ^ 32 ∧ beNat (slice b 4 2) = op.toNat ∧ beNat (slice b 6 2) = data.length % 65536 ∧ beNat (slice b 8 8) = target % 2 ^ 64 ∧ b.drop 16 = data) ∧
   (∀ (leaf no imp gen method level age len flags : Nat) (crc : Word) (pay : List Bool), let b := QPkt.body (.slug leaf no imp gen method level age len flags crc pay)
     b.length = 20 + (pay.length + 7) / 8 ∧ beNat (slice b 4 16) = (headerBits leaf no imp gen method level age len flags crc).toNat ∧
       (∀ k < pay.length, bit (b.getD (20 + k / 8) 0) (7 - k % 8) = nthD false pay k) ∧ (∀ k, pay.length ≤ k → k / 8 < (pay.length + 7) / 8 → bit (b.getD (20 + k / 8) 0) (7 - k % 8) = false) ∧
       (QPkt.covered (.slug leaf no imp gen method level age len flags crc pay)) = b.take 20) ∧
   (∀ (s : State) (q dirs : Nat) (p : QPkt) (d : Nat) (l : List Byte), (q, d, l) ∈ (Output.packet q dirs (s.quire q).tag p).onQuire ↔ (d = dirs ∧ dirs ≠ 2 ∨ dirs = 2 ∧ d < 2) ∧ l = p.bytes dirs (s.quire q).tag))

/-- R269, R274, R356, R357, R370 and R375: a matched sheet ends a run of bad ones and, as the 1,024th in a row, begins the healing of an open direction. A sheet missing, mismatched or errored counts toward the run, whose third opens the direction's closure and raises QUIRE_CLOSURE_MISMATCH for a new episode, where no break and no lane loss explains it. A BREAK opens the direction of its port at once and raises QUIRE_BREAK for a new one. A direction of a quire that is OFF, a lane that is not UP and a SEQ of no data sheet take nothing. -/
def Obligations.RingClosure : Prop :=
  ∀ (dt q d seq : Nat) (s : State), q < 16 → d < 2 →
    let e := s.elapse dt
    let x := e.quire q
    let y := x.dir d
    let opens := y.badRun = 2 ∧ y.broken = false ∧ e.endUp q (1 - d) = true
    let bad (b t : State) : Prop :=
      (¬opens → t.body = ({ b with quires := tput {} e.quires q (x.setDir d { y with badRun := y.badRun + 1, goodRun := 0, badAt := e.clk :: lastSec e.clk y.badAt }) } : State).body) ∧
        (opens → ((t.quire q).dir d).st = .open_ ∧ ((t.quire q).dir d).badRun = 0 ∧ ((t.quire q).dir d).mismEp = true ∧ (y.mismEp = false → e.raised t .quireClosureMismatch (instOf 3 (2 * q + d))) ∧
          (x.st = .running → y.st = .closed → .unlocated d ∈ (t.quire q).evid) ∧ t.body = ({ b with quires := t.quires } : State).body)
    (x.st ≠ .off → dataSeq seq = true → (∃ t, exec (.sheetMissing dt q d seq) s = .next t ∧ bad e t)) ∧
    (∀ i pos h err, x.st ≠ .off → dataSeq seq = true → e.rxLane q d = some i → (e.lane i).link = .up → (∃ t, exec (.sheetReceive dt q d ⟨pos, seq⟩ h err) s = .next t ∧
      (let b : State := { e with fresh := e.fresh + 1, lanes := t.lanes }
      (t.lane i = { e.lane i with rxSeq := some seq } ∧ ∀ j, j ≠ i → t.lane j = e.lane j) ∧
      match Config.sentSheet q d seq e.fresh with
      | none => t.body = b.body
      | some (g, late) =>
        if g = h ∧ err = false then
          ((t.quire q).dir d).badRun = 0 ∧ ((t.quire q).dir d).goodRun = y.goodRun + 1 ∧ ((t.quire q).dir d).delays = (late :: y.delays).take 1024 ∧
            ((t.quire q).dir d).st = (if y.st = .open_ ∧ 1024 ≤ y.goodRun + 1 then .healing else y.st) ∧ t.body = ({ b with quires := t.quires } : State).body
        else bad b t))) ∧
    (∀ pos h err, x.st = .off ∨ dataSeq seq = false ∨ e.rxLane q d = none ∨ (∃ i, e.rxLane q d = some i ∧ (e.lane i).link ≠ .up) → exec (.sheetReceive dt q d ⟨pos, seq⟩ h err) s = .next e) ∧
    (x.st = .off ∨ dataSeq seq = false → exec (.sheetMissing dt q d seq) s = .next e) ∧
    (∀ (i : Ins) (b : BreakRep) (on : Bool), i.quire = q → b.port = d → x.st ≠ .off → insCheckOk i 10 (breakBody b) = true → i.errored = false → i.leaf < e.nLeaves q →
      i.session = x.tag ∨ i.session = 0 → (∃ t, exec (.breakReceive dt i b on) s = .next t ∧
        (((t.quire q).dir d).st = .open_ ∧ ((t.quire q).dir d).breakEp = true ∧ (y.breakEp = false → e.raised t .quireBreak (instOf 3 (2 * q + d))) ∧
          (if d = 0 then (t.leaf (64 * q + i.leaf)).breakU else (t.leaf (64 * q + i.leaf)).breakD) = true ∧
          (x.st = .running → y.st = .closed → (if d = 0 then Evid.leafU i.leaf else Evid.leafD i.leaf) ∈ (t.quire q).evid) ∧
          t.body = ({ e with leaves := t.leaves, quires := t.quires } : State).body))) ∧
    (∀ (i : Ins) (b : BreakRep), i.quire = q → x.st = .off → exec (.breakReceive dt i b true) s = .next { e with obs := (e.count (0x409 + 16 * q) 1).obs })

/-- R352, R353, R360 to R362 and R367: 1 µs after the first evidence the quire re-plans: the reaches are narrowed by the evidence gathered that counts, each leaf's feed is moved to a direction that reaches it, the epoch rises, and both CLAIMs of the plan go out. R370 and R371: a direction heals once it has held for its time: it is CLOSED, reaches every leaf, its episodes end, a leaf without a feed takes it, and the epoch rises when such a leaf is in use. R372: 50 ms after quire.rebalance moved ends, they are judged. Before its time nothing changes. -/
def Obligations.ReplanAndHeal : Prop :=
  ∀ (dt q : Nat) (s : State), q < 16 → tabWf (fun _ => ({} : Leaf)) s.leaves = true →
    let e := s.elapse dt
    let x := e.quire q
    let n := e.nLeaves q
    let due := x.st = .running ∧ x.evid ≠ [] ∧ x.evidAt + usU ≤ e.clk
    (due → (∃ t, exec (.replan dt q) s = .next t ∧
      (let y := (x.evid.filter (countsIn x.evid)).foldl (Quire.narrowed n) x
      (t.quire q).evid = [] ∧ (t.quire q).replans = satU 16 (x.replans + 1) ∧ (t.quire q).replanTime = satU 16 ((e.clk - x.evidAt) / (10 * nsU)) ∧ (t.quire q).epoch = nextEpoch x.epoch ∧
        (t.quire q).dirA = y.dirA ∧ (t.quire q).dirB = y.dirB ∧ (∀ i < n, i < 64 → (t.leaf (64 * q + i)).feed = y.adjust i (e.leaf (64 * q + i)).feed) ∧
        (∀ k < 2, .packet q 2 x.tag (.claim (nextEpoch x.epoch) k (t.runOf q (k + 1)).1 (t.runOf q (k + 1)).2) ∈ t.out) ∧
        t.body = ({ e with leaves := t.leaves, quires := t.quires, slg := t.slg } : State).body))) ∧
    (¬due → exec (.replan dt q) s = .next e) ∧
    (∀ d < 2, x.st ≠ .off → (x.dir d).st = .healing → (x.dir d).healAt + e.regBits 0x7008 0 10 * msU ≤ e.clk → (∃ t, exec (.healComplete dt q d) s = .next t ∧
      (((t.quire q).dir d).st = .closed ∧ ((t.quire q).dir d).stop = none ∧ ((t.quire q).dir d).breakEp = false ∧ ((t.quire q).dir d).mismEp = false ∧ (t.quire q).standby = true ∧
        (x.st = .running → ∀ i < n, i < 64 → (e.leaf (64 * q + i)).feed = 0 → (t.leaf (64 * q + i)).feed = d + 1) ∧
        (n ≤ 64 → (t.quire q).epoch = if x.st = .running ∧ ∃ i ∈ e.usedLeaves q, (e.leaf (64 * q + i)).feed = 0 then nextEpoch x.epoch else x.epoch) ∧
        (∀ i < n, (if d = 0 then (t.leaf (64 * q + i)).breakU else (t.leaf (64 * q + i)).breakD) = false) ∧
        t.body = ({ e with leaves := t.leaves, quires := t.quires, slg := t.slg } : State).body))) ∧
    (∀ d < 2, x.st = .off ∨ (x.dir d).st ≠ .healing ∨ e.clk < (x.dir d).healAt + e.regBits 0x7008 0 10 * msU → exec (.healComplete dt q d) s = .next e) ∧
    (∀ id det at_, x.rebal = some (id, det, at_ + 1) → at_ + 50 * msU ≤ e.clk → (∃ t, exec (.rebalanceLaneCheck dt q) s = .next t ∧
      (∃ r, (t.quire q).rebal = some (id, r, 0) ∧
        (∀ w, e.endLane q 0 = some w → (e.lane w).standby = true → w % 5 ≠ 4 →
          (e.endUp q 0 = true ∧ x.dirA.st = .closed ∧ x.dirB.st = .closed → r % 2 = 1) ∧ (¬(e.endUp q 0 = true ∧ x.dirA.st = .closed ∧ x.dirB.st = .closed) → r / 2 % 2 = 1)) ∧
        ((∀ d < 2, ∀ w, e.endLane q d = some w → (e.lane w).standby = false) → r = 0 ∧ t.lanes = e.lanes) ∧
        t = { e with quires := t.quires, lanes := t.lanes, fresh := t.fresh, cal := { e.cal with pend := t.cal.pend } }))) ∧
    (∀ id det at_, x.rebal = some (id, det, at_ + 1) → e.clk < at_ + 50 * msU → exec (.rebalanceLaneCheck dt q) s = .next e) ∧
    (x.rebal = none → exec (.rebalanceLaneCheck dt q) s = .next e)

/-- R261, R262, R286, R293 and Table 9-15: a quad takes EN unless it asks for Ethernet mode beside 8 other Ethernet quads, and loses it only while no MAC or quire uses it; a write without EN stores its fields. A quire takes EN with two different lanes that are working lanes of enabled quads in quire mode, with valid equalisation and no other quire's: both then acquire, or the spare that carries one, and a quire with leaves waits; without them it stores its fields and is refused. Clearing EN stops the quire: it is OFF, no lane works for it, and its leaves are enrolled no longer. R276, R277, R284, R286 and R291: an equalisation entry completed by LNQ_EQ_RX is valid when it passes its checks, and is not written while its lane is not OFF. RESTORE brings a DEGRADED lane IN_SERVICE and a RETIRED one to SPARE. LOOP starts a lane without a function in its loop and, cleared, stops it; it is refused to a lane that has a function and starts no RETIRED lane. PRBS is stored. A receiver that adapts notes the tap that rests at its limit. -/
def Obligations.QuiresAndLaneSettings : Prop :=
  (∀ (dt q : Nat) (v : Word) (s : State), q < 16 → tabWf laneDflt s.lanes = true → tabWf (fun _ => ({} : Quire)) s.quires = true → tabWf (fun _ => ({} : Leaf)) s.leaves = true →
     let e := s.elapse dt
     let o := 0x6040 + 4 * q
     let p := 0x6080 + 4 * q
     let put (i : Nat) (w : Word) : State := { e with regs := tput (rwReset i) e.regs i w }
     let spill := bit v 0 && decide (8 ≤ e.ethQuads q)
     let a := bits v 0 7
     let b := bits v 8 7
     let ok := e.endOk q a && e.endOk q b && decide (a ≠ b)
     (e.regBit o 1 = false → bit v 1 = true → exec (.quadEnable dt q v) s = .next (put o (pack [(0, b2n (bit v 0)), (1, b2n (!spill)), (2, bits v 2 4), (6, b2n spill)]))) ∧
     (e.regBit o 1 = false → bit v 1 = false → exec (.quadEnable dt q v) s = .next (put o (pack [(0, b2n (bit v 0)), (1, 0), (2, bits v 2 4), (6, b2n (e.regBit o 6))]))) ∧
     (e.regBit o 1 = true → bit v 1 = false → e.macOf q = none → e.quireNames q = false → exec (.quadEnable dt q v) s = .next (put o (setBit (e.reg o) 1 false))) ∧
     (e.regBit o 1 = true → bit v 1 = true ∨ (e.macOf q).isSome = true ∨ e.quireNames q = true → exec (.quadEnable dt q v) s = .next e) ∧
     (e.regBit p 16 = false → bit v 16 = true → ok = true → (∃ t, exec (.quireEnable dt q v) s = .next t ∧
       (t.reg p = pack [(0, a), (8, b), (16, 1), (17, 0)] ∧ (∀ i, i ≠ p → (∀ l < 80, i ≠ laneReg l) → t.reg i = e.reg i) ∧ (1 ≤ e.nLeaves q → (t.quire q).st = .wait ∧ (t.quire q).since = e.clk) ∧
         (∀ k, k ≠ q → t.quire k = e.quire k) ∧ (∀ i, i ≠ a → i ≠ b → i ≠ spareOf a → i ≠ spareOf b → t.lane i = e.lane i) ∧
         ((e.lane a).unit = .inService → (e.lane (spareOf a)).subst = false → (e.lane b).unit = .inService → (e.lane (spareOf b)).subst = false →
           (t.lane a).link = .acquire ∧ (t.lane a).func = 2 ∧ (t.lane a).quire = q ∧ (t.lane b).link = .acquire ∧ (t.lane b).func = 3 ∧ (t.lane b).quire = q) ∧
         ((e.lane (spareOf a)).subst = true → (e.lane (spareOf a)).for_ = a % 5 → (t.lane (spareOf a)).link = .acquire ∧ (t.lane (spareOf a)).func = 2 ∧ (t.lane (spareOf a)).quire = q) ∧
         t = { e with regs := t.regs, quires := t.quires, lanes := t.lanes, fresh := t.fresh, cal := { e.cal with pend := t.cal.pend } }))) ∧
     (e.regBit p 16 = false → bit v 16 = true → ok = false → exec (.quireEnable dt q v) s = .next (put p (pack [(0, a), (8, b), (16, 0), (17, 1)]))) ∧
     (e.regBit p 16 = false → bit v 16 = false → exec (.quireEnable dt q v) s = .next (put p (pack [(0, a), (8, b), (16, 0), (17, b2n (e.regBit p 17))]))) ∧
     (e.regBit p 16 = true → bit v 16 = true → exec (.quireEnable dt q v) s = .next e) ∧
     (e.regBit p 16 = true → bit v 16 = false → (∃ t, exec (.quireEnable dt q v) s = .next t ∧
       ((t.quire q).st = .off ∧ (∀ i < 80, (e.lane i).isEnd = true → (e.lane i).quire = q → (t.lane i).func = 0 ∧ (t.lane i).link = .off) ∧
         (∀ i, (e.lane i).isEnd = false ∨ (e.lane i).quire ≠ q → t.lane i = e.lane i) ∧ (∀ k, k ≠ q → t.quire k = e.quire k) ∧ (∀ i < 64, (t.leaf (64 * q + i)).enrolled = false) ∧
         (∀ k, k / 64 ≠ q → t.leaf k = e.leaf k) ∧ t.body = ({ put p (setBit (e.reg p) 16 false) with quires := t.quires, lanes := t.lanes, leaves := t.leaves } : State).body)))) ∧
  (∀ (dt i : Nat) (v : Word) (s : State) (c : Instr), i < 80 → tabWf laneDflt s.lanes = true → tabWf rwReset s.regs = true → c = .laneLoopWrite dt i v ∨ c = .laneRestore dt i v →
     let e := s.elapse dt
     let x := (if bit v 3 = true then e.restoreLane i else e).lane i
     let was := e.lane i
     let k := e.regBits 0x60C0 0 7
     let n := bits v 0 2
     let free := x.func = 0 ∨ x.func = 4 ∨ x.unit = .spare
     let goes := n = e.loop i ∧ x.link ≠ .off
     let rest (t : State) : Prop := (∀ j, j ≠ i → t.lane j = e.lane j) ∧ (∀ o, o ≠ laneReg i → t.reg o = e.reg o) ∧ bit (t.reg (laneReg i)) 2 = bit v 2 ∧
       t = { e with regs := t.regs, lanes := t.lanes, fresh := t.fresh, cal := { e.cal with pend := t.cal.pend } }
     (k < 80 → (e.lane k).link = .off → exec (.eqEntryWrite dt v) s = .next { e with lanes := tput (laneDflt k) e.lanes k ((e.lane k).eqWritten v) }) ∧
     (80 ≤ k ∨ (e.lane k).link ≠ .off → exec (.eqEntryWrite dt v) s = .next e) ∧
     (x.unit = (if bit v 3 = true ∧ was.unit = .degraded then .inService else if bit v 3 = true ∧ was.unit = .retired then .spare else was.unit) ∧ x.link = was.link ∧ x.func = was.func) ∧
     (n = 0 → e.loop i = 0 ∨ x.func ≠ 4 → (∃ t, exec c s = .next t ∧ (rest t ∧ t.lane i = { x with loopRefused := false } ∧ t.loop i = 0))) ∧
     (n = 0 → e.loop i ≠ 0 → x.func = 4 → (∃ t, exec c s = .next t ∧ (rest t ∧ (t.lane i).func = 0 ∧ (t.lane i).link = .off ∧ t.loop i = 0))) ∧
     (n ≠ 0 → free → x.unit ≠ .retired → ¬goes → (∃ t, exec c s = .next t ∧ (rest t ∧ (t.lane i).func = 4 ∧ (t.lane i).link = .acquire ∧ (t.lane i).loopRefused = false ∧ t.loop i = n))) ∧
     (n ≠ 0 → free → x.unit = .retired ∨ goes → (∃ t, exec c s = .next t ∧ (rest t ∧ t.lane i = { x with loopRefused := false } ∧ t.loop i = n))) ∧
     (n ≠ 0 → ¬free → (∃ t, exec c s = .next t ∧ (rest t ∧ t.lane i = { x with loopRefused := true } ∧ t.loop i = 0))) ∧
     (∀ tap high, e.adapting i = true → tap < 17 → tap ≠ 4 → (∃ t, exec (.eqLimit dt ⟨i, tap, high⟩) s = .next t ∧
       ((t.lane i).eqLimit = true ∧ nthD 0 (t.lane i).taps tap = (if high then x.tapLimit tap else -x.tapLimit tap) ∧ (∀ j, j ≠ i → t.lane j = e.lane j) ∧ t = { e with lanes := t.lanes }))) ∧
     (∀ tap high, e.adapting i = false ∨ 17 ≤ tap ∨ tap = 4 → exec (.eqLimit dt ⟨i, tap, high⟩) s = .next e))

/-- R19, R273 to R275, R279 and Tables 8-4 and 9-15: a lane that aligns is UP, with all lanes of its Ethernet port once none is missing, and its LANE_LOS ends; a RETIRED one raises UNIT_STATE_CONFLICT. A lane that loses alignment is in REALIGN with those of its port, and a loss on a quire's end opens the closure of the direction it receives. LANE_LOS is raised once for a stay in ACQUIRE, and as REALIGN ends in DOWN; with both ends DOWN a RUNNING quire waits without a tag. -/
def Obligations.LaneAlignment : Prop :=
  ∀ (dt i : Nat) (s : State), tabWf laneDflt s.lanes = true →
    let e := s.elapse dt
    let x := e.lane i
    let said := e.stateConflict (instOf 1 i) (decide (x.unit = .retired))
    let calm (k : Nat) : Prop := (e.lane k).link ≠ .realign ∨ (e.lane k).trans.length < 2
    (x.unit = .retired → e.raised said .unitStateConflict (instOf 1 i)) ∧
    (canAlign x.link = true → e.portOf i = none → calm i → (∃ t, exec (.laneAligned dt i) s = .next t ∧
      ((t.lane i).link = .up ∧ (t.lane i).since = e.clk ∧ (∀ j, j ≠ i → t.lane j = e.lane j) ∧ t.body = ({ e with lanes := t.lanes } : State).body))) ∧
    (∀ p, canAlign x.link = true → e.portOf i = some p → (e.peers i).length = e.portWidth p → (∀ k ∈ e.peers i, calm k) → (∃ t, exec (.laneAligned dt i) s = .next t ∧
      ((t.port p).link = true ∧ (∀ k ∈ e.peers i, canAlign (e.lane k).link = true → (t.lane k).link = .up) ∧ (∀ j, j ∉ e.peers i → t.lane j = e.lane j) ∧
        t.body = ({ e with lanes := t.lanes, ing := { e.ing with ports := t.ing.ports } } : State).body))) ∧
    (∀ p, e.portOf i = some p → (e.peers i).length ≠ e.portWidth p → exec (.laneAligned dt i) s = .next said) ∧
    (canAlign x.link = false → exec (.laneAligned dt i) s = .next said) ∧
    (x.link = .up → (∃ t, exec (.laneAlignmentLoss dt i) s = .next t ∧
      ((∀ k ∈ e.peers i, (e.lane k).link = .up → t.lane k = { (e.lane k).lost with link := .realign, since := e.clk }) ∧ (∀ j, j ∉ e.peers i → t.lane j = e.lane j) ∧
        (x.isEnd = true → (e.quire x.quire).st ≠ .off → ((t.quire x.quire).dir (3 - x.func)).st = .open_) ∧
        t.body = ({ e with lanes := t.lanes, quires := t.quires, ing := { e.ing with ports := t.ing.ports } } : State).body))) ∧
    (x.link ≠ .up → exec (.laneAlignmentLoss dt i) s = .next e) ∧
    (x.link = .acquire → x.losRaised = false → x.since + 50 * msU ≤ e.clk → (∃ t, exec (.acquireTimeout dt i) s = .next t ∧
      (e.raised t .laneLos (instOf 1 i) ∧ t.body = ({ e with lanes := tput (laneDflt i) e.lanes i { x with losRaised := true } } : State).body))) ∧
    (x.link ≠ .acquire ∨ x.losRaised = true ∨ e.clk < x.since + 50 * msU → exec (.acquireTimeout dt i) s = .next e) ∧
    (x.link = .realign → x.since + msU ≤ e.clk → (∃ t, exec (.realignTimeout dt i) s = .next t ∧
      (e.raised t .laneLos (instOf 1 i) ∧ t.lane i = { x.unaligned with link := .down, since := e.clk, losRaised := true } ∧ (∀ j, j ≠ i → t.lane j = e.lane j) ∧
        (x.isEnd = false → t.quires = e.quires ∧ t.leaves = e.leaves) ∧
        (∀ j, x.isEnd = true → (e.quire x.quire).st = .running → e.endLane x.quire (x.func - 2) = some i → e.endLane x.quire (3 - x.func) = some j → (e.lane j).link = .down →
          (t.quire x.quire).st = .wait ∧ (t.quire x.quire).tag = 0 ∧ (t.quire x.quire).since = e.clk) ∧
        t.body = ({ e with lanes := t.lanes, quires := t.quires, leaves := t.leaves } : State).body))) ∧
    (x.link ≠ .realign ∨ e.clk < x.since + msU → exec (.realignTimeout dt i) s = .next e)

/-- R274, R280 to R282 and R351: a nick takes a lane that is UP, but not an Ethernet one, to IDLE; the nick that follows, confirmed, takes it UP, and one that is not confirmed, or none in time, is a loss of alignment. A transmitter enters electrical idle when it may, and its wake after IDLE_MAX makes it send 20 sheets before it idles again. R271, R277 to R279, R285, R288 to R290, R292 and R472: a link sheet with a good CRC gives the partner's figures; an uncorrectable codeword counts on every lane of its port; the mean of a millisecond's windows is the lane's margin, and its adapted taps are within their limits; LANE_FOM_LOW is raised once the margin has been low for 100 ms, and a lane below RETIRE_FOM for a second, REALIGN included, is RETIRED when LANE_RETIRED is MAJOR or above; a slice worse than the best unused one by more than E_SWAP changes places with it, but in a near-end loop. -/
def Obligations.LaneIdleAndMargins : Prop :=
  (∀ (dt i seq : Nat) (s : State), tabWf laneDflt s.lanes = true →
     let e := s.elapse dt
     let x := e.lane i
     let put (y : Lane) : State := { e with lanes := tput (laneDflt i) e.lanes i y }
     let others (t : State) : Prop := ∀ j, j ≠ i → t.lane j = e.lane j
     let lost (t : State) : Prop := t.lane i = { x.lost with link := .realign, since := e.clk } ∧ others t ∧
       (x.isEnd = true → (e.quire x.quire).st ≠ .off → ((t.quire x.quire).dir (3 - x.func)).st = .open_) ∧ t.body = ({ e with lanes := t.lanes, quires := t.quires } : State).body
     let idles := e.regBit 0x6008 16 = true ∧ x.isEnd = true ∧ (x.link = .up ∨ x.link = .idle) ∧ x.txIdle = none ∧ x.txBusyTo ≤ e.clk
     (x.link = .up → x.func ≠ 1 → seq < 65520 → seq % 20 ≠ 0 → exec (.idleNickReceive dt i seq) s = .next (put { x with link := .idle, since := e.clk, idleSeq := some seq, rxSeq := some seq })) ∧
     (x.link ≠ .up ∨ x.func = 1 ∨ 65520 ≤ seq ∨ seq % 20 = 0 → exec (.idleNickReceive dt i seq) s = .next e) ∧
     (∀ n, x.link = .idle → x.idleSeq = some n → seq = (n + 1) % 65520 →
       ((∃ t, exec (.idleWakeReceive dt i seq true) s = .next t ∧ (t.lane i = { x with link := .up, since := e.clk, idleSeq := none, rxSeq := some seq } ∧ others t ∧
         t.body = ({ e with lanes := t.lanes } : State).body))) ∧ (∃ t, exec (.idleWakeReceive dt i seq false) s = .next t ∧ lost t)) ∧
     (∀ ok, x.link ≠ .idle ∨ x.idleSeq = none ∨ (∃ n, x.idleSeq = some n ∧ seq ≠ (n + 1) % 65520) → exec (.idleWakeReceive dt i seq ok) s = .next e) ∧
     (x.link = .idle → x.since + e.idleMax + 10 * usU ≤ e.clk → (∃ t, exec (.idleBurstTimeout dt i) s = .next t ∧ lost t)) ∧
     (x.link ≠ .idle ∨ e.clk < x.since + e.idleMax + 10 * usU → exec (.idleBurstTimeout dt i) s = .next e) ∧
     (idles → (∃ t, exec (.transmitterIdle dt i) s = .next t ∧ (t = { put { x with txIdle := some e.clk } with obs := t.obs } ∧ t.obs.store = e.obs.store))) ∧
     (¬idles → exec (.transmitterIdle dt i) s = .next e) ∧
     (∀ at_, x.txIdle = some at_ → (∃ t, exec (.transmitterWake dt i) s = .next t ∧
       (t = { put { x with txIdle := none, txBusyTo := if at_ + e.idleMax ≤ e.clk then e.clk + twentySheets else x.txBusyTo } with obs := t.obs } ∧ t.obs.store = e.obs.store))) ∧
     (x.txIdle = none → exec (.transmitterWake dt i) s = .next e)) ∧
  (∀ (dt i : Nat) (s : State),
     let e := s.elapse dt
     let x := e.lane i
     let aligned := x.link = .up ∨ x.link = .idle
     let worn (t : State) : Prop :=
       (t.lane i).unit = .retired ∧ (t.lane i).link = .off ∧ (t.lane i).func = 0 ∧ tget 0 t.flt.raises 0x0103 = tget 0 e.flt.raises 0x0103 + 1 ∧ t.cal.pend = true
     (∀ l : LinkSheet, l.crcOk = true → x.link = .up → x.func ≠ 1 → (∃ t, exec (.linkSheetReceive dt i l) s = .next t ∧
       ((t.lane i).partnerFom = l.rxFom ∧ (t.lane i).partnerCorr = l.fecCorr ∧ (t.lane i).partnerUnc = l.fecUnc ∧ (t.lane i).link = .up ∧ (t.lane i).cum = (if l.cumValid then some l.cum else none) ∧
         (t.lane i).loopActive = decide (l.loop = 2) ∧
         (l.echoValid = false → (t.lane i).fwd = x.fwd ∧ (t.lane i).fwdCount = x.fwdCount) ∧ (∀ j, j ≠ i → t.lane j = e.lane j) ∧ t = { e with lanes := t.lanes, quires := t.quires }))) ∧
     (∀ l : LinkSheet, l.crcOk = false ∨ x.link ≠ .up ∨ x.func = 1 → exec (.linkSheetReceive dt i l) s = .next e) ∧
     (x.link = .up → (∀ k ∈ e.peers i, (e.lane k).trans.length < 2) → (∃ t, exec (.codewordUncorrectable dt i) s = .next t ∧
       ((∀ k ∈ e.peers i, (t.lane k).uncAt = e.clk :: (e.lane k).uncAt.filter (fun n => decide (e.clk < n + 2 * secU)) ∧ (t.lane k).link = (e.lane k).link) ∧
         (∀ j, j ∉ e.peers i → t.lane j = e.lane j) ∧ t.body = ({ e with lanes := t.lanes } : State).body))) ∧
     (x.link ≠ .up → exec (.codewordUncorrectable dt i) s = .next e) ∧
     (∀ snrs, snrs ≠ [] → aligned → e.retireFom ≤ fomMean snrs → x.trans.length < 2 → (∃ t, exec (.laneFomUpdate dt i snrs) s = .next t ∧
       ((t.lane i).fom = fomMean snrs ∧ (t.lane i).link = x.link ∧
         (e.adapting i = true → ∀ k < 17, k ≠ 4 → -x.tapLimit k ≤ nthD 0 (t.lane i).taps k ∧ nthD 0 (t.lane i).taps k ≤ x.tapLimit k) ∧ (e.adapting i = false → (t.lane i).taps = x.taps) ∧
         (∀ n, fomMean snrs < e.lowFom → x.lowSince = some n → n + 100 * msU ≤ e.clk → x.lowEp = false →
           e.raised t .laneFomLow (instOf 1 i) ∧ (t.lane i).lowEp = true ∧ (2 ≤ e.severity .laneFomLow → x.unit = .inService → (t.lane i).unit = .degraded)) ∧
         (∀ j, j ≠ i → t.lane j = e.lane j) ∧ t.body = ({ e with lanes := t.lanes, fresh := e.fresh + 1, cal := { e.cal with pend := t.cal.pend } } : State).body))) ∧
     (∀ snrs n, snrs ≠ [] → aligned → fomMean snrs < e.retireFom → x.retSince = some n → n + secU ≤ e.clk → 2 ≤ e.severity .laneRetired → ∃ t, exec (.laneFomUpdate dt i snrs) s = .next t ∧ worn t) ∧
     (∀ snrs n, x.link = .realign → x.retSince = some n → n + secU ≤ e.clk → 2 ≤ e.severity .laneRetired → ∃ t, exec (.laneFomUpdate dt i snrs) s = .next t ∧ worn t) ∧
     (∀ snrs, x.link = .realign → heldFor x.retSince secU e.clk = false → exec (.laneFomUpdate dt i snrs) s = .next e) ∧
     (∀ snrs, ¬aligned ∨ snrs = [] → x.link ≠ .realign → exec (.laneFomUpdate dt i snrs) s = .next e) ∧
     (∀ u eu k ek, x.link = .up → u < 36 → k < 36 → x.inUse u = true → x.inUse k = false → (∃ t, exec (.sliceCheck dt i u eu k ek) s = .next t ∧
       (t = { e with lanes := tput (laneDflt i) e.lanes i (x.sliceCheck u eu k ek (if e.loop i = 1 ∨ e.loop i = 2 then 255 else e.regBits 0xD008 16 8)), obs := t.obs } ∧ t.obs.store = e.obs.store))) ∧
     (∀ u eu k ek, x.link ≠ .up ∨ 36 ≤ u ∨ 36 ≤ k ∨ x.inUse u = false ∨ x.inUse k = true → exec (.sliceCheck dt i u eu k ek) s = .next e))

/-- R380, R382, R383 and Table 11-1: an Announce of an acceptable master, with an interval the module accepts, updates that master, which qualifies at 2 messages within 4 intervals; a master silent for 3 intervals is lost; and either way the best qualified master is selected. The first selection is QUALIFY; one in HOLDOVER is TRACKING and raises TIME_MASTER_CHANGE; the loss of the last master from TRACKING or LOCKED is HOLDOVER, and raises TIME_FREERUN. Other Announce messages change nothing. -/
def Obligations.MastersSelected : Prop :=
  ∀ (dt : Nat) (src : PtpSrc) (a : Announce) (s : State),
    let e := s.elapse dt
    let rest (t : State) : Prop := t.tim.sel = (bestMaster t.tim.masters).map (·.src) ∧ t.tim.time = e.tim.time ∧ t.tim.rate = e.tim.rate ∧ t.tim.pUse = e.tim.pUse ∧
      (t.tim.sel ≠ none → t.tim.sel ≠ e.tim.sel → (e.tim.servo = .unset → t.tim.servo = .qualify) ∧
        (e.tim.servo = .holdover → t.tim.servo = .tracking ∧ tget 0 t.flt.raises (Src.timeMasterChange).info.1 = tget 0 e.flt.raises (Src.timeMasterChange).info.1 + 1)) ∧
      t.body = ({ e with tim := t.tim } : State).body
    (∀ n, e.ptpEntry src = some n → -3 ≤ a.logInt → a.logInt ≤ 1 → (∃ t, exec (.ptpAnnounce dt src a) s = .next t ∧
      ((∃ m ∈ t.tim.masters, m.src = src ∧ m.entry = n ∧ m.ann = a ∧ m.heard.head? = some e.clk) ∧
        (∀ m ∈ e.tim.masters, m.src = src → ∀ h, m.heard.head? = some h → e.clk ≤ h + 4 * logSec a.logInt → ∃ y ∈ t.tim.masters, y.src = src ∧ y.qualified = true) ∧
        (∀ m, m.src ≠ src → (m ∈ t.tim.masters ↔ m ∈ e.tim.masters)) ∧ rest t))) ∧
    (e.ptpEntry src = none ∨ a.logInt < -3 ∨ 1 < a.logInt → exec (.ptpAnnounce dt src a) s = .next e) ∧
    (∀ n m, e.tim.masters[n]? = some m → m.heard.head?.getD 0 + 3 * m.interval ≤ e.clk → (∃ t, exec (.announceReceiptTimeout dt n) s = .next t ∧
      (t.tim.masters = e.tim.masters.filter (fun x => decide (x.src ≠ m.src)) ∧ rest t ∧
        (t.tim.masters = [] → e.tim.sel ≠ none → e.tim.servo = .tracking ∨ e.tim.servo = .locked → t.tim.servo = .holdover ∧ e.raised t .timeFreerun 0)))) ∧
    (∀ n m, e.tim.masters[n]? = some m → e.clk < m.heard.head?.getD 0 + 3 * m.interval → exec (.announceReceiptTimeout dt n) s = .next e) ∧
    (∀ n, e.tim.masters[n]? = none → exec (.announceReceiptTimeout dt n) s = .next e)

/-- R377, R380, R385, R386, R387, R389, R528 and Table 11-1: a Sync of the selected master completes an exchange at once or awaits its Follow_Up. 16 exchanges in QUALIFY whose offsets span less than 1 µs without their trend set module time in one step; from then on the servo never steps it, and RATE moves by at most 10 ppm per second and stays within 100 ppm; after a host start the first exchange begins TRACKING. Another master's messages, and exchanges during a supervisor reset, change nothing. R381: a Delay_Resp gives the mean path delay from the four times, where a Sync has been taken, and the interval to the next request, clamped; a Delay_Req with the clockIdentity of its port goes out when its instant has come, and the next follows within twice the interval. -/
def Obligations.ServoAndPathDelay : Prop :=
  (∀ (dt : Nat) (src : PtpSrc) (s : State),
     let e := s.elapse dt
     let t2 := Int.ofNat e.tim.time - e.portAsym src.port
     let taken (o : Nat) (arrival : Int) (t : State) : Prop :=
       let base := { e.tim with lastSync := some (o, arrival.toNat), syncAt := none, pathShown := e.tim.path }
       let off := arrival - Int.ofNat o - Int.ofNat e.tim.path
       t.tim.lastSync = (if e.tim.servo = .qualify ∧ 15 ≤ e.tim.exch.length ∧ Config.trendRemovedSpan (e.tim.exch ++ [off]) < usU then none else some (o, arrival.toNat)) ∧
         (e.tim.servo = .tracking ∨ e.tim.servo = .locked → t.tim.time = e.tim.time ∧ t.tim.valid = e.tim.valid ∧ (t.tim.servo = .tracking ∨ t.tim.servo = .locked) ∧
           (t.tim.rate - e.tim.rate).natAbs ≤ ratePpm10 * (e.clk - e.tim.rateAt) / secU ∧ (e.tim.rate.natAbs ≤ 109951163 → t.tim.rate.natAbs ≤ 109951163) ∧
           t = { e with tim := t.tim, fresh := e.fresh + 1 }) ∧
         (e.tim.servo = .qualify → e.tim.exch.length < 15 → t = { e with tim := { base with exch := e.tim.exch ++ [off] } }) ∧
         (e.tim.servo = .qualify → 15 ≤ e.tim.exch.length →
           if Config.trendRemovedSpan (e.tim.exch ++ [off]) < usU then t.tim.servo = .tracking ∧ t.tim.valid = true ∧ t.tim.time = (Int.ofNat e.tim.time - off).toNat ∧ t = { e with tim := t.tim, fresh := e.fresh + 1 }
           else t = { e with tim := { base with exch := [] } }) ∧
         (e.tim.servo = .unset ∨ e.tim.servo = .holdover ∧ e.tim.atStart = false → t = { e with tim := base }) ∧
         (e.tim.servo = .holdover → e.tim.atStart = true → t.tim.servo = .tracking ∧ e.raised t .timeMasterChange (instOf 7 src.port) ∧ t.tim.time = e.tim.time)
     (∀ n o, e.ptpEntry src = some n → e.tim.sel = some src → e.sys.supRun = true → (∃ t, exec (.ptpSync dt src (.oneStep o)) s = .next t ∧ taken o t2 t)) ∧
     (∀ n, e.ptpEntry src = some n → e.tim.sel = some src → exec (.ptpSync dt src .twoStep) s = .next { e with tim := { e.tim with syncAt := some t2.toNat } }) ∧
     (∀ n o u, e.ptpEntry src = some n → e.tim.sel = some src → e.sys.supRun = true → e.tim.syncAt = some u → (∃ t, exec (.ptpSync dt src (.followUp o)) s = .next t ∧ taken o (Int.ofNat u) t)) ∧
     (∀ o, e.sys.supRun = false ∨ e.tim.syncAt = none → exec (.ptpSync dt src (.followUp o)) s = .next e) ∧
     (∀ o, e.sys.supRun = false → exec (.ptpSync dt src (.oneStep o)) s = .next e) ∧
     (∀ k, e.ptpEntry src = none ∨ e.tim.sel ≠ some src → exec (.ptpSync dt src k) s = .next e)) ∧
  (∀ (dt : Nat) (src : PtpSrc) (t4 : Nat) (logInt : Int) (s : State),
     let e := s.elapse dt
     (∀ n t1 t2 t3, e.ptpEntry src = some n → e.tim.sel = some src → e.tim.reqAt = some t3 → e.tim.lastSync = some (t1, t2) → exec (.ptpDelayResp dt src t4 logInt) s =
       .next { e with tim := { e.tim with path := (((t2 : Int) - t1 + (t4 - t3)) / 2).toNat, reqAt := none, reqLog := clampI (-7) 1 logInt } }) ∧
     (∀ n t3, e.ptpEntry src = some n → e.tim.sel = some src → e.tim.reqAt = some t3 → e.tim.lastSync = none → exec (.ptpDelayResp dt src t4 logInt) s =
       .next { e with tim := { e.tim with reqAt := none, reqLog := clampI (-7) 1 logInt } }) ∧
     (e.ptpEntry src = none ∨ e.tim.sel ≠ some src ∨ e.tim.reqAt = none → exec (.ptpDelayResp dt src t4 logInt) s = .next e) ∧
     (e.tim.sel = some src → e.ptpPort src.port = true → e.tim.nextReq ≤ e.clk → (∃ t, exec (.delayReqSend dt) s = .next t ∧
       (.net src.port (.delayReq (if e.timCtrl 2 then some src.addr else none) (e.portClockId src.port) 1) ∈ t.out ∧ t.tim.reqAt = some ((e.tim.time : Int) - e.portAsym src.port).toNat ∧
         e.clk ≤ t.tim.nextReq ∧ t.tim.nextReq ≤ e.clk + 2 * logSec e.tim.reqLog ∧ t = { e with out := t.out, obs := t.obs, fresh := e.fresh + 1, tim := { e.tim with reqAt := t.tim.reqAt, nextReq := t.tim.nextReq } }))) ∧
     (e.tim.sel = none ∨ e.clk < e.tim.nextReq ∨ (∃ x, e.tim.sel = some x ∧ e.ptpPort x.port = false) → exec (.delayReqSend dt) s = .next e))

/-- R378, R379, R389, R390 and R392: TIM_SNAP takes module time, the servo's state and VALID at one instant; a host start sets the time once, before any other has, and is ignored afterwards; TIM_P_COMMIT takes P, A and the offset when they pass their checks, at once while the generator stands still, counting the wait for the first tick anew, and at its t_c once it runs; and the generator's first tick is the first of the schedule that is 10 ms or more after VALID and P, and raises no count. -/
def Obligations.TimeAndPeriod : Prop :=
  ∀ (dt : Nat) (v : Word) (s : State),
    let e := s.elapse dt
    let p := ((e.reg 0x8050).toNat, (e.reg 0x8054).toNat, e.regBits 0x8058 0 30)
    (bit v 0 = true → exec (.timeSnap dt v) s = .next { e with tim := { e.tim with
      snapS := BitVec.ofNat 64 (e.tim.time / secU), snapNs := BitVec.ofNat 32 (e.tim.time / nsU % 1000000000), snapFrac := pack [(0, e.tim.time % 65536), (16, e.tim.servo.code), (19, b2n e.tim.valid)] } }) ∧
    (bit v 0 = false → exec (.timeSnap dt v) s = .next e) ∧
    (bits v 0 30 ≤ 999999999 → e.timCtrl 3 = true → e.tim.servo = .unset ∨ e.tim.servo = .qualify → (∃ t, exec (.hostStart dt v) s = .next t ∧
      (t.tim.time = (((e.reg 0x8020).toNat + (e.reg 0x8024).toNat * 2 ^ 32) * 1000000000 + bits v 0 30) * nsU ∧ t.tim.valid = true ∧ t.tim.servo = .holdover ∧ t.tim.rate = 0 ∧
        (∀ o, o ≠ 0x8028 → t.reg o = e.reg o) ∧ t = { e with regs := t.regs, tim := t.tim }))) ∧
    (bits v 0 30 ≤ 999999999 → e.timCtrl 3 = false ∨ e.tim.servo ≠ .unset ∧ e.tim.servo ≠ .qualify → (∃ t, exec (.hostStart dt v) s = .next t ∧
      ((∀ o, o ≠ 0x8028 → t.reg o = e.reg o) ∧ t = { e with regs := t.regs, tim := { e.tim with setIgnored := true } }))) ∧
    (999999999 < bits v 0 30 → (∃ t, exec (.hostStart dt v) s = .next t ∧ ((∀ o, o ≠ 0x8028 → t.reg o = e.reg o) ∧ t = { e with regs := t.regs }))) ∧
    (bit v 0 = true → e.periodOk p = true → e.tim.genRun = false ∨ e.tim.pUse = none → exec (.pCommit dt v) s =
      .next { e with tim := { e.tim with pRefused := false, pUse := some p, readyAt := if e.tim.valid then some e.tim.time else none } }) ∧
    (∀ old, bit v 0 = true → e.periodOk p = true → e.tim.genRun = true → e.tim.pUse = some old →
      exec (.pCommit dt v) s = .next { e with tim := { e.tim with pRefused := false, pPend := some (p, (firstTick old e.tim.time + 2).toNat) } }) ∧
    (bit v 0 = true → e.periodOk p = false → exec (.pCommit dt v) s = .next { e with tim := { e.tim with pRefused := true } }) ∧
    (bit v 0 = false → exec (.pCommit dt v) s = .next e) ∧
    (∀ u r, e.tim.genRun = false → e.tim.pUse = some u → e.tim.readyAt = some r →
      let k := (firstTick u (r + 10 * msU)).toNat
      (tickTime u k ≤ e.tim.time → e.tim.ticks = 0 → e.tim.pPend = none → (∃ t, exec (.generatorStart dt) s = .next t ∧
        (t.tim.genRun = true ∧ t.tim.tickAt = tickTime u k ∧ t.tim.tickK = k ∧ t.tim.ticks = 1 ∧ t.imp.counter = e.imp.counter ∧ t.tim.pUse = some u))) ∧
      (e.tim.time < tickTime u k → exec (.generatorStart dt) s = .next e)) ∧
    (e.tim.genRun = true ∨ e.tim.pUse = none ∨ e.tim.readyAt = none → exec (.generatorStart dt) s = .next e)

/-- R379 and R409 to R412: a change of MODE disarms the output and, to another value than 0, gives it its own copy of the settings in force; a pulse in progress is cut at half the spacing when the next one is due before its end; a target written in mode 3 arms the output when it lies ahead and is PAST otherwise; the pulse of an armed output goes out at its target, once; a periodic output's at its next scheduled instant, and no sooner. That a change of MODE disarms is the model's choice (log entry 103). -/
def Obligations.PulseOutputs : Prop :=
  ∀ (dt o : Nat) (v : Word) (s : State), o < 4 → tabWf (fun _ => ({} : Pout)) s.tim.pouts = true →
    let e := s.elapse dt
    let x := e.pout o
    let m := bits v 0 2
    let rest (t : State) : Prop := (∀ k, k ≠ o → t.pout k = e.pout k) ∧ t = { e with regs := t.regs, out := t.out, tim := { e.tim with pouts := t.tim.pouts } }
    let cut (n : Int) (t : State) : Prop := ∀ a b : Nat, x.last = some (a, b) → (a : Int) < n → n < b → e.tim.time < b → .pulseCut o a (max ((n - a) / 2).toNat (e.tim.time - a)) ∈ t.out
    let at_ := ((e.reg (poutReg o + 8)).toNat + (e.reg (poutReg o + 12)).toNat * 2 ^ 32) * 1000000000 + bits v 0 30
    let next_ := x.after (x.lastAt.getD 0 : Nat)
    ((∃ t, exec (.pulseModeWrite dt o v) s = .next t ∧ ((t.pout o).mode = m ∧ (∀ k, k ≠ poutReg o → t.reg k = e.reg k) ∧ (x.last = none → t.out = e.out) ∧ rest t ∧ (m = x.mode → t.pout o = x) ∧
      (m ≠ x.mode → m = 0 → t.pout o = { x with mode := 0, armed := false }) ∧
      (m ≠ x.mode → m ≠ 0 → t.pout o = { t.poutCopy o { x with mode := m, armed := false } with lastAt := some e.tim.time, last := (t.pout o).last } ∧
        ∀ n, m ≠ 3 → (t.pout o).after e.tim.time = some n → cut n t)))) ∧
    (x.mode = 3 → bits v 0 30 ≤ 999999999 → (∃ t, exec (.pulseTargetCommit dt o v) s = .next t ∧
      ((t.pout o).tgt = at_ ∧ (t.pout o).armed = decide (e.tim.time < at_ * nsU) ∧ (t.pout o).past = !decide (e.tim.time < at_ * nsU) ∧ (∀ k, k ≠ poutReg o + 16 → t.reg k = e.reg k) ∧
        (x.last = none → t.out = e.out) ∧ (e.tim.time < at_ * nsU → cut (Int.ofNat (at_ * nsU)) t) ∧ rest t))) ∧
    (x.mode ≠ 3 ∨ 999999999 < bits v 0 30 → (∃ t, exec (.pulseTargetCommit dt o v) s = .next t ∧ (t = { e with regs := t.regs } ∧ ∀ k, k ≠ poutReg o + 16 → t.reg k = e.reg k))) ∧
    (x.mode = 3 → x.armed = true → x.tgt * nsU ≤ e.tim.time → (∃ t, exec (.pulseDue dt o) s = .next t ∧
      (t.out = .pulse o (x.tgt * nsU) (x.width * usU) :: e.out ∧
        t.pout o = { x with armed := false, fired := true, lastAt := some (x.tgt * nsU), last := some (x.tgt * nsU, x.tgt * nsU + x.width * usU) } ∧ t.regs = e.regs ∧ rest t))) ∧
    (∀ i : Nat, x.mode = 2 ∨ x.mode = 1 ∧ e.tim.genRun = true → next_ = some (i : Int) → i ≤ e.tim.time → (∃ t, exec (.pulseDue dt o) s = .next t ∧
      (t.out = .pulse o i (x.high i) :: e.out ∧ t.pout o = { x with lastAt := some i, last := some (i, i + x.high i) } ∧ t.regs = e.regs ∧ rest t))) ∧
    (x.mode = 0 ∨ x.mode = 3 ∧ (x.armed = false ∨ e.tim.time < x.tgt * nsU) ∨ x.mode = 1 ∧ e.tim.genRun = false ∨
      (x.mode = 1 ∨ x.mode = 2) ∧ (∀ i, next_ = some i → i < 0 ∨ (e.tim.time : Int) < i) → exec (.pulseDue dt o) s = .next e)

/-- R402 to R406 and R408: an ESMC PDU, a good REFQL frame, silence for 5 s, a window and a loss of signal each set what they tell of a candidate, which is then judged: without validity it is not eligible, and it is eligible once valid for its wait. The PLL follows the eligible candidate of best quality level and lowest index, raises REF_SWITCH when that changes, and runs free with REF_FREERUN without one; its phase build-out ends in lock. A frame that is bad is counted, and one of another version or of no candidate changes nothing. -/
def Obligations.ReferencesFollowed : Prop :=
  ∀ (dt c : Nat) (s : State), tabWf (fun _ => ({} : Cand)) s.refs.cands = true →
    let e := s.elapse dt
    let x := e.cand c
    let judged (c : Nat) (y : Cand) (t : State) : Prop := t.cand c = y.judge e.clk ∧ (∀ k, k ≠ c → t.cand k = e.cand k) ∧ t.refs.sel = t.bestCand.getD 15 ∧
      (∀ k, t.bestCand = some k → k ≠ e.refs.sel → e.raised t .refSwitch (instOf 13 k) ∧ t.refs.buildout = true ∧ t.refs.freerun = false) ∧
      (t.bestCand = none → e.refs.sel ≠ 15 → t.refs.freerun = true ∧ (e.refs.freeEp = false → e.raised t .refFreerun 0)) ∧ t.body = ({ e with refs := t.refs } : State).body
    (∀ ssm ev, c < 8 → e.portActive (4 * c) = true → (∃ t, exec (.esmcPdu dt c ssm ev) s = .next t ∧ judged c (x.setQl e.clk ssm) t)) ∧
    (∀ ssm ev, 8 ≤ c ∨ e.portActive (4 * c) = false → exec (.esmcPdu dt c ssm ev) s = .next e) ∧
    (∀ i l q, i < 2 → l.length = 8 → l.take 2 = [0xA5, 0x5A] → refqlGood l = some (1, q) → (∃ t, exec (.refqlFrame dt i l) s = .next t ∧ judged (8 + i) ((e.cand (8 + i)).setQl e.clk q) t)) ∧
    (∀ i l, i < 2 → l.length = 8 → l.take 2 = [0xA5, 0x5A] → refqlGood l = none → (∃ t, exec (.refqlFrame dt i l) s = .next t ∧
      ((if i = 0 then t.refs.qlErr0.head? else t.refs.qlErr1.head?) = some e.clk ∧ t.refs.cands = e.refs.cands ∧ t.refs.sel = e.refs.sel ∧ t = { e with refs := t.refs }))) ∧
    (∀ i l, 2 ≤ i ∨ l.length ≠ 8 ∨ l.take 2 ≠ [0xA5, 0x5A] ∨ (∃ n q, refqlGood l = some (n, q) ∧ n ≠ 1) → exec (.refqlFrame dt i l) s = .next e) ∧
    (c < 10 → x.qlTimeout = false → x.qlAt + 5 * secU ≤ e.clk → (∃ t, exec (.qlTimeout dt c) s = .next t ∧ judged c { x with ql := 15, qlFailed := true, qlTimeout := true } t)) ∧
    (10 ≤ c ∨ x.qlTimeout = true ∨ e.clk < x.qlAt + 5 * secU → exec (.qlTimeout dt c) s = .next e) ∧
    (∀ sg f n, c < 10 → (∃ t, exec (.candidateWindow dt c sg f n) s = .next t ∧ judged c (x.window c (sg && (decide (8 ≤ c) || (e.port (4 * c)).link)) f n) t)) ∧
    (c < 10 → (∃ t, exec (.candidateSignalLoss dt c) s = .next t ∧ judged c { x with signal := false, inRange := false, fin := 0 } t)) ∧
    (∀ sg f n, 10 ≤ c → exec (.candidateWindow dt c sg f n) s = .next e ∧ exec (.candidateSignalLoss dt c) s = .next e) ∧
    (∀ at_, c < 10 → x.validSince = some at_ → x.eligible = false → at_ + x.wait ≤ e.clk → (∃ t, exec (.candidateEligible dt c) s = .next t ∧
      (t.cand c = { x with eligible := true, everElig := true } ∧ (∀ k, k ≠ c → t.cand k = e.cand k) ∧ t.refs.sel = t.bestCand.getD 15 ∧ t.body = ({ e with refs := t.refs } : State).body))) ∧
    (10 ≤ c ∨ x.validSince = none ∨ x.eligible = true ∨ (∃ at_, x.validSince = some at_ ∧ e.clk < at_ + x.wait) → exec (.candidateEligible dt c) s = .next e) ∧
    (∀ d, (∃ t, exec (.tcxoCompensation dt d) s = .next t ∧ (t.refs.tcxoTemp = satS 16 d ∧ t.refs.sel = e.refs.sel ∧ t.refs.cands = e.refs.cands ∧
      (e.refs.sel = 15 → e.refs.freeEp = false → e.raised t .refFreerun 0) ∧ t.body = ({ e with refs := t.refs } : State).body))) ∧
    (e.refs.buildout = true → exec (.phaseBuildOutDone dt) s = .next { e with refs := { e.refs with buildout := false, locked := true } }) ∧
    (e.refs.buildout = false → exec (.phaseBuildOutDone dt) s = .next e)

/-- R19, R425, R426, R427, R431, R432 and Tables 12-2 and 12-3: a word read, by its owner or by the scrubber while SCRUB_EN is 1, changes nothing but counters when it is clean. A single error is corrected and counted, and an uncorrectable one is counted and handled by its owner; each writes MEM_ERR, raises its source at most once a second for its pseudo-channel, and has its row repaired when the rule asks for it and a spare of the bank is free. A read from a pseudo-channel that is RETIRED raises UNIT_STATE_CONFLICT alone, and an address outside the stacks is not read. -/
def Obligations.DramErrors : Prop :=
  ∀ (dt : Nat) (a : DramAddr) (o : DramOwner) (tw : Bool) (s : State),
    let e := s.elapse dt
    let x := e.pc a.pc
    let live := addrOk a = true ∧ x.unit ≠ .retired
    let runs (w : EccSeen) (p : State → Prop) : Prop := (∃ t, exec (.dramRead dt a w o tw) s = .next t ∧ p t) ∧ (e.regBit 0xA004 0 = true → ∃ t, exec (.scrubRead dt a w o tw) s = .next t ∧ p t)
    let base (t : State) : State := { e with mem := { e.mem with pcs := t.mem.pcs, ceCnt := t.mem.ceCnt, ueCnt := t.mem.ueCnt, err := t.mem.err }, cal := { e.cal with pend := t.cal.pend } }
    (live → runs .clean fun t => t = { e with obs := t.obs } ∧ t.obs.store = e.obs.store) ∧
    (∀ ck syn, live → runs (.single ck syn) fun t =>
      t.mem.ceCnt = satU 32 (e.mem.ceCnt + 1) ∧ t.mem.ueCnt = e.mem.ueCnt ∧ t.mem.err = errWord a false ck syn ∧ (t.pc a.pc).ce = satU 16 (x.ce + 1) ∧ (t.pc a.pc).ue = x.ue ∧
        tget 0 t.flt.raises Src.memCe.info.1 = tget 0 e.flt.raises Src.memCe.info.1 + b2n (duePerSec x.ceAt e.clk) ∧
        (2 ≤ (x.corr.filter fun y => y.1 == a.bank && y.2.1 == a.row && decide (e.clk < y.2.2 + hour)).length → tget 0 x.sparesUsed a.bank < 2 → (a.bank, a.row, false) ∈ (t.pc a.pc).repairs) ∧
        (∀ p, p ≠ a.pc → t.pc p = e.pc p) ∧ t.body = (base t).body) ∧
    (∀ syn, live → runs (.double syn) fun t =>
      t.mem.ueCnt = satU 32 (e.mem.ueCnt + 1) ∧ t.mem.ceCnt = e.mem.ceCnt ∧ t.mem.err = errWord a true false syn ∧ (t.pc a.pc).ue = satU 16 (x.ue + 1) ∧ (t.pc a.pc).ce = x.ce ∧
        tget 0 t.flt.raises Src.memUe.info.1 = tget 0 e.flt.raises Src.memUe.info.1 + b2n (duePerSec x.ueAt e.clk) ∧
        ((∀ r ∈ x.repairs, r.1 = a.bank → r.2.1 ≠ a.row) → tget 0 x.sparesUsed a.bank < 2 → (a.bank, a.row, false) ∈ (t.pc a.pc).repairs) ∧
        (∀ p, p ≠ a.pc → t.pc p = e.pc p) ∧ (e.paired o = true ∧ tw = true ∨ o = .other → t.body = (base t).body) ∧
        (∀ n, o = .canvas n → e.paired o = false ∨ tw = false → n ∈ t.cmp.poisoned ∧ t.body = ({ base t with cmp := { e.cmp with poisoned := t.cmp.poisoned } } : State).body) ∧
        (∀ k sl, o = .refImage k sl → (t.refEntry k sl).bad = true ∧ 4096 * k + sl ∉ t.slg.certain ∧ (∀ j i, 4096 * j + i ≠ 4096 * k + sl → t.refEntry j i = e.refEntry j i) ∧
          t.body = ({ base t with slg := { e.slg with refs := t.slg.refs, certain := t.slg.certain } } : State).body) ∧
        (∀ k sl gen y, o = .staged k sl gen → e.slug? k sl gen = some y → ∃ z, t.slug? k sl gen = some z ∧ z.method = 0 ∧ z.codes = whole (e.refEntry k sl).codes ∧ 3 ≤ z.copies) ∧
        (∀ id i, o = .tableStaging id → e.item? id = some i → i.opcode = 0x0301 ∨ i.opcode = 0x0302 → t.told i.cq (i.completion .failedUnit 3 0 0 false))) ∧
    (∀ w, addrOk a = true → x.unit = .retired → runs w fun t => e.raised t .unitStateConflict (instOf 11 a.pc) ∧ t.body = e.body) ∧
    (∀ w, addrOk a = false → runs w fun t => t = e) ∧
    (∀ w, e.regBit 0xA004 0 = false → exec (.scrubRead dt a w o tw) s = .next e)

/-- R421 to R424: an activate of a row raises the count of its row in the ledger of its bank, and where the ledger is full and does not hold the row, takes over an entry with the smallest count; at the threshold the neighbours that exist are refreshed and the count is 0, or, under THROTTLE, the row's activates wait. Other banks' ledgers stay. The end of a stack's refresh window, 16 ms or 32 ms after it began, empties its ledgers and takes the mode and the threshold of the registers. R418, R419, R420, R434, R435, R437 and R485: an eye check notes the eyes and moves the taps that have drifted one step toward the centre; an eye below the margin raises MEM_TRAIN_MARGIN once, which degrades the pseudo-channel at MAJOR or above, and clears with hysteresis. Training waits for the temperature and is checked again after 100 ms. A DEGRADED pseudo-channel that holds no extent is RETIRED; a write of MEM_PC_CTRL begins the return of a RETIRED or DEGRADED one, which ends IN_SERVICE with its tests passed and every failing row repaired, and with MEM_PC_RETIRED again otherwise. How many requests return at a retirement is a free value (log entry 99). -/
def Obligations.RowsAndPseudoChannels : Prop :=
  (∀ (dt pc bank row stack : Nat) (s : State), pc < 64 → bank < 32 →
     let e := s.elapse dt
     let l := tget [] e.mem.ledgers (32 * pc + bank)
     let c := (ledgerHit row l).2
     let thr := nthD 2048 e.mem.thr (pc / 32)
     let rest (t : State) : Prop := (∀ k, k ≠ 32 * pc + bank → tget [] t.mem.ledgers k = tget [] e.mem.ledgers k)
     (∀ n, (l.find? fun y => y.1 == row) = some (row, n) → c = n + 1) ∧
     ((l.find? fun y => y.1 == row) = none → (l.length < 32 → c = 1) ∧ (32 ≤ l.length → (∀ y ∈ l, c ≤ y.2 + 1) ∧ ∃ y ∈ l, c = y.2 + 1)) ∧
     (row < 24576 → nthD 0 e.mem.mode (pc / 32) ≠ 1 → (∃ t, exec (.dramActivate dt pc bank row) s = .next t ∧
       ((c < thr → t.mem.refreshed = [] ∧ (row, c) ∈ tget [] t.mem.ledgers (32 * pc + bank)) ∧
         (thr ≤ c → t.mem.refreshed = (neighbours row).map (fun y => (pc, bank, y)) ∧ (row, 0) ∈ tget [] t.mem.ledgers (32 * pc + bank) ∧ ∀ y ∈ tget [] t.mem.ledgers (32 * pc + bank), y.1 = row → y.2 = 0) ∧
         rest t ∧ t = { e with mem := { e.mem with ledgers := t.mem.ledgers, refreshed := t.mem.refreshed } }))) ∧
     (row < 24576 → nthD 0 e.mem.mode (pc / 32) = 1 → (∃ t, exec (.dramActivate dt pc bank row) s = .next t ∧
       (t.mem.refreshed = [] ∧ (row, c) ∈ tget [] t.mem.ledgers (32 * pc + bank) ∧ (∃ go, (pc, bank, row, go) ∈ t.mem.delayed ∧ e.clk ≤ go) ∧
         (∀ n at_, (l.find? fun y => y.1 == row) = some (row, n) → thr ≤ n → (e.mem.delayed.find? fun y => y.1 == pc && y.2.1 == bank && y.2.2.1 == row) = some (pc, bank, row, at_) →
           (pc, bank, row, max e.clk (at_ + 32 * msU / max 1 thr)) ∈ t.mem.delayed) ∧
         rest t ∧ t = { e with mem := { e.mem with ledgers := t.mem.ledgers, refreshed := [], throttleAt := t.mem.throttleAt, delayed := t.mem.delayed } }))) ∧
     (24576 ≤ row → exec (.dramActivate dt pc bank row) s = .next e) ∧
     (stack < 2 → nthD 0 e.mem.winAt stack + e.refreshWindow stack ≤ e.clk → (∃ t, exec (.refreshWindowEnd dt stack) s = .next t ∧
       ((∀ k, tget [] t.mem.ledgers k = if k / 1024 = stack then [] else tget [] e.mem.ledgers k) ∧ (∀ y ∈ t.mem.delayed, y.1 / 32 ≠ stack) ∧
         t = { e with mem := { e.mem with winAt := setNth e.mem.winAt stack e.clk, ledgers := t.mem.ledgers, delayed := t.mem.delayed, mode := setNth e.mem.mode stack (e.regBits 0xA008 0 1), thr := setNth e.mem.thr stack (e.regBits 0xA00C 0 16) } }))) ∧
     (2 ≤ stack ∨ e.clk < nthD 0 e.mem.winAt stack + e.refreshWindow stack → exec (.refreshWindowEnd dt stack) s = .next e)) ∧
  (∀ (dt p : Nat) (v : Word) (ey : Eyes) (drift : List (Int × Int)) (s : State), p < 64 → tabWf (fun _ => ({} : Pc)) s.mem.pcs = true →
     let e := s.elapse dt
     let x := e.pc p
     let m := min (minEye (eyes5 ey.rd)) (minEye (eyes5 ey.wr))
     let margin := e.regBits 0xA010 0 8
     let serves := x.unit = .inService ∨ x.unit = .degraded
     let seen : Pc := { x.centred drift with eyeRd := eyes5 ey.rd, eyeWr := eyes5 ey.wr }
     let others (t : State) : Prop := ∀ k, k ≠ p → t.pc k = e.pc k
     let rest (t : State) : Prop := others t ∧ t.body = ({ e with mem := { e.mem with pcs := t.mem.pcs }, cal := { e.cal with pend := t.cal.pend } } : State).body
     (serves → x.lowMargin = false → m < margin → (∃ t, exec (.eyeCheck dt p ⟨ey, drift⟩) s = .next t ∧
       (e.raised t .memTrainMargin (instOf 11 p) ∧ t.pc p = { seen with lowMargin := true, unit := (t.pc p).unit } ∧ (2 ≤ e.severity .memTrainMargin → (t.pc p).unit = .degraded) ∧ rest t))) ∧
     (serves → x.lowMargin = true → margin + 8 ≤ m → (∃ t, exec (.eyeCheck dt p ⟨ey, drift⟩) s = .next t ∧ (t.pc p = { seen with lowMargin := false } ∧ rest t))) ∧
     (serves → (x.lowMargin = true ∧ m < margin + 8 ∨ x.lowMargin = false ∧ margin ≤ m) → exec (.eyeCheck dt p ⟨ey, drift⟩) s = .next { e with mem := { e.mem with pcs := tput {} e.mem.pcs p seen } }) ∧
     (¬serves → exec (.eyeCheck dt p ⟨ey, drift⟩) s = .next e) ∧
     (e.mem.tempHold = true → e.mem.holdAt + 100 * msU ≤ e.clk → exec (.trainingTempRecheck dt) s = .next { e with mem := { e.mem with tempHold := !e.trainTemp, holdAt := e.clk } }) ∧
     (e.mem.tempHold = false ∨ e.clk < e.mem.holdAt + 100 * msU → exec (.trainingTempRecheck dt) s = .next e) ∧
     (x.unit = .degraded → (∀ a ∈ e.mem.allocs, tget 0 a.ext p + tget 0 a.twin p = 0) → (∃ t, exec (.migrationDone dt p) s = .next t ∧
       (t.pc p = { x with unit := .retired, gen := nextGen x.gen } ∧ others t ∧
         t.body = ({ e with fresh := e.fresh + 1, mem := { e.mem with pcs := t.mem.pcs }, cal := { e.cal with pend := true, retries := e.cal.retries + Config.heldRequests e.fresh } } : State).body))) ∧
     (x.unit = .degraded → (∃ t, exec (.migrationDone dt p) s = .next t ∧ (((t.pc p).unit = .retired ∨ t.pc p = x) ∧ others t ∧ t.regs = e.regs ∧ t.hif.items = e.hif.items))) ∧
     (x.unit ≠ .degraded → exec (.migrationDone dt p) s = .next e) ∧
     (bit v 0 = true → e.regBits 0xA080 0 6 = p → x.unit = .retired ∨ x.unit = .degraded → (∃ t, exec (.pcRestore dt v) s = .next t ∧
       (t.pc p = { x with restoring := true } ∧ others t ∧ t = { e with mem := { e.mem with pcs := t.mem.pcs, tempHold := !e.trainTemp, holdAt := e.clk } }))) ∧
     (bit v 0 = false ∨ e.regBits 0xA080 0 6 = p ∧ x.unit ≠ .retired ∧ x.unit ≠ .degraded → exec (.pcRestore dt v) s = .next e) ∧
     (∀ rows, x.restoring = true → e.mem.tempHold = false → (e.testRows p rows).1 = false → (∃ t, exec (.pcRestoreDone dt p true ⟨ey, rows⟩) s = .next t ∧
       (let y := t.pc p
       y.unit = .inService ∧ y.restoring = false ∧ y.trainFail = false ∧ y.ueRows = [] ∧ y.gen = nextGen x.gen ∧ y.eyeRd = eyes5 ey.rd ∧ y.eyeWr = eyes5 ey.wr ∧
         (∀ r ∈ rows, (r.1, r.2, false) ∈ y.repairs) ∧ others t ∧ t.body = ({ e with fresh := e.fresh + 1, mem := { e.mem with pcs := t.mem.pcs }, cal := { e.cal with pend := true } } : State).body))) ∧
     (∀ rows ok, x.restoring = true → e.mem.tempHold = false → ok = false ∨ (e.testRows p rows).1 = true → (∃ t, exec (.pcRestoreDone dt p ok ⟨ey, rows⟩) s = .next t ∧
       ((t.pc p).restoring = false ∧ (t.pc p).trainFail = true ∧ (t.pc p).unit = x.unit ∧ tget 0 t.flt.raises Src.memPcRetired.info.1 = tget 0 e.flt.raises Src.memPcRetired.info.1 + 1 ∧ rest t))) ∧
     (∀ rows ok, x.restoring = false ∨ e.mem.tempHold = true → exec (.pcRestoreDone dt p ok ⟨ey, rows⟩) s = .next e))

/-- R458 to R464, R467, R522 and Tables 13-9 and 13-15: from stage 1 on, and but for a CALREF run, a thermal sample is the newest of each valid sensor's readings and a reading out of range fails its sensor for good; the hottest mean begins and ends the warning and the throttle with hysteresis, and at the shut-down threshold begins the orderly stop, or before READY switches the rails off. A trigger during a stop joins it, and one while a resume is in progress stops the module again. A supply sample counts toward its thresholds: four in a row at fault begin the orderly stop too, four below 28.0 V are a reset of the module, and 100 ms out of range is SUPPLY_LOW until a second within. -/
def Obligations.SensorsAndSupply : Prop :=
  ∀ (dt : Nat) (s : State),
    let e := s.elapse dt
    let judged := 1 ≤ e.sys.stage ∧ e.cal.running = false
    let stops (cause : Nat) (t : State) : Prop :=
      (e.hif.ready = true → e.thp.stopping = false → e.thp.stopped = false → t.thp.stopping = true ∧ t.thp.cause = cause ∧ t.thp.stopAt = e.clk ∧ t.thp.again = false) ∧
        (e.hif.ready = true → e.thp.stopped = true → e.thp.resuming = true →
          t.thp.stopped = true ∧ t.thp.resuming = false ∧ t.thp.cause = joinCause e.thp.cause cause ∧ t.thp.stopAt = e.clk ∧ t.thp.core = false ∧ t.thp.serdes = false ∧ t.thp.hbm = false) ∧
        (e.hif.ready = true → e.thp.stopping = true ∧ e.thp.stopped = false ∨ e.thp.stopped = true ∧ e.thp.resuming = false →
          t.thp.stopping = e.thp.stopping ∧ t.thp.stopped = e.thp.stopped ∧ t.thp.cause = joinCause e.thp.cause cause ∧ t.thp.again = true) ∧
        (e.hif.ready = false → t.thp.core = false ∧ t.thp.serdes = false ∧ t.thp.hbm = false ∧ t.sys.preShut = true ∧ t.sys.stage ≤ 2 ∧ t.thp.stopping = e.thp.stopping)
    let rest (t : State) : Prop := t.regs = e.regs ∧ t.tim = e.tim ∧ t.lanes = e.lanes ∧ t.cmp = e.cmp ∧ t.ing = e.ing ∧ t.slg = e.slg ∧ t.lmp = e.lmp ∧ t.imp = e.imp ∧ t.cal = e.cal
    (∀ r, judged → ∃ t, exec (.thermalSample dt r) s = .next t ∧
      (∀ k x, k < 20 → r[k]? = some x → -880 ≤ x → x ≤ 2400 → tget [] t.thp.samples k = (x :: tget [] e.thp.samples k).take 4 ∧ (k ∈ t.thp.failed ↔ k ∈ e.thp.failed)) ∧
        (∀ k x, k < 20 → r[k]? = some x → x < -880 ∨ 2400 < x → k ∈ t.thp.failed ∧ tget [] t.thp.samples k = tget [] e.thp.samples k) ∧
        (∀ h, hottest t.readings = some h →
          t.mem.hot = (List.range 2).map (fun n => (t.group (hbmSensors n)).any fun y => decide (1360 < y.2)) ∧
          t.thp.warn = (if e.thp.warn = true then decide (1440 ≤ h.2) else decide (1520 ≤ h.2)) ∧ t.thp.throttle = (if e.thp.throttle = true then decide (1520 ≤ h.2) else decide (1600 ≤ h.2)) ∧
          (e.thp.warn = false → 1520 ≤ h.2 → t.thp.warnBy = h.1 ∧ tget 0 e.flt.raises Src.tempWarn.info.1 < tget 0 t.flt.raises Src.tempWarn.info.1) ∧
          (e.thp.throttle = false → 1600 ≤ h.2 → t.thp.episodes = e.thp.episodes + 1 ∧ tget 0 t.flt.raises Src.tempThrottle.info.1 = tget 0 e.flt.raises Src.tempThrottle.info.1 + 1) ∧
          (e.thp.shut = false ∨ e.thp.resumedFlip = true → 1760 ≤ h.2 → t.thp.shut = true ∧ t.thp.shutBy = h.1 ∧ tget 0 t.flt.raises Src.tempShutdown.info.1 = tget 0 e.flt.raises Src.tempShutdown.info.1 + 1 ∧ stops 1 t) ∧
          (h.2 < 1760 → t.thp.shut = e.thp.shut ∧ t.thp.stopping = e.thp.stopping ∧ t.thp.stopped = e.thp.stopped ∧ t.thp.cause = e.thp.cause ∧ t.leaves = e.leaves)) ∧
        (hottest t.readings = none → t.thp.warn = e.thp.warn ∧ t.thp.throttle = e.thp.throttle ∧ t.thp.shut = e.thp.shut ∧ t.thp.stopping = e.thp.stopping) ∧ rest t) ∧
    (∀ r v i p, ¬judged → exec (.thermalSample dt r) s = .next e ∧ exec (.supplySample dt v i p) s = .next e) ∧
    (∀ v i p, judged →
      let n := e.thp.noted e.clk v i p
      n.supV = v ∧ n.supI = i ∧ n.supP = p ∧ n.n33 = (if v < 3300 then e.thp.n33 + 1 else 0) ∧ n.n28 = (if v < 2800 then e.thp.n28 + 1 else 0) ∧ n.n100 = (if 10000 < v then e.thp.n100 + 1 else 0) ∧
      (n.n28 < 4 → ∃ t, exec (.supplySample dt v i p) s = .next t ∧
        t.thp.supV = v ∧ t.thp.supI = i ∧ t.thp.supP = p ∧ t.thp.n40 = n.n40 ∧ t.thp.n33 = n.n33 ∧ t.thp.n28 = n.n28 ∧ t.thp.n100 = n.n100 ∧ t.thp.writeOk = n.writeOk ∧
          (e.thp.low = false → lasted n.outLow (100 * msU) e.clk = true → t.thp.low = true ∧ tget 0 t.flt.raises Src.supplyLow.info.1 = tget 0 e.flt.raises Src.supplyLow.info.1 + 1) ∧
          (e.thp.low = true → lasted n.inLow secU e.clk = true → t.thp.low = false) ∧
          (e.thp.low = false → lasted n.outLow (100 * msU) e.clk = false → t.thp.low = false) ∧ (e.thp.low = true → lasted n.inLow secU e.clk = false → t.thp.low = true) ∧
          (e.thp.fail = false ∨ e.thp.resumedFlip = true → 4 ≤ n.n33 ∨ 4 ≤ n.n100 → t.thp.fail = true ∧ tget 0 t.flt.raises Src.supplyFail.info.1 = tget 0 e.flt.raises Src.supplyFail.info.1 + 1 ∧ stops 2 t) ∧
          (n.n33 < 4 → n.n100 < 4 → t.thp.fail = e.thp.fail ∧ t.thp.stopping = e.thp.stopping ∧ t.thp.stopped = e.thp.stopped ∧ t.thp.cause = e.thp.cause ∧ t.leaves = e.leaves) ∧ rest t) ∧
      (4 ≤ n.n28 → ∃ t, exec (.supplySample dt v i p) s = .next t ∧
        t.regs = State.reset.regs ∧ t.hif = State.reset.hif ∧ t.cmp = State.reset.cmp ∧ t.leaves = State.reset.leaves ∧ t.mem = State.reset.mem ∧ t.thp = State.reset.thp ∧ t.sys.stage = 0 ∧ t.sys.endpoint = false ∧
          t.sys.txOffTo = e.clk + 50 * msU ∧ t.cal.copyA = e.cal.copyA ∧ t.cal.copyB = e.cal.copyB ∧ t.cal.fuses = e.cal.fuses ∧ t.upd.bankA = e.upd.bankA ∧ t.upd.bankB = e.upd.bankB ∧
          t.upd.owner = e.upd.owner ∧ t.upd.lock = e.upd.lock ∧ t.upd.floor = e.upd.floor))

/-- R438, R439, R464, R465, R467 and Table 13-11: DARK goes out to every leaf in use while the module stops, new or again under its SEQ, and takes no place among the 8 of R331 (log entry 104); the stop ends every descriptor in flight, DONE where it had landed and FAILED_UNIT 4 where not, closes and writes every record group, stops every lane and leaves the module STOPPED with its rails off and the quiet state kept; a resume that RESUME_OK allows switches the rails on and trains, and completes with the module in service, every session begun anew, and what it could not keep LOST. R81, R457, R495 and R528: the supervisor's watchdog is counted and raised, stops the supervisor and with it an activation in its first step, whose command ends FAILED_UNIT; the restart brings the supervisor back, what was kept is written, and sweeping resumes. -/
def Obligations.StopsResumesRestarts : Prop :=
  (∀ (dt : Nat) (v : Word) (s : State),
     let e := s.elapse dt
     (e.thp.stopping = true → e.thp.darkAt + 100 * usU ≤ e.clk → ∃ t, exec (.darkRepeat dt) s = .next t ∧
       (∀ q < 16, (e.quire q).st = .running → ∀ i ∈ e.usedLeaves q,
         let l := e.leaf (64 * q + i)
         l.feed ≠ 0 → l.foreign = false →
           ((∀ c ∈ l.cmds, c.opcode ≠ 4) → ∃ n, .packet q 2 (e.quire q).tag (.command i n 4 0 []) ∈ t.out) ∧
           (∀ c ∈ l.cmds, c.opcode = 4 → c.sent = true → c.dead = false → .packet q 2 (e.quire q).tag (.command i c.seq 4 c.target c.data) ∈ t.out)) ∧
         t.thp = { e.thp with darkAt := e.clk } ∧ t.body = ({ e with thp := t.thp, leaves := t.leaves } : State).body) ∧
     (e.thp.stopping = false ∨ e.clk < e.thp.darkAt + 100 * usU → exec (.darkRepeat dt) s = .next e) ∧
     (e.thp.stopping = true → tabWf laneDflt e.lanes = true → ∃ t, exec (.orderlyStopEnd dt) s = .next t ∧
       t.thp = { e.thp with stopping := false, stopped := true, core := false, serdes := false, hbm := false } ∧ t.mem.quiet = true ∧ t.hif.items = [] ∧ t.groups = [] ∧ t.win.open_ = false ∧
         (∀ i < 80, (t.lane i).func = 0) ∧ t.cmp.tiles = [] ∧ t.slg.slugs = [] ∧
         (∀ i ∈ e.hif.items, (∀ x ∈ e.hif.items, x.id = i.id → x = i) →
           (hasLanded i = false → t.told i.cq (i.completion .failedUnit 4 0 0 (e.unanswered i.id))) ∧
           (hasLanded i = true → i.commitId = none → t.told i.cq (i.completion (if i.late = true ∨ slipped i = true then .doneLate else .done) 0 (landImp e i) 0 false))) ∧
         (e.upd.st = .writing → t.upd = { e.upd with st := .verified, act := none, step1 := none, goodImp := t.upd.goodImp }) ∧ (e.upd.st ≠ .writing → t.upd = { e.upd with goodImp := t.upd.goodImp }) ∧
         t.regs = e.regs ∧ t.tim = e.tim ∧ t.refs = e.refs ∧ t.imp.counter = e.imp.counter ∧ t.cal = e.cal) ∧
     (e.thp.stopping = false → exec (.orderlyStopEnd dt) s = .next e) ∧
     (bit v 0 = true → e.resumeOk = true → exec (.resume dt v) s = .next { e with thp := { e.thp with resuming := true, core := true, serdes := true, hbm := true }, mem := { e.mem with tempHold := !e.trainTemp, holdAt := e.clk } }) ∧
     (bit v 0 = false ∨ e.resumeOk = false → exec (.resume dt v) s = .next e) ∧
     (∀ tr aux, e.thp.resuming = true → e.mem.tempHold = false → tabWf (fun _ => ({} : Leaf)) e.leaves = true → tabWf (fun _ => ({} : Quire)) e.quires = true → ∃ t, exec (.resumeComplete dt tr aux) s = .next t ∧
       t.thp = { e.thp with stopped := false, resuming := false, resumedFlip := true, cause := 0 } ∧ t.mem.quiet = false ∧ t.mem.trained = tr ∧ t.hif.sweepAt = e.clk ∧
         (∀ k, (t.leaf k).cmds = (e.leaf k).cmds ∧ (t.leaf k).inUse = (e.leaf k).inUse ∧
           (k < 1024 → e.regBit (0x6080 + 4 * (k / 64)) 16 = true → (t.leaf k).enrolled = false ∧ (t.leaf k).foreign = false ∧ (t.quire (k / 64)).tag = 0)) ∧
         (tr = true → aux = false → t.slg = e.slg ∧ t.cmp = e.cmp ∧ ∀ k, (t.leaf k).table = (e.leaf k).table) ∧
         (tr = false ∨ aux = true → t.slg.refs = [] ∧ (∀ k, (t.leaf k).table = (e.leaf k).table.map fun b => { b with lost := true }) ∧ t.mem.pcs = e.mem.pcs) ∧
         (∀ o, (∀ i < 130, o ≠ laneReg i) → t.reg o = e.reg o) ∧ t.tim = e.tim ∧ t.imp = e.imp ∧ t.groups = e.groups ∧ t.hif.items = e.hif.items) ∧
     (∀ tr aux, e.thp.resuming = false ∨ e.mem.tempHold = true → exec (.resumeComplete dt tr aux) s = .next e)) ∧
  (∀ (dt : Nat) (s : State),
     let e := s.elapse dt
     (e.sys.supRun = true → ∃ t, exec (.supervisorWatchdog dt) s = .next t ∧
       t.sys = { e.sys with supRun := false } ∧ t.flt.wdog = true ∧ t.flt.wdogs = satU 16 (e.flt.wdogs + 1) ∧ t.flt.supResets = satU 16 (e.flt.supResets + 1) ∧ e.raised t .supervisorWatchdog 0 ∧
         (e.upd.st ≠ .writing → t.body = ({ e with sys := t.sys } : State).body) ∧
         (∀ id i, e.upd.st = .writing → e.upd.act = some id → e.item? id = some i → t.upd = { e.upd with st := .verified, act := none, step1 := none } ∧ t.told i.cq (i.completion .failedUnit 5 0 0 false) ∧
           t.body = ({ e with sys := t.sys, upd := t.upd, hif := { e.hif with items := t.hif.items } } : State).body)) ∧
     (e.sys.supRun = false → exec (.supervisorWatchdog dt) s = .next e) ∧
     (e.sys.supRun = false → e.flt.wdog = true → ∃ t, exec (.supervisorRestart dt) s = .next t ∧
       t.sys = { e.sys with supRun := true } ∧ t.flt.wdog = false ∧ t.hif.sweepAt = e.clk ∧
         ∃ u : State, u.sys = t.sys ∧ u.hif = { e.hif with sweepAt := e.clk } ∧ u.body = ({ e with sys := t.sys, hif := { e.hif with sweepAt := e.clk } } : State).body ∧ u.flushed t) ∧
     (e.sys.supRun = true ∨ e.flt.wdog = false → exec (.supervisorRestart dt) s = .next e))

/-- R474, R475, R481 and Table 14-6: a write of CAL_CMD begins a CALREF run where CALREF reads in range and writes are permitted and none runs, and sets REF_FAIL otherwise; a run that ends in time with a residual of 100 µV or less gives TRIM, RESID and the time, and one that does not leaves them. A corrected word of on-die SRAM raises SRAM_CE at most once a second, and its row is spared at the second read within the hour; an uncorrectable one takes a spare at once, and its request is tried again. -/
def Obligations.ReferenceAndSram : Prop :=
  ∀ (dt : Nat) (s : State),
    let e := s.elapse dt
    (∀ v uv, bit v 0 = true → e.cal.running = false → e.writesOk = true → 1150000 ≤ uv → uv ≤ 1250000 →
      exec (.calrefRun dt v uv) s = .next { e with cal := { e.cal with present := true, running := true, refFail := false, startAt := e.clk } }) ∧
    (∀ v uv, bit v 0 = true → e.cal.running = true ∨ e.writesOk = false ∨ uv < 1150000 ∨ 1250000 < uv → exec (.calrefRun dt v uv) s = .next { e with cal := { e.cal with present := calrefOk uv, refFail := true } }) ∧
    (∀ v uv, bit v 0 = false → exec (.calrefRun dt v uv) s = .next e) ∧
    (∀ code (resid : Int), e.cal.running = true → e.clk ≤ e.cal.startAt + 200 * msU → resid.natAbs ≤ 100 → exec (.calrefRunDone dt code resid) s =
      .next { e with cal := { e.cal with running := false, trim := BitVec.ofNat 7 code, resid := resid, trace := 1, refTime := BitVec.ofNat 64 (e.ns / 1000000000), refNs := e.ns % 1000000000 } }) ∧
    (∀ code (resid : Int), e.cal.running = true → e.cal.startAt + 200 * msU < e.clk ∨ 100 < resid.natAbs → exec (.calrefRunDone dt code resid) s = .next { e with cal := { e.cal with running := false, refFail := true } }) ∧
    (∀ code (resid : Int), e.cal.running = false → exec (.calrefRunDone dt code resid) s = .next e) ∧
    (∀ n row u,
      let x : Macro := tget {} e.cal.macros n
      let spares (t : State) : Prop := t.cal.sramSpared = satU 16 (e.cal.sramSpared + 1) ∧ tget 0 t.flt.raises Src.sramSpared.info.1 = tget 0 e.flt.raises Src.sramSpared.info.1 + 1 ∧ t.cal.pend = true ∧
        (x.rows < 2 → (tget {} t.cal.macros n).rows = x.rows + 1 ∧ (tget {} t.cal.macros n).cols = x.cols) ∧ (2 ≤ x.rows → (tget {} t.cal.macros n).cols = x.cols + 1 ∧ (tget {} t.cal.macros n).rows = x.rows)
      let rest (t : State) : Prop := (∀ k, k ≠ n → tget {} t.cal.macros k = tget {} e.cal.macros k) ∧ t.regs = e.regs ∧ t.lanes = e.lanes ∧ t.mem = e.mem ∧ t.slg = e.slg ∧ t.win = e.win ∧ t.hif.items = e.hif.items
      exec (.sramReadError dt n row .clean u) s = .next e ∧
      (∀ ck syn, (∃ t, exec (.sramReadError dt n row (.single ck syn) u) s = .next t ∧
        (tget 0 t.flt.raises Src.sramCe.info.1 = tget 0 e.flt.raises Src.sramCe.info.1 + b2n (duePerSec x.ceAt e.clk) ∧
          ((x.corr.any fun y => decide (e.clk < y.2 + hour) && y.1 == row) = true → x.usedUp = false → spares t) ∧
          ((x.corr.any fun y => decide (e.clk < y.2 + hour) && y.1 == row) = false ∨ x.usedUp = true → t.cal.sramSpared = e.cal.sramSpared ∧ (row, e.clk) ∈ (tget {} t.cal.macros n).corr) ∧
          rest t ∧ t.cmp = e.cmp ∧ t.lmp = e.lmp ∧ t.cal.retries = e.cal.retries))) ∧
      (∀ syn, (∃ t, exec (.sramReadError dt n row (.double syn) u) s = .next t ∧
        (t.cal.retries = e.cal.retries + 1 ∧ (x.usedUp = false → spares t) ∧ (x.usedUp = true → t.cal.sramMore = e.cal.sramMore + 1 ∧ t.cal.sramSpared = e.cal.sramSpared ∧ t.cal.macros = e.cal.macros) ∧
          (∀ k p, u = .pageCache k p → 256 * k + p ∉ t.lmp.cache ∧ ∀ c ∈ e.lmp.cache, c ≠ 256 * k + p → c ∈ t.lmp.cache) ∧
          ((∀ k p, u ≠ .pageCache k p) → t.lmp = e.lmp) ∧ ((∀ en, u ≠ .engine en) ∨ e.win.pressCut = true → t.cmp = e.cmp) ∧ t.cmp = { e.cmp with jobs := t.cmp.jobs } ∧ rest t))))

/-- R18, R155, R479, R482, R483 and R484: RESTORE returns a DEGRADED engine or encoder to service, and begins the self-test of a RETIRED one, which ends as a SPARE or stays RETIRED. A spare that passes its bring-in takes the place of the unit it replaces and the log says so; one that fails is RETIRED, an engine raises ENGINE_RETIRED, and another spare engine is brought in. The record is written to the older of its two copies, with the next sequence number, while writes are permitted and the supervisor runs. -/
def Obligations.UnitsRestoredAndReplaced : Prop :=
  ∀ (dt : Nat) (v : Word) (s : State), tabWf unitDflt (s.elapse dt).cal.units = true →
    let e := s.elapse dt
    let k := e.regBits 0xD0C0 0 6
    let u := e.unit k
    let others (n : Nat) (t : State) : Prop := ∀ j, j ≠ n → t.unit j = e.unit j
    (bit v 0 = true → unitOk k = true → u.st = .degraded → (∃ t, exec (.unitRestore dt v) s = .next t ∧
      (t.unit k = { u with st := .inService } ∧ others k t ∧ t = { e with cal := { e.cal with units := t.cal.units, pend := true } }))) ∧
    (bit v 0 = true → unitOk k = true → u.st = .retired → (∃ t, exec (.unitRestore dt v) s = .next t ∧
      (t.unit k = { u with testing := true, gen := nextGen u.gen } ∧ others k t ∧ t = { e with cal := { e.cal with units := t.cal.units } }))) ∧
    (bit v 0 = false ∨ unitOk k = false ∨ u.st ≠ .degraded ∧ u.st ≠ .retired → exec (.unitRestore dt v) s = .next e) ∧
    (∀ n < 41, (e.unit n).testing = true → (∀ j < n, (e.unit j).testing = false) →
      ((∃ t, exec (.unitRestoreSelftestDone dt true) s = .next t ∧
        (t.unit n = { e.unit n with st := .spare, testing := false, fail := false, placeOf := 0x3F } ∧ others n t ∧ t = { e with cal := { e.cal with units := t.cal.units, pend := true } }))) ∧
      ((∃ t, exec (.unitRestoreSelftestDone dt false) s = .next t ∧
        (t.unit n = { e.unit n with testing := false, fail := true } ∧ others n t ∧ t = { e with cal := { e.cal with units := t.cal.units } })))) ∧
    (∀ ok, (∀ j < 41, (e.unit j).testing = false) → exec (.unitRestoreSelftestDone dt ok) s = .next e) ∧
    (∀ n f, n < 18 → e.sys.supRun = true → (e.unit n).bringing = some f →
      ((∃ t, exec (.engineBringInDone dt n true) s = .next t ∧
        (t.unit n = { e.unit n with st := .inService, bringing := none, placeOf := f, readyAt := 0 } ∧ others n t ∧ t.cal.log = ((unitInst f, unitInst n) :: e.cal.log).take 256 ∧
          t = { e with cal := { e.cal with units := t.cal.units, log := t.cal.log, pend := true }, cmp := { e.cmp with jobs := t.cmp.jobs } }))) ∧
      ((∃ t, exec (.engineBringInDone dt n false) s = .next t ∧
        (t.unit n = { e.unit n with st := .retired, bringing := none, fail := true, gen := nextGen (e.unit n).gen } ∧
          ((∃ j < 18, j ≠ n ∧ (e.unit j).st = .spare ∧ (e.unit j).bringing = none) → ∃ j < 18, j ≠ n ∧ (e.unit j).st = .spare ∧ (t.unit j).bringing = some f ∧ ∀ i, i ≠ n → i ≠ j → t.unit i = e.unit i) ∧
          e.raised t .engineRetired (instOf 9 n) ∧ t.body = ({ e with cal := { e.cal with units := t.cal.units, pend := true } } : State).body)))) ∧
    (∀ n ok, 18 ≤ n ∨ e.sys.supRun = false ∨ (e.unit n).bringing = none → exec (.engineBringInDone dt n ok) s = .next e) ∧
    (∀ f, e.sys.supRun = true → (e.unit 40).bringing = some f →
      ((∃ t, exec (.encoderBringInDone dt true) s = .next t ∧
        (t.unit 40 = { e.unit 40 with st := .inService, bringing := none, placeOf := f, readyAt := e.clk + msU } ∧ others 40 t ∧ t.cal.log = ((unitInst f, unitInst 40) :: e.cal.log).take 256 ∧
          t = { e with cal := { e.cal with units := t.cal.units, log := t.cal.log, pend := true } }))) ∧
      ((∃ t, exec (.encoderBringInDone dt false) s = .next t ∧
        (t.unit 40 = { e.unit 40 with st := .retired, bringing := none, fail := true, gen := nextGen (e.unit 40).gen } ∧ others 40 t ∧ t = { e with cal := { e.cal with units := t.cal.units, pend := true } })))) ∧
    (∀ ok, e.sys.supRun = false ∨ (e.unit 40).bringing = none → exec (.encoderBringInDone dt ok) s = .next e) ∧
    (e.cal.pend = true → e.sys.supRun = true → e.writesOk = true → ∃ t, exec (.spareRecordWrite dt) s = .next t ∧
      t = { e with cal := { e.cal with copyA := t.cal.copyA, copyB := t.cal.copyB, writes := satU 16 (e.cal.writes + 1), pend := false } } ∧
        ∃ n, t.cal.newer = some (n, e.recordNow) ∧ ∀ r, e.cal.newer = some r → n = r.1 + 1 ∧ (t.cal.copyA = some r ∨ t.cal.copyB = some r)) ∧
    (e.cal.pend = false ∨ e.sys.supRun = false ∨ e.writesOk = false → exec (.spareRecordWrite dt) s = .next e)

/-- R489, R491 and R492: a complete package is checked as a whole. One that passes is VERIFIED, with its version, and its last block is DONE with 3; one that does not is discarded with VERIFY_ERR at its first failing check, raises AUTH_FAILED for a signature and UPDATE_REJECTED otherwise, and its last block is DONE with 1. Without a complete package nothing changes. R498, R500, R501 and Table 15-10: an image on trial that meets the conditions in time is CONFIRMED, and raises the floor when it asks for it, once writes are permitted. UPD_OWNER_CMD enrols the hash of the registers where none is enrolled, its check holds and writes are permitted, and locks under an enrolled hash; anything else sets OWNER_ERR, and an enrolled hash never changes. -/
def Obligations.PackagesAndImages : Prop :=
  (∀ (dt : Nat) (s : State),
     let e := s.elapse dt
     let ends (i : Item) (n : Nat) : Completion := i.completion (if i.late then .doneLate else .done) 0 0 n false
     (∀ g id i, e.upd.staged = some g → g.item = some id → e.item? id = some i → (∃ t, exec (.packageVerifyDone dt) s = .next t ∧
       ((∀ x ∈ t.hif.items, x.id ≠ id) ∧ t.upd.bankA = e.upd.bankA ∧ t.upd.bankB = e.upd.bankB ∧
         (if e.verifyErr g.bytes = 0 then
           t.upd = { e.upd with st := .verified, verr := 0, staged := t.upd.staged } ∧ t.told i.cq (ends i 3) ∧ t.mem = e.mem ∧ t.faults = e.faults ∧
             ∃ x, t.upd.staged = some x ∧ x.verified = true ∧ x.item = none ∧ x.version = pkVersion g.bytes ∧ x.svn = pkSvn g.bytes ∧ x.manifest = pkManifest g.bytes ∧ x.granules = g.granules ∧ x.alloc = g.alloc
         else
           t.upd = { e.upd with st := .idle, verr := e.verifyErr g.bytes, staged := none } ∧ t.told i.cq (ends i 1) ∧ (∀ a ∈ t.mem.allocs, a.id ≠ g.alloc) ∧
             (if 3 ≤ e.verifyErr g.bytes ∧ e.verifyErr g.bytes ≤ 5 then e.raised t .authFailed (instOf 14 i.sq) else e.raised t .updateRejected 0)) ∧
         t.body = ({ e with upd := t.upd, mem := t.mem, hif := { e.hif with items := t.hif.items } } : State).body))) ∧
     (e.upd.staged = none ∨ (∃ g, e.upd.staged = some g ∧ g.item = none) → exec (.packageVerifyDone dt) s = .next e)) ∧
  (∀ (dt : Nat) (v : Word) (s : State),
     let e := s.elapse dt
     let seeks := e.onTrial = true ∧ (e.upd.confirmPend = true ∨ e.confirmOk = true ∧ e.clk ≤ e.upd.supStart + 120 * secU)
     let enrols := e.upd.owner = none ∧ crc32c e.ownerBytes = e.upd.ownerCheck ∧ e.writesOk = true
     (seeks → e.writesOk = true → (∃ t, exec (.imageConfirm dt) s = .next t ∧
       (t.upd.running = { e.upd.running with st := .confirmed } ∧ t.upd.other = e.upd.other ∧ t.upd.trialRun = false ∧ t.upd.confirmPend = false ∧
         t.upd.floor = (if e.upd.running.raise = true then max e.upd.floor e.upd.running.svn else e.upd.floor) ∧ t = { e with upd := t.upd }))) ∧
     (seeks → e.writesOk = false → exec (.imageConfirm dt) s = .next { e with upd := { e.upd with confirmPend := true } }) ∧
     (¬seeks → exec (.imageConfirm dt) s = .next e) ∧
     (∃ t, exec (.ownerProgram dt v) s = .next t ∧ exec (.ownerLock dt v) s = .next t ∧
       (bit v 0 = true → enrols → t.upd.owner = some (BitVec.ofNat 384 (beNat e.ownerBytes))) ∧ (bit v 0 = false ∨ ¬enrols → t.upd.owner = e.upd.owner) ∧
         (t.upd.lock = true ↔ e.upd.lock = true ∨ bit v 1 = true ∧ t.upd.owner.isSome = true ∧ e.writesOk = true) ∧
         (t.upd.ownerErr = true ↔ bit v 0 = true ∧ ¬enrols ∨ bit v 1 = true ∧ (t.upd.owner = none ∨ e.writesOk = false)) ∧
         t = { e with upd := { e.upd with owner := t.upd.owner, lock := t.upd.lock, ownerErr := t.upd.ownerErr } }))

/-- R493 and R494: update.activate, accepted, begins step 1: the state is WRITING, and the bank that does not run is EMPTY, unless it is WRITTEN with the staged manifest already; the running bank and the staged package stay. R494, R495 and Table 15-7: the write of the other bank ends with its header WRITTEN, or with FAILED_UNIT 7 where the read-back fails; it commits as TRIAL with the GEN after the running bank's once no condition of the table is against it, and its command is then DONE with that GEN and a restart ARMED; it waits for that at most 60 s, at whose end it commits or ends FAILED_UNIT 6. The running bank never changes. -/
def Obligations.UpdateActivated : Prop :=
  (∀ (dt q : Nat) (d a : Slot) (s : State) (f : Form), formOf (.updateActivate dt q d a) = some f → f.accepted (s.elapse dt) → (s.elapse dt).freshId →
     let e := s.elapse dt
     ∃ g, e.upd.staged = some g ∧ ∃ t, exec (.updateActivate dt q d a) s = .next t ∧
       t.upd.st = .writing ∧ t.upd.act = some e.nextItem ∧ t.upd.running = e.upd.running ∧ t.upd.staged = some g ∧
         (¬(e.upd.other.st = .written ∧ e.upd.other.manifest = g.manifest) → t.upd.other = {} ∧ t.upd.step1 = none) ∧
         (e.upd.other.st = .written → e.upd.other.manifest = g.manifest → t.upd.other = e.upd.other ∧ t.upd.step1 = some e.clk) ∧
         t = { f.inFlight e (toPhase .working (f.item e)) with upd := t.upd }) ∧
  (∀ (dt : Nat) (s : State) (id : Nat) (i : Item) (g : Staged), (s.elapse dt).upd.act = some id → (s.elapse dt).item? id = some i → (s.elapse dt).upd.staged = some g →
     let e := s.elapse dt
     let gone (t : State) : Prop := (∀ x ∈ t.hif.items, x.id ≠ id) ∧ t.body = ({ e with upd := t.upd, hif := { e.hif with items := t.hif.items } } : State).body
     let gen := e.upd.running.gen + 1
     let commits (b : Bank) (t : State) : Prop := t.upd.other = { b with st := .trial, gen := gen } ∧ t.upd.running = e.upd.running ∧ t.upd.st = .armed ∧ t.upd.act = none ∧ t.upd.armedAt = e.clk ∧ t.upd.staged = some g ∧
       t.told i.cq (i.completion (if i.late then .doneLate else .done) 0 0 gen false) ∧ gone t
     let fails (det : Nat) (t : State) : Prop := t.upd = { e.upd with st := .verified, act := none, step1 := none } ∧ t.told i.cq (i.completion .failedUnit det 0 0 false) ∧ gone t
     let free := firstDetail e.actDetails = 0
     (e.upd.st = .writing → e.upd.step1 = none → ∃ t, exec (.activateWriteDone dt false) s = .next t ∧ fails 7 t) ∧
     (e.upd.st = .writing → e.upd.step1 = none → free → ∃ t, exec (.activateWriteDone dt true) s = .next t ∧ commits (writtenBank g) t) ∧
     (e.upd.st = .writing → e.upd.step1 = none → ¬free → (∃ t, exec (.activateWriteDone dt true) s = .next t ∧
       (t.upd.other = writtenBank g ∧ t.upd.running = e.upd.running ∧ t.upd.step1 = some e.clk ∧ t.upd.st = .writing ∧ t = { e with upd := t.upd }))) ∧
     (∀ ok, e.upd.st = .writing → e.upd.step1.isSome = true → free → ∃ t, exec (.activateWriteDone dt ok) s = .next t ∧ commits e.upd.other t) ∧
     (∀ ok, e.upd.st ≠ .writing ∨ e.upd.step1.isSome = true ∧ ¬free → exec (.activateWriteDone dt ok) s = .next e) ∧
     (∀ at_, e.upd.st = .writing → e.upd.step1 = some at_ → at_ + 60 * secU ≤ e.clk → free → ∃ t, exec (.activateConditionTimeout dt) s = .next t ∧ commits e.upd.other t) ∧
     (∀ at_, e.upd.st = .writing → e.upd.step1 = some at_ → at_ + 60 * secU ≤ e.clk → ¬free → ∃ t, exec (.activateConditionTimeout dt) s = .next t ∧ fails 6 t) ∧
     (e.upd.st ≠ .writing ∨ e.upd.step1 = none ∨ (∃ at_, e.upd.step1 = some at_ ∧ e.clk < at_ + 60 * secU) → exec (.activateConditionTimeout dt) s = .next e))

/-- R504 to R507: a read of UPD_NONCE_LO while the source is READY issues a nonce never fixed before, whose upper half a read of UPD_NONCE_HI then returns; while it is not, it returns 0. The source is READY when its start-up tests pass; a failed health test in service clears READY and raises ENTROPY_HEALTH, and the third failed restart in a row is final. -/
def Obligations.EntropySource : Prop :=
  ∀ (dt n : Nat) (s : State),
    let e := s.elapse dt
    let tests (u : Upd) : Prop := u.lastTest = n % 4 ∧ (n = 1 → u.rctCnt = satU 16 (e.upd.rctCnt + 1) ∧ u.aptCnt = e.upd.aptCnt) ∧ (n = 2 → u.aptCnt = satU 16 (e.upd.aptCnt + 1) ∧ u.rctCnt = e.upd.rctCnt)
    (e.upd.entReady = true → (∃ t, exec (.nonceIssue dt) s = .next t ∧
      (t.upd = { e.upd with nonce := Config.entropy e.fresh, nonceLive := true, nonceOnce := true } ∧ t.rdata = loW (Config.entropy e.fresh).toNat ∧
        (tabWf (fun _ => (0 : Word)) e.shadows = true → tget 0 t.shadows 0xE02C = hiW (Config.entropy e.fresh).toNat) ∧
        t = { e with fresh := e.fresh + 1, upd := t.upd, rdata := t.rdata, shadows := t.shadows }))) ∧
    (e.upd.entReady = false → exec (.nonceIssue dt) s = .next { e with rdata := 0, shadows := tput 0 e.shadows 0xE02C 0 }) ∧
    (1 ≤ e.sys.stage → e.upd.entReady = false → e.upd.hardFail = false → (∃ t, exec (.entropyReady dt) s = .next t ∧
      (t.upd = { e.upd with entReady := true, restarts := 0, entEp := false } ∧ t.sys = { e.sys with stage := max 2 e.sys.stage, tR := t.sys.tR } ∧ (e.sys.tR = none → e.sys.tP.isSome = true → t.sys.tR = some e.clk) ∧
        t.body = ({ e with upd := t.upd, sys := t.sys } : State).body))) ∧
    (e.sys.stage = 0 ∨ e.upd.entReady = true ∨ e.upd.hardFail = true → exec (.entropyReady dt) s = .next e) ∧
    (e.sys.stage ≠ 0 → e.upd.hardFail = false → e.upd.entReady = true → (∃ t, exec (.entropyHealth dt n) s = .next t ∧
      (e.raised t .entropyHealth 0 ∧ t.upd.entReady = false ∧ t.upd.hardFail = false ∧ t.upd.restarts = 0 ∧ tests t.upd ∧ t.body = ({ e with upd := t.upd } : State).body))) ∧
    (e.sys.stage ≠ 0 → e.upd.hardFail = false → e.upd.entReady = false → (∃ t, exec (.entropyHealth dt n) s = .next t ∧
      (t.upd.entReady = false ∧ t.upd.restarts = satU 4 (e.upd.restarts + 1) ∧ (t.upd.hardFail = true ↔ 2 ≤ e.upd.restarts) ∧ tests t.upd ∧ t = { e with upd := t.upd }))) ∧
    (e.sys.stage = 0 ∨ e.upd.hardFail = true → exec (.entropyHealth dt n) s = .next e)

/-- R496, R498, R499, R519, R524, R529, R531, R532 and Table 17-3: PERST_N going low, 10 ms after an activation that commits, and 120 s of a trial whose conditions do not hold are a reset of the module: registers, host section with the link down, scene, streams and sessions are as after reset, what flash and fuses hold stays, and so do the measurements of the standby domain (log entry 107). A trial whose conditions hold at 120 s is confirmed. Makeready tables survive a reset by PERST_N while the quiet state holds, and no other. Where none is due nothing changes. -/
def Obligations.ModuleResets : Prop :=
  ∀ (dt : Nat) (s : State),
    let e := s.elapse dt
    let resets (cause : Nat) (t : State) : Prop :=
      t.regs = State.reset.regs ∧ t.hif = State.reset.hif ∧ t.ing = State.reset.ing ∧ t.cmp = State.reset.cmp ∧ t.lanes = State.reset.lanes ∧ t.quires = State.reset.quires ∧ t.tim = State.reset.tim ∧ t.flt = State.reset.flt ∧
        t.cal = { State.reset.cal with copyA := e.cal.copyA, copyB := e.cal.copyB, fuses := e.cal.fuses } ∧ t.upd.bankA = e.upd.bankA ∧ t.upd.bankB = e.upd.bankB ∧ t.upd.owner = e.upd.owner ∧ t.upd.lock = e.upd.lock ∧ t.upd.floor = e.upd.floor ∧
        t.upd.entReady = e.upd.entReady ∧ t.thp = e.thp.measured State.reset.thp ∧ t.refs.tcxoComp = e.refs.tcxoComp ∧ t.sys.endpoint = false ∧ t.sys.stage = min 2 e.sys.stage ∧ t.sys.cause = cause ∧ t.sys.txOffTo = e.clk + 50 * msU
    (e.sys.perstHigh = true → (∃ t, exec (.perstAssert dt) s = .next t ∧
      (resets 1 t ∧ t.sys.perstHigh = false ∧ t.sys.tP = none ∧ t.sys.nPerst = satU 16 (e.sys.nPerst + 1) ∧ t.sys.nWarm = e.sys.nWarm ∧
        (e.mem.quiet = true → t.mem.quiet = true ∧ (tabWf (fun _ => ({} : Leaf)) e.leaves = true → ∀ k, (t.leaf k).table = (e.leaf k).table)) ∧ (e.mem.quiet = false → t.leaves = [] ∧ t.mem = State.reset.mem)))) ∧
    (e.sys.perstHigh = false → exec (.perstAssert dt) s = .next e) ∧
    (e.upd.st = .armed → e.upd.armedAt + 10 * msU ≤ e.clk → (∃ t, exec (.warmRestart dt) s = .next t ∧
      (resets 2 t ∧ t.leaves = [] ∧ t.mem = State.reset.mem ∧ t.upd.byDeadline = false ∧ t.sys.nWarm = satU 16 (e.sys.nWarm + 1) ∧ t.sys.nPerst = e.sys.nPerst))) ∧
    (e.upd.st ≠ .armed ∨ e.clk < e.upd.armedAt + 10 * msU → exec (.warmRestart dt) s = .next e) ∧
    (e.onTrial = true → e.upd.confirmPend = false → e.upd.supStart + 120 * secU ≤ e.clk → e.confirmOk = false → (∃ t, exec (.confirmationDeadline dt) s = .next t ∧
      (resets 3 t ∧ t.leaves = [] ∧ t.mem = State.reset.mem ∧ t.upd.byDeadline = true ∧ t.sys.nWarm = satU 16 (e.sys.nWarm + 1)))) ∧
    (e.onTrial = true → e.upd.confirmPend = false → e.upd.supStart + 120 * secU ≤ e.clk → e.confirmOk = true → e.writesOk = true → ∃ t, exec (.confirmationDeadline dt) s = .next t ∧
      t.upd.running = { e.upd.running with st := .confirmed } ∧ t.upd.other = e.upd.other ∧ t.upd.trialRun = false ∧ t = { e with upd := t.upd }) ∧
    (e.onTrial = true → e.upd.confirmPend = false → e.upd.supStart + 120 * secU ≤ e.clk → e.confirmOk = true → e.writesOk = false → exec (.confirmationDeadline dt) s = .next { e with upd := { e.upd with confirmPend := true } }) ∧
    (e.onTrial = false ∨ e.upd.confirmPend = true ∨ e.clk < e.upd.supStart + 120 * secU → exec (.confirmationDeadline dt) s = .next e)

/-- R417, R419, R480, R497, R519 to R522, R525 and R526: the start-up sequence. SUPPLY_VALID and the release of PERST_N are noted, and T_p is when both hold; the stages end one after the other: the standby rail, straps and the bank that passes its checks with the record of the spare manager, the rails, training once the stacks are in their temperature range, with a row that fails its test spared or its pseudo-channel failed, with the 256 extents of the module's own records reserved where they fit and none is held yet, and the lanes, with which READY is set. A shut-down before READY holds stage 3 back until supply and sensors have recovered. -/
def Obligations.StartUpStages : Prop :=
  ∀ (dt : Nat) (st : Straps) (failed : List Nat) (rows : List (Nat × Nat × Nat)) (s : State),
    let e := s.elapse dt
    (e.sys.supValid = false → (∃ t, exec (.supplyValid dt) s = .next t ∧
      (t.sys.supValid = true ∧ t.sys.tP = (if e.sys.perstHigh = true then some e.clk else none) ∧
        t.sys.tR = (if e.sys.tR = none ∧ e.sys.perstHigh = true ∧ 2 ≤ e.sys.stage then some e.clk else e.sys.tR) ∧ t = { e with sys := { e.sys with supValid := true, tP := t.sys.tP, tR := t.sys.tR } }))) ∧
    (e.sys.supValid = true → exec (.supplyValid dt) s = .next e) ∧
    (e.sys.perstHigh = false → (∃ t, exec (.perstRelease dt) s = .next t ∧
      (t.sys.perstHigh = true ∧ t.sys.tP = (if e.sys.supValid = true then some e.clk else none) ∧
        t.sys.tR = (if e.sys.tR = none ∧ e.sys.supValid = true ∧ 2 ≤ e.sys.stage then some e.clk else e.sys.tR) ∧ t = { e with sys := { e.sys with perstHigh := true, tP := t.sys.tP, tR := t.sys.tR } }))) ∧
    (e.sys.perstHigh = true → exec (.perstRelease dt) s = .next e) ∧
    (e.sys.stage = 0 → e.sys.supValid = true → exec (.startupStageDone dt st ⟨failed, rows⟩) s = .next { e with sys := { e.sys with stage := 1 }, thp := { e.thp with aux := true } }) ∧
    (e.sys.stage = 0 ∧ e.sys.supValid = false ∨ e.sys.stage = 1 ∨ 6 ≤ e.sys.stage → exec (.startupStageDone dt st ⟨failed, rows⟩) s = .next e) ∧
    (e.sys.stage = 2 → st.testLock = false → e.sys.tR.isSome = true → e.sys.noBank = false → e.sys.preShut = false → e.sys.strapErr = false → exec (.startupStageDone dt st ⟨failed, rows⟩) s = .next { e with sys := { e.sys with strapErr := true, straps := st } }) ∧
    (e.sys.stage = 2 → e.sys.tR = none ∨ e.sys.noBank = true ∨ e.sys.preShut = true ∨ e.sys.strapErr = true → exec (.startupStageDone dt st ⟨failed, rows⟩) s = .next e) ∧
    (e.sys.stage = 2 → st.testLock = true → e.sys.tR.isSome = true → e.sys.noBank = false → e.sys.preShut = false → e.sys.strapErr = false → (∃ t, exec (.startupStageDone dt st ⟨failed, rows⟩) s = .next t ∧
      (match e.upd.boot e.writesOk st.bankForce with
      | none => t = { e with sys := { e.sys with noBank := true, straps := st } }
      | some (b, why, u) =>
        t.sys.stage = 3 ∧ t.sys.supRun = true ∧ t.sys.straps = st ∧ t.upd.runB = b ∧ t.upd.reason = why ∧ (t.upd.fallback = true ↔ why ≠ 0) ∧ t.upd.bankA = u.bankA ∧ t.upd.bankB = u.bankB ∧ t.upd.supStart = e.clk ∧
          (t.upd.trialRun = true ↔ t.upd.running.st = .tried) ∧ t.cal.lost = e.cal.newer.isNone ∧ (why ≠ 0 → e.raised t .updateFallback 0) ∧ t.regs = e.regs ∧ t.tim = e.tim ∧ t.leaves = e.leaves))) ∧
    (e.sys.stage = 3 → exec (.startupStageDone dt st ⟨failed, rows⟩) s = .next { e with sys := { e.sys with stage := 4 }, thp := { e.thp with core := true, serdes := true, hbm := true } }) ∧
    (e.sys.stage = 4 → e.trainTemp = false → exec (.startupStageDone dt st ⟨failed, rows⟩) s = .next { e with mem := { e.mem with tempHold := true, holdAt := e.clk } }) ∧
    (e.sys.stage = 4 → e.trainTemp = true → (∃ t, exec (.startupStageDone dt st ⟨failed, rows⟩) s = .next t ∧
      (t.sys = { e.sys with stage := 5 } ∧ t.mem.trained = true ∧ t.mem.tempHold = false ∧ t.mem.quiet = false ∧
        (e.mem.own.isSome = true → t.mem.allocs = e.mem.allocs ∧ t.mem.own = e.mem.own) ∧ (e.mem.own = none → t.mem.allocs = e.mem.allocs ∧ t.mem.own = none ∨ ∃ a, t.mem.own = some a.id ∧ t.mem.allocs = e.mem.allocs ++ [a] ∧ a.cls = clsReal ∧ sumN (a.ext.map (·.2)) = 256) ∧
        (∀ p ∈ failed, p < 64 → (e.pc p).unit ≠ .retired → 2 ≤ e.severity .memPcRetired → (t.pc p).unit = .retired) ∧
        (∀ y ∈ rows, y.1 < 64 → (e.pc y.1).unit ≠ .retired → (∃ hard, (y.2.1, y.2.2, hard) ∈ (t.pc y.1).repairs) ∨ (t.pc y.1).trainFail = true) ∧ t.regs = e.regs ∧ t.leaves = e.leaves ∧ t.hif.items = e.hif.items))) ∧
    (e.sys.stage = 5 → (∃ t, exec (.startupStageDone dt st ⟨failed, rows⟩) s = .next t ∧
      (t.hif.ready = true ∧ t.sys.stage = 7 ∧ t.sys.endpoint = true ∧ t.cal.lanesDone = true ∧ (∀ at_, e.sys.tR = some at_ → t.sys.startMs = satU 16 ((e.clk - at_) / msU)) ∧ t.sys.preSrc = [] ∧ t.thp = { e.thp with shut := t.thp.shut, fail := t.thp.fail } ∧
        (∀ x, (Src.tempShutdown, x) ∈ e.sys.preSrc → t.thp.shut = false) ∧ (e.sys.preSrc = [] → t.thp = e.thp) ∧ t.regs = e.regs ∧ t.upd = e.upd ∧ t.mem = e.mem))) ∧
    (∀ at_, e.sys.tP = some at_ → e.mem.tempHold = true → e.sys.stage = 4 → at_ + secU ≤ e.clk → exec (.endpointReady dt) s = .next { e with sys := { e.sys with endpoint := true } }) ∧
    (e.sys.tP = none ∨ e.mem.tempHold = false ∨ e.sys.stage ≠ 4 ∨ (∃ at_, e.sys.tP = some at_ ∧ e.clk < at_ + secU) → exec (.endpointReady dt) s = .next e) ∧
    (∀ h at_, e.sys.preShut = true → e.thp.ok36 = some at_ → at_ + secU ≤ e.clk → hottest e.readings = some h → h.2 < 1440 → exec (.prereadyShutdownRestart dt) s =
      .next { e with sys := { e.sys with preShut := false }, thp := { e.thp with shut := false, fail := false }, mem := { e.mem with trained := false } }) ∧
    (e.sys.preShut = false ∨ e.thp.ok36 = none ∨ (∃ at_, e.thp.ok36 = some at_ ∧ e.clk < at_ + secU) ∨ hottest e.readings = none ∨ (∃ h, hottest e.readings = some h ∧ 1440 ≤ h.2) →
      exec (.prereadyShutdownRestart dt) s = .next e)
end

