-- ==== Sys2Proof/Laws/Tab.lean ====
section
/-! SUPPORT. The sparse table: reading after writing, and its canonical form. -/

namespace Sys2Proof.Machine

open Sys2Proof

@[simp] theorem tget_nil {α : Type} (d : α) (i : Nat) : tget d [] i = d := rfl

theorem tget_cons {α : Type} (d v : α) (t : Tab α) (k i : Nat) : tget d ((k, v) :: t) i = if i = k then v else tget d t i := rfl

/-- A key below every key listed is not listed. -/
theorem tget_of_wfFrom {α : Type} [DecidableEq α] (dflt : Nat → α) (d : α) : ∀ (t : Tab α) (b i : Nat), tabWfFrom dflt b t = true → i < b → tget d t i = d
  | [], _, _, _, _ => rfl
  | (k, v) :: t, b, i, h, hi => by
    simp only [tabWfFrom, Bool.and_eq_true, decide_eq_true_eq] at h
    rw [tget_cons, if_neg (by omega), tget_of_wfFrom dflt d t (k + 1) i h.2 (by omega)]

theorem tabWfFrom_mono {α : Type} [DecidableEq α] (dflt : Nat → α) (t : Tab α) (a b : Nat) (h : tabWfFrom dflt b t = true) (hab : a ≤ b) : tabWfFrom dflt a t = true := by
  cases t with
  | nil => rfl
  | cons e t =>
    obtain ⟨k, v⟩ := e
    simp only [tabWfFrom, Bool.and_eq_true, decide_eq_true_eq] at h ⊢
    exact ⟨⟨by omega, h.1.2⟩, h.2⟩

/-- A write keeps the canonical form. -/
theorem tabWfFrom_tput {α : Type} [DecidableEq α] (dflt : Nat → α) (v : α) : ∀ (t : Tab α) (b i : Nat), tabWfFrom dflt b t = true → b ≤ i → tabWfFrom dflt b (tput (dflt i) t i v) = true
  | [], b, i, _, hi => by
    unfold tput
    split <;> simp_all [tabWfFrom]
  | (k, w) :: t, b, i, h, hi => by
    have h' := h
    simp only [tabWfFrom, Bool.and_eq_true, decide_eq_true_eq] at h'
    unfold tput
    split
    · split
      · exact h
      · simp_all [tabWfFrom] <;> omega
    · split
      · split
        · exact tabWfFrom_mono dflt t b (k + 1) h'.2 (by omega)
        · rename_i e _
          subst e
          simp_all [tabWfFrom]
      · simp only [tabWfFrom, Bool.and_eq_true, decide_eq_true_eq]
        exact ⟨h'.1, tabWfFrom_tput dflt v t (k + 1) i h'.2 (by omega)⟩

theorem tabWf_tput {α : Type} [DecidableEq α] (dflt : Nat → α) (v : α) (t : Tab α) (i : Nat) (h : tabWf dflt t = true) : tabWf dflt (tput (dflt i) t i v) = true :=
  tabWfFrom_tput dflt v t 0 i h (Nat.zero_le _)

/-- A key reads back what was written at it. -/
theorem tget_tput_self {α : Type} [DecidableEq α] (dflt : Nat → α) (v : α) : ∀ (t : Tab α) (b i : Nat), tabWfFrom dflt b t = true → tget (dflt i) (tput (dflt i) t i v) i = v
  | [], _, i, _ => by
    unfold tput
    split <;> simp_all [tget_cons]
  | (k, w) :: t, b, i, h => by
    simp only [tabWfFrom, Bool.and_eq_true, decide_eq_true_eq] at h
    unfold tput
    split
    · split
      · rw [tget_cons, if_neg (by omega), tget_of_wfFrom dflt _ t (k + 1) i h.2 (by omega)]
        symm
        assumption
      · simp [tget_cons]
    · split
      · rename_i e
        subst e
        split
        · rename_i e
          rw [tget_of_wfFrom dflt _ t (i + 1) i h.2 (by omega), e]
        · simp [tget_cons]
      · rename_i e
        rw [tget_cons, if_neg e, tget_tput_self dflt v t (k + 1) i h.2]

/-- A key that does not get its default reads back what was written, whatever the table. -/
theorem tget_tput_of_ne {α : Type} [DecidableEq α] (d e v : α) (i : Nat) (hv : v ≠ d) : ∀ t : Tab α, tget e (tput d t i v) i = v
  | [] => by simp [tput, hv, tget_cons]
  | (k, w) :: t => by
    unfold tput
    split
    · simp [hv, tget_cons]
    · split
      · simp [hv, tget_cons]
      · rename_i h
        rw [tget_cons, if_neg h, tget_tput_of_ne d e v i hv t]

/-- A key other than the one written reads as before. -/
theorem tget_tput_ne {α : Type} [DecidableEq α] (d e v : α) (i j : Nat) (hj : j ≠ i) : ∀ t : Tab α, tget e (tput d t i v) j = tget e t j
  | [] => by
    unfold tput
    split <;> simp [tget_cons, hj]
  | (k, w) :: t => by
    unfold tput
    split
    · split
      · rfl
      · simp [tget_cons, hj]
    · split
      · rename_i e
        subst e
        split <;> simp [tget_cons, hj]
      · rw [tget_cons, tget_cons, tget_tput_ne d e v i j hj t]

end Sys2Proof.Machine
end

