-- ==== Sys2Proof/Laws/Body.lean ====
section
/-! SUPPORT. What the reporting operations leave alone: everything but the reports (State.body). -/

namespace Sys2Proof.Machine

open Sys2Proof

/-- The host section of a body, from what it keeps. -/
def hifOf (ready : Bool) (linkUp : Bool) (busMaster : Bool) (msixEn : Bool) (msixTab : Tab Word) (linkLost : Bool) (keyLocked : Bool) (keyErr : Bool) (key : BitVec 256) (keyWords : BitVec 256) (keyCheck : Word) (fseq : DWord) (wins : List Win) (winPend : Option (List Win)) (sqs : Tab Sq) (evqOnce : Bool) (sweepAt : Nat) (sweepPos : Nat) (force : Tab Word) (items : List Item) : Hif :=
  { ready := ready, linkUp := linkUp, busMaster := busMaster, msixEn := msixEn, msixTab := msixTab, linkLost := linkLost, keyLocked := keyLocked, keyErr := keyErr, key := key, keyWords := keyWords, keyCheck := keyCheck, fseq := fseq, wins := wins, winPend := winPend, sqs := sqs, evqOnce := evqOnce, sweepAt := sweepAt, sweepPos := sweepPos, force := force, items := items }

/-- A host section as a body holds it. -/
def hifBody (h : Hif) : Hif := hifOf h.ready h.linkUp h.busMaster h.msixEn h.msixTab h.linkLost h.keyLocked h.keyErr h.key h.keyWords h.keyCheck h.fseq h.wins h.winPend h.sqs h.evqOnce h.sweepAt h.sweepPos h.force h.items

/-- A body, from the blocks it keeps. -/
def bodyOf (pending : List Instr) (clk : Nat) (regs : Tab Word) (shadows : Tab Word) (rdata : Word) (fresh : Nat) (nextItem : Nat) (hif : Hif) (ing : Ing) (cmp : Cmp) (leaves : Tab Leaf) (lmp : Lmp) (imp : Imp) (slg : Slg) (win : Window) (groups : List RecGroup) (shown : List Shown) (hdrs : List Hdr) (lanes : Tab Lane) (quires : Tab Quire) (tim : Tim) (refs : Refs) (mem : Mem) (thp : Thp) (cal : Cal) (upd : Upd) (sys : Sys) : State :=
  { pending := pending, clk := clk, regs := regs, shadows := shadows, rdata := rdata, fresh := fresh, nextItem := nextItem, hif := hif, ing := ing, cmp := cmp, leaves := leaves, lmp := lmp, imp := imp, slg := slg, win := win, groups := groups, shown := shown, hdrs := hdrs, lanes := lanes, quires := quires, tim := tim, refs := refs, mem := mem, thp := thp, cal := cal, upd := upd, sys := sys }

@[simp] theorem hifOf_eta (h : Hif) : hifOf h.ready h.linkUp h.busMaster h.msixEn h.msixTab h.linkLost h.keyLocked h.keyErr h.key h.keyWords h.keyCheck h.fseq h.wins h.winPend h.sqs h.evqOnce h.sweepAt h.sweepPos h.force h.items = hifBody h := rfl
@[simp] theorem hifBody_mk x0 x1 x2 x3 x4 x5 x6 x7 x8 x9 x10 x11 x12 x13 x14 x15 x16 x17 x18 x19 x20 x21 x22 x23 x24 x25 : hifBody (Hif.mk x0 x1 x2 x3 x4 x5 x6 x7 x8 x9 x10 x11 x12 x13 x14 x15 x16 x17 x18 x19 x20 x21 x22 x23 x24 x25) = hifOf x0 x1 x2 x3 x4 x6 x7 x8 x10 x11 x12 x13 x14 x15 x16 x21 x22 x23 x24 x25 := rfl
@[simp] theorem bodyOf_eta (s : State) : bodyOf s.pending s.clk s.regs s.shadows s.rdata s.fresh s.nextItem (hifBody s.hif) s.ing s.cmp s.leaves s.lmp s.imp s.slg s.win s.groups s.shown s.hdrs s.lanes s.quires s.tim s.refs s.mem s.thp s.cal s.upd s.sys = s.body := rfl
@[simp] theorem State.body_mk x0 x1 x2 x3 x4 x5 x6 x7 x8 x9 x10 x11 x12 x13 x14 x15 x16 x17 x18 x19 x20 x21 x22 x23 x24 x25 x26 x27 x28 x29 : State.body (State.mk x0 x1 x2 x3 x4 x5 x6 x7 x8 x9 x10 x11 x12 x13 x14 x15 x16 x17 x18 x19 x20 x21 x22 x23 x24 x25 x26 x27 x28 x29) = bodyOf x0 x1 x2 x3 x4 x5 x7 (hifBody x8) x9 x10 x11 x12 x13 x14 x15 x16 x17 x18 x19 x20 x21 x22 x23 x25 x26 x27 x29 := rfl

@[simp] theorem body_ite (c : Prop) [Decidable c] (a b : State) : (if c then a else b).body = if c then a.body else b.body := by
  split <;> rfl

@[simp] theorem foldl_body {α : Type} (f : State → α → State) (h : ∀ s x, (f s x).body = s.body) (l : List α) (s : State) : (l.foldl f s).body = s.body := by
  induction l generalizing s with
  | nil => rfl
  | cons x t ih => rw [List.foldl_cons, ih, h]

@[simp] theorem State.setCq_body (k : Nat) (x : Cq) (s : State) : (State.setCq k x s).body = s.body := by
  simp [State.setCq]

@[simp] theorem State.modCq_body (k : Nat) (f : Cq → Cq) (s : State) : (State.modCq k f s).body = s.body := by
  simp [State.modCq]

@[simp] theorem State.emit_body (o : Output) (s : State) : (State.emit o s).body = s.body := by
  simp [State.emit]

@[simp] theorem State.count_body (i n : Nat) (s : State) : (State.count i n s).body = s.body := by
  simp [State.count]

@[simp] theorem State.interrupt_body (v : Nat) (s : State) : (State.interrupt v s).body = s.body := by
  unfold State.interrupt
  split
  · simp
  · rfl

@[simp] theorem State.sendPending_body (s : State) : (State.sendPending s).body = s.body := by
  unfold State.sendPending
  refine foldl_body _ (fun s v => ?_) _ s
  split
  · rw [State.interrupt_body]; rfl
  · rfl

@[simp] theorem State.message_body (k : Nat) (s : State) : (State.message k s).body = s.body := by
  simp [State.message]

@[simp] theorem State.signal_body (k : Nat) (urgent : Bool) (s : State) : (State.signal k urgent s).body = s.body := by
  simp [State.signal]

@[simp] theorem State.entry_body (k : Nat) (s : State) : (State.entry k s).2.2.body = s.body := by
  simp [State.entry]

@[simp] theorem State.putCq_body (c : Nat) (e : Completion) (s : State) : (State.putCq c e s).body = s.body := by
  simp [State.putCq]

@[simp] theorem State.putFinal_body (c : Nat) (e : Completion) (s : State) : (State.putFinal c e s).body = s.body := by
  simp [State.putFinal]

@[simp] theorem State.putEvq_body (r : Rec) (urgent : Bool) (s : State) : (State.putEvq r urgent s).body = s.body := by
  simp [State.putEvq]

@[simp] theorem State.putTrq_body (t : Option Trace) (lost : Nat) (s : State) : (State.putTrq t lost s).body = s.body := by
  simp [State.putTrq]

@[simp] theorem State.loseEvq_body (n : Nat) (s : State) : (State.loseEvq n s).body = s.body := by
  simp [State.loseEvq]

@[simp] theorem State.loseTrq_body (n : Nat) (s : State) : (State.loseTrq n s).body = s.body := by
  simp [State.loseTrq]

@[simp] theorem State.evqOverflow_body (s : State) : (State.evqOverflow s).body = s.body := by
  simp [State.evqOverflow]

@[simp] theorem State.trqOverflow_body (s : State) : (State.trqOverflow s).body = s.body := by
  simp [State.trqOverflow]

@[simp] theorem State.keep_body (k : Kept) (s : State) : (State.keep k s).body = s.body := rfl

@[simp] theorem State.evq_body (rs : List Rec) (urgent : Bool) (s : State) : (State.evq rs urgent s).body = s.body := by
  simp [State.evq]

@[simp] theorem State.flushOne_body (k : Kept) (s : State) : (State.flushOne k s).body = s.body := by
  unfold State.flushOne
  (repeat' (first | with_reducible rfl | split)) <;> simp

@[simp] theorem State.flushKept_body (s : State) : (State.flushKept s).body = s.body := by
  unfold State.flushKept
  split
  · rw [foldl_body _ fun s k => State.flushOne_body k s]; rfl
  · rfl

@[simp] theorem State.trace_body (kind arg imp : Nat) (data : Nat) (s : State) : (State.trace kind arg imp data s).body = s.body := by
  simp [State.trace]

@[simp] theorem State.drainTrace_body (s : State) : (State.drainTrace s).body = s.body := by
  simp [State.drainTrace]

@[simp] theorem State.aliveSync_body (s : State) : (State.aliveSync s).body = s.body := by
  simp [State.aliveSync]

@[simp] theorem State.raiseL_body (x : Src) (i : Nat) (det : List Nat) (cond react : Bool) (s : State) : (State.raiseL x i det cond react s).2.body = s.body := by
  simp [State.raiseL]

@[simp] theorem State.raise_body (x : Src) (i : Nat) (det : List Nat) (cond : Bool) (s : State) : (State.raise x i det cond s).body = s.body := by
  simp [State.raise]

@[simp] theorem State.clear_body (x : Src) (i : Nat) (s : State) : (State.clear x i s).body = s.body := by
  simp [State.clear]

@[simp] theorem State.ackWhere_body (p : Entry → Bool) (upto : Word) (s : State) : (State.ackWhere p upto s).2.body = s.body := by
  simp [State.ackWhere]

@[simp] theorem State.hifErr_body (b : Nat) (s : State) : (State.hifErr b s).body = s.body := by
  simp [State.hifErr]

@[simp] theorem State.readCi_body (k : Nat) (w : Word) (s : State) : (State.readCi k w s).body = s.body := by
  simp [State.readCi]

@[simp] theorem State.sendNet_body (p : Nat) (o : NetOut) (s : State) : (State.sendNet p o s).body = s.body := by
  simp [State.sendNet]

@[simp] theorem State.clearLeg_body (k n : Nat) (s : State) : (State.clearLeg k n s).body = s.body := by
  simp [State.clearLeg]

@[simp] theorem State.diffCheck_body (k d : Nat) (raised : Bool) (s : State) : (State.diffCheck k d raised s).2.body = s.body := by
  unfold State.diffCheck
  (repeat' split) <;> simp

@[simp] theorem State.sendQ_body (q dirs : Nat) (p : QPkt) (s : State) : (State.sendQ q dirs p s).body = s.body := by
  simp [State.sendQ]

@[simp] theorem State.traceQuire_body (q d ev : Nat) (s : State) : (State.traceQuire q d ev s).body = s.body := by
  simp [State.traceQuire]

@[simp] theorem State.emitCmd_body (k : Nat) (c : LCmd) (s : State) : (State.emitCmd k c s).body = s.body := by
  simp [State.emitCmd]

@[simp] theorem State.sendClaims_body (q : Nat) (s : State) : (State.sendClaims q s).body = s.body := by
  simp [State.sendClaims]

@[simp] theorem State.traceTick_body (a v : Nat) (s : State) : (State.traceTick a v s).body = s.body := by
  simp [State.traceTick]

@[simp] theorem State.traceSched_body (k code cls cycles tiles imp : Nat) (s : State) : (State.traceSched k code cls cycles tiles imp s).body = s.body := by
  simp [State.traceSched]

@[simp] theorem State.landsNext_body (is : List Item) (s : State) : (State.landsNext is s).body = s.body := by
  simp [State.landsNext]

@[simp] theorem State.resendCmds_body (k : Nat) (feedOnly : Bool) (s : State) : (State.resendCmds k feedOnly s).body = s.body := by
  simp [State.resendCmds]

@[simp] theorem State.layerCount_body (k n : Nat) (s : State) : (State.layerCount k n s).body = s.body := by
  simp [State.layerCount]

@[simp] theorem State.resendAll_body (s : State) : (State.resendAll s).body = s.body := by
  simp [State.resendAll]

@[simp] theorem State.traceFailed_body (q : Nat) (s : State) : (State.traceFailed q s).body = s.body := by
  simp [State.traceFailed]

@[simp] theorem State.deliverQuire_body (s : State) (d : Delivery) : (State.deliverQuire s d).body = s.body := by
  simp [State.deliverQuire]

@[simp] theorem State.tellFallback_body (reason : Nat) (s : State) : (State.tellFallback reason s).body = s.body := by
  simp [State.tellFallback]

/-- Two states with one body agree on everything but reports. -/
theorem blocks_of_body {s t : State} (h : t.body = s.body) :
    t.regs = s.regs ∧ t.ing = s.ing ∧ t.cmp = s.cmp ∧ t.leaves = s.leaves ∧ t.lmp = s.lmp ∧ t.imp = s.imp ∧ t.slg = s.slg ∧ t.win = s.win ∧ t.lanes = s.lanes ∧
      t.quires = s.quires ∧ t.tim = s.tim ∧ t.refs = s.refs ∧ t.mem = s.mem ∧ t.thp = s.thp ∧ t.cal = s.cal ∧ t.upd = s.upd ∧ t.sys = s.sys ∧ t.clk = s.clk := by
  have e (f : State → Prop) (x : f s.body) : f t.body := h ▸ x
  exact ⟨e (fun x => x.regs = s.regs) rfl, e (fun x => x.ing = s.ing) rfl, e (fun x => x.cmp = s.cmp) rfl, e (fun x => x.leaves = s.leaves) rfl,
    e (fun x => x.lmp = s.lmp) rfl, e (fun x => x.imp = s.imp) rfl, e (fun x => x.slg = s.slg) rfl, e (fun x => x.win = s.win) rfl,
    e (fun x => x.lanes = s.lanes) rfl, e (fun x => x.quires = s.quires) rfl, e (fun x => x.tim = s.tim) rfl, e (fun x => x.refs = s.refs) rfl,
    e (fun x => x.mem = s.mem) rfl, e (fun x => x.thp = s.thp) rfl, e (fun x => x.cal = s.cal) rfl, e (fun x => x.upd = s.upd) rfl,
    e (fun x => x.sys = s.sys) rfl, e (fun x => x.clk = s.clk) rfl⟩

/-- Host items, windows and queues of two states with one body. -/
theorem host_of_body {s t : State} (h : t.body = s.body) :
    t.hif.items = s.hif.items ∧ t.hif.wins = s.hif.wins ∧ t.hif.winPend = s.hif.winPend ∧ t.hif.sqs = s.hif.sqs ∧ t.hif.linkUp = s.hif.linkUp ∧ t.hif.ready = s.hif.ready := by
  have e (f : State → Prop) (x : f s.body) : f t.body := h ▸ x
  exact ⟨e (fun x => x.hif.items = s.hif.items) rfl, e (fun x => x.hif.wins = s.hif.wins) rfl, e (fun x => x.hif.winPend = s.hif.winPend) rfl,
    e (fun x => x.hif.sqs = s.hif.sqs) rfl, e (fun x => x.hif.linkUp = s.hif.linkUp) rfl, e (fun x => x.hif.ready = s.hif.ready) rfl⟩

/-- The passing of time changes the clock, module time and reports. -/
theorem State.elapse_body (dt : Nat) (s : State) :
    (s.elapse dt).body = ({ s with clk := (s.elapse dt).clk, tim := (s.elapse dt).tim } : State).body := by
  unfold State.elapse
  dsimp only
  split
  · rfl
  · have k := State.drainTrace_body s
    have b := blocks_of_body k
    have e (x : State) (c : Nat) (m : Tim) : ({ x with clk := c, tim := m } : State).body = ({ x.body with clk := c, tim := m } : State).body := rfl
    rw [e, k]
    rfl

@[simp] theorem State.writeCpl_body (c : Nat) (e : Completion) (s : State) : (State.writeCpl c e s).body = s.body := by
  unfold State.writeCpl
  (repeat' split) <;> simp

/-- A FINAL completion ends its item; nothing else of the body changes. -/
theorem State.complete_body (id : Nat) (st : Status) (detail imp result : Nat) (unknown : Bool) (s : State) :
    (s.complete id st detail imp result unknown).body =
      if (s.item? id).isSome && st.final then ({ s with hif := { s.hif with items := s.hif.items.filter fun x => x.id != id } } : State).body else s.body := by
  unfold State.complete
  split
  · rename_i e
    simp [e]
  · rename_i i e
    simp only [e, Option.isSome_some, Bool.true_and]
    split <;> simp

theorem State.refuse_body (id : Nat) (st : Status) (detail : Nat) (s : State) :
    (s.refuse id st detail).body = if (s.item? id).isSome && st.final then ({ s with hif := { s.hif with items := s.hif.items.filter fun x => x.id != id } } : State).body else s.body :=
  State.complete_body ..

theorem State.done_body (id imp result : Nat) (s : State) :
    (s.done id imp result).body = if (s.item? id).isSome then ({ s with hif := { s.hif with items := s.hif.items.filter fun x => x.id != id } } : State).body else s.body := by
  unfold State.done
  split
  · rename_i e
    simp [e]
  · rename_i i e
    rw [State.complete_body]
    have f : (if i.late then Status.doneLate else Status.done).final = true := by split <;> rfl
    simp [e, f]

end Sys2Proof.Machine
end

