-- ==== Sys2Proof/Laws/Faults.lean ====
section
/-! SUPPORT. The fault collector: what leaves it alone, and what raising a source does (R446, R447). -/

namespace Sys2Proof.Machine

open Sys2Proof

@[simp] theorem State.faults_eta (s : State) : (s.flt.seq, s.flt.raises, s.flt.entries, s.flt.sev) = s.faults := rfl
@[simp] theorem State.faults_mk x0 x1 x2 x3 x4 x5 x6 x7 x8 x9 x10 x11 x12 x13 x14 x15 x16 x17 x18 x19 x20 x21 x22 x23 x24 x25 x26 x27 x28 x29 : State.faults (State.mk x0 x1 x2 x3 x4 x5 x6 x7 x8 x9 x10 x11 x12 x13 x14 x15 x16 x17 x18 x19 x20 x21 x22 x23 x24 x25 x26 x27 x28 x29) = (x24.seq, x24.raises, x24.entries, x24.sev) := rfl

@[simp] theorem faults_ite (c : Prop) [Decidable c] (a b : State) : (if c then a else b).faults = if c then a.faults else b.faults := by
  split <;> rfl

@[simp] theorem foldl_faults {α : Type} (f : State → α → State) (h : ∀ s x, (f s x).faults = s.faults) (l : List α) (s : State) : (l.foldl f s).faults = s.faults := by
  induction l generalizing s with
  | nil => rfl
  | cons x t ih => rw [List.foldl_cons, ih, h]

@[simp] theorem State.setLane_faults (i : Nat) (l : Lane) (s : State) : (State.setLane i l s).faults = s.faults := by
  simp [State.setLane]

@[simp] theorem State.modLane_faults (i : Nat) (f : Lane → Lane) (s : State) : (State.modLane i f s).faults = s.faults := by
  simp [State.modLane]

@[simp] theorem State.setQuire_faults (q : Nat) (x : Quire) (s : State) : (State.setQuire q x s).faults = s.faults := by
  simp [State.setQuire]

@[simp] theorem State.modQuire_faults (q : Nat) (f : Quire → Quire) (s : State) : (State.modQuire q f s).faults = s.faults := by
  simp [State.modQuire]

@[simp] theorem State.setLeaf_faults (k : Nat) (x : Leaf) (s : State) : (State.setLeaf k x s).faults = s.faults := by
  simp [State.setLeaf]

@[simp] theorem State.modLeaf_faults (k : Nat) (f : Leaf → Leaf) (s : State) : (State.modLeaf k f s).faults = s.faults := by
  simp [State.modLeaf]

@[simp] theorem State.setLayer_faults (k : Nat) (x : Layer) (s : State) : (State.setLayer k x s).faults = s.faults := by
  simp [State.setLayer]

@[simp] theorem State.modLayer_faults (k : Nat) (f : Layer → Layer) (s : State) : (State.modLayer k f s).faults = s.faults := by
  simp [State.modLayer]

@[simp] theorem State.setStream_faults (k : Nat) (x : Stream) (s : State) : (State.setStream k x s).faults = s.faults := by
  simp [State.setStream]

@[simp] theorem State.modStream_faults (k : Nat) (f : Stream → Stream) (s : State) : (State.modStream k f s).faults = s.faults := by
  simp [State.modStream]

@[simp] theorem State.setPort_faults (p : Nat) (x : Port) (s : State) : (State.setPort p x s).faults = s.faults := by
  simp [State.setPort]

@[simp] theorem State.modPort_faults (p : Nat) (f : Port → Port) (s : State) : (State.modPort p f s).faults = s.faults := by
  simp [State.modPort]

@[simp] theorem State.setSq_faults (q : Nat) (x : Sq) (s : State) : (State.setSq q x s).faults = s.faults := by
  simp [State.setSq]

@[simp] theorem State.modSq_faults (q : Nat) (f : Sq → Sq) (s : State) : (State.modSq q f s).faults = s.faults := by
  simp [State.modSq]

@[simp] theorem State.setCq_faults (k : Nat) (x : Cq) (s : State) : (State.setCq k x s).faults = s.faults := by
  simp [State.setCq]

@[simp] theorem State.modCq_faults (k : Nat) (f : Cq → Cq) (s : State) : (State.modCq k f s).faults = s.faults := by
  simp [State.modCq]

@[simp] theorem State.setUnit_faults (k : Nat) (x : UnitRec) (s : State) : (State.setUnit k x s).faults = s.faults := by
  simp [State.setUnit]

@[simp] theorem State.modUnit_faults (k : Nat) (f : UnitRec → UnitRec) (s : State) : (State.modUnit k f s).faults = s.faults := by
  simp [State.modUnit]

@[simp] theorem State.setPc_faults (k : Nat) (x : Pc) (s : State) : (State.setPc k x s).faults = s.faults := by
  simp [State.setPc]

@[simp] theorem State.modPc_faults (k : Nat) (f : Pc → Pc) (s : State) : (State.modPc k f s).faults = s.faults := by
  simp [State.modPc]

@[simp] theorem State.setCand_faults (c : Nat) (x : Cand) (s : State) : (State.setCand c x s).faults = s.faults := by
  simp [State.setCand]

@[simp] theorem State.modCand_faults (c : Nat) (f : Cand → Cand) (s : State) : (State.modCand c f s).faults = s.faults := by
  simp [State.modCand]

@[simp] theorem State.setPout_faults (o : Nat) (x : Pout) (s : State) : (State.setPout o x s).faults = s.faults := by
  simp [State.setPout]

@[simp] theorem State.setRing_faults (q : Nat) (x : Ring) (s : State) : (State.setRing q x s).faults = s.faults := by
  simp [State.setRing]

@[simp] theorem State.modRing_faults (q : Nat) (f : Ring → Ring) (s : State) : (State.modRing q f s).faults = s.faults := by
  simp [State.modRing]

@[simp] theorem State.emit_faults (o : Output) (s : State) : (State.emit o s).faults = s.faults := by
  simp [State.emit]

@[simp] theorem State.draw_faults (s : State) : (State.draw s).2.faults = s.faults := by
  simp [State.draw]

@[simp] theorem State.count_faults (i n : Nat) (s : State) : (State.count i n s).faults = s.faults := by
  simp [State.count]

@[simp] theorem State.interrupt_faults (v : Nat) (s : State) : (State.interrupt v s).faults = s.faults := by
  unfold State.interrupt
  split
  · simp
  · rfl

@[simp] theorem State.message_faults (k : Nat) (s : State) : (State.message k s).faults = s.faults := by
  simp [State.message]

@[simp] theorem State.signal_faults (k : Nat) (urgent : Bool) (s : State) : (State.signal k urgent s).faults = s.faults := by
  simp [State.signal]

@[simp] theorem State.entry_faults (k : Nat) (s : State) : (State.entry k s).2.2.faults = s.faults := by
  simp [State.entry]

@[simp] theorem State.putCq_faults (c : Nat) (e : Completion) (s : State) : (State.putCq c e s).faults = s.faults := by
  simp [State.putCq]

@[simp] theorem State.putFinal_faults (c : Nat) (e : Completion) (s : State) : (State.putFinal c e s).faults = s.faults := by
  simp [State.putFinal]

@[simp] theorem State.putEvq_faults (r : Rec) (urgent : Bool) (s : State) : (State.putEvq r urgent s).faults = s.faults := by
  simp [State.putEvq]

@[simp] theorem State.putTrq_faults (t : Option Trace) (lost : Nat) (s : State) : (State.putTrq t lost s).faults = s.faults := by
  simp [State.putTrq]

@[simp] theorem State.loseEvq_faults (n : Nat) (s : State) : (State.loseEvq n s).faults = s.faults := by
  simp [State.loseEvq]

@[simp] theorem State.loseTrq_faults (n : Nat) (s : State) : (State.loseTrq n s).faults = s.faults := by
  simp [State.loseTrq]

@[simp] theorem State.evqOverflow_faults (s : State) : (State.evqOverflow s).faults = s.faults := by
  simp [State.evqOverflow]

@[simp] theorem State.trqOverflow_faults (s : State) : (State.trqOverflow s).faults = s.faults := by
  simp [State.trqOverflow]

@[simp] theorem State.keep_faults (k : Kept) (s : State) : (State.keep k s).faults = s.faults := rfl

@[simp] theorem State.evq_faults (rs : List Rec) (urgent : Bool) (s : State) : (State.evq rs urgent s).faults = s.faults := by
  simp [State.evq]

@[simp] theorem State.flushOne_faults (k : Kept) (s : State) : (State.flushOne k s).faults = s.faults := by
  unfold State.flushOne
  (repeat' (first | with_reducible rfl | split)) <;> simp

@[simp] theorem State.flushKept_faults (s : State) : (State.flushKept s).faults = s.faults := by
  unfold State.flushKept
  split
  · rw [foldl_faults _ fun s k => State.flushOne_faults k s]; rfl
  · rfl

@[simp] theorem State.trace_faults (kind arg imp : Nat) (data : Nat) (s : State) : (State.trace kind arg imp data s).faults = s.faults := by
  simp [State.trace]

@[simp] theorem State.drainTrace_faults (s : State) : (State.drainTrace s).faults = s.faults := by
  simp [State.drainTrace]

@[simp] theorem State.modItem_faults (id : Nat) (f : Item → Item) (s : State) : (State.modItem id f s).faults = s.faults := by
  simp [State.modItem]

@[simp] theorem State.writeCpl_faults (c : Nat) (e : Completion) (s : State) : (State.writeCpl c e s).faults = s.faults := by
  unfold State.writeCpl
  (repeat' split) <;> simp

@[simp] theorem State.complete_faults (id : Nat) (st : Status) (detail imp result : Nat) (unknown : Bool) (s : State) : (State.complete id st detail imp result unknown s).faults = s.faults := by
  unfold State.complete
  (repeat' split) <;> simp

@[simp] theorem State.refuse_faults (id : Nat) (st : Status) (detail : Nat) (s : State) : (State.refuse id st detail s).faults = s.faults := by
  simp [State.refuse]

@[simp] theorem State.done_faults (id imp : Nat) (result : Nat) (s : State) : (State.done id imp result s).faults = s.faults := by
  unfold State.done
  (repeat' split) <;> simp

@[simp] theorem State.delay_faults (id imp : Nat) (s : State) : (State.delay id imp s).faults = s.faults := by
  unfold State.delay
  (repeat' split) <;> simp

@[simp] theorem State.aliveSync_faults (s : State) : (State.aliveSync s).faults = s.faults := by
  simp [State.aliveSync]

/-- Raising a source: its count, its SEQ and its occurrence. -/
theorem State.raise_raised (x : Src) (i : Nat) (det : List Nat) (cond : Bool) (s : State) : s.raised (s.raise x i det cond) x i := by
  have k (a : State) (r : List Rec) (u : Bool) :
      ((a.evq r u).aliveSync).flt.seq = a.flt.seq ∧ ((a.evq r u).aliveSync).flt.raises = a.flt.raises ∧ ((a.evq r u).aliveSync).flt.entries = a.flt.entries := by
    have e := (State.aliveSync_faults (a.evq r u)).trans (State.evq_faults r u a)
    simp only [State.faults, Prod.mk.injEq] at e
    exact ⟨e.1, e.2.1, e.2.2.1⟩
  unfold State.raised State.raise State.raiseL
  dsimp only
  rw [(k _ _ _).1, (k _ _ _).2.1, (k _ _ _).2.2]
  refine ⟨?_, rfl, (s.entryFor x i).1, ?_⟩
  · rw [tget_tput_of_ne _ _ _ _ (Nat.succ_ne_zero _)]
  · have ne (e : Entry) (l : List Occ) (o : Occ) : ({ src := x, inst := e.inst, occs := l ++ [o] } : Entry) ≠ noEntry := fun h => by
      simpa [noEntry] using congrArg Entry.occs h
    rw [tget_tput_of_ne _ _ _ _ (ne ⟨x, _, []⟩ _ _)]
    exact ⟨rfl, _, List.mem_append_right _ (List.mem_singleton_self _), rfl, rfl, rfl⟩

end Sys2Proof.Machine
end

