-- ==== Sys2Proof/Laws/Errs.lean ====
section
/-! SUPPORT. HIF_ERR: a bit set and the others as they were; raising a source clears none. -/

namespace Sys2Proof.Machine
open Sys2Proof

theorem getLsbD_pow (b c : Nat) : (BitVec.ofNat 32 (2 ^ b)).getLsbD c = (decide (c < 32) && decide (b = c)) := by
  rw [BitVec.getLsbD_ofNat, Nat.testBit_two_pow]

/-- A bit set, and the others as they were. -/
theorem bit_setBit_true (w : Word) (b c : Nat) : bit (setBit w b true) c = (bit w c || (decide (c < 32) && decide (b = c))) := by
  have e1 : (2 ^ 1 - 1) * 2 ^ b = 2 ^ b := by omega
  have e2 : 1 % 2 ^ 1 * 2 ^ b = 2 ^ b := by omega
  unfold bit setBit setBits
  rw [if_pos rfl, e1]
  try rw [e2]
  rw [BitVec.getLsbD_or, BitVec.getLsbD_and, BitVec.getLsbD_not, getLsbD_pow]
  by_cases hc : c < 32
  · cases w.getLsbD c <;> cases (decide (b = c)) <;> simp [hc]
  · rw [BitVec.getLsbD_of_ge w c (by omega)]
    simp [hc]

/-- Bits of HIF_ERR that are set stay set. -/
def State.errLe (s t : State) : Prop := ∀ b, bit s.hif.err b = true → bit t.hif.err b = true

theorem errLe_refl (s : State) : s.errLe s := fun _ h => h
theorem errLe_trans {s t u : State} (h : s.errLe t) (k : t.errLe u) : s.errLe u := fun b e => k b (h b e)
theorem errLe_of_eq {s t : State} (h : t.hif.err = s.hif.err) : s.errLe t := fun b e => by rw [h]; exact e

theorem State.modCq_err (k : Nat) (f : Cq → Cq) (s : State) : (s.modCq k f).hif.err = s.hif.err := rfl
theorem State.interrupt_err (v : Nat) (s : State) : (s.interrupt v).hif.err = s.hif.err := by
  unfold State.interrupt
  split <;> rfl
theorem State.message_err (k : Nat) (s : State) : (s.message k).hif.err = s.hif.err := by
  unfold State.message
  rw [State.modCq_err, State.interrupt_err]
theorem State.signal_err (k : Nat) (u : Bool) (s : State) : (s.signal k u).hif.err = s.hif.err := by
  unfold State.signal
  dsimp only
  split
  · exact State.message_err ..
  · rfl
theorem State.putCq_err (c : Nat) (e : Completion) (s : State) : (s.putCq c e).hif.err = s.hif.err := State.signal_err ..
theorem State.putEvq_err (r : Rec) (u : Bool) (s : State) : (s.putEvq r u).hif.err = s.hif.err := State.signal_err ..
theorem State.putTrq_err (r : Option Trace) (l : Nat) (s : State) : (s.putTrq r l).hif.err = s.hif.err := State.signal_err ..
theorem State.loseEvq_errLe (n : Nat) (s : State) : s.errLe (s.loseEvq n) := fun b h => by
  show bit (setBit s.hif.err 4 true) b = true
  rw [bit_setBit_true, h]
  rfl
theorem State.evqOverflow_err (s : State) : s.evqOverflow.hif.err = s.hif.err := by
  unfold State.evqOverflow
  dsimp only
  split
  · exact State.putEvq_err ..
  · rfl
theorem State.foldPut_err (u : Bool) (rs : List Rec) (s : State) : (rs.foldl (fun s r => s.putEvq r u) s).hif.err = s.hif.err := by
  induction rs generalizing s with
  | nil => rfl
  | cons r t ih => rw [List.foldl_cons, ih, State.putEvq_err]
theorem State.keep_err (k : Kept) (s : State) : (s.keep k).hif.err = s.hif.err := rfl
theorem State.evq_errLe (rs : List Rec) (u : Bool) (s : State) : s.errLe (s.evq rs u) := by
  unfold State.evq
  dsimp only
  split
  · split
    · exact errLe_of_eq (State.keep_err _ _)
    · exact State.loseEvq_errLe _ _
  · split
    · exact errLe_of_eq ((State.foldPut_err _ _ _).trans (State.evqOverflow_err _))
    · exact errLe_trans (errLe_of_eq (State.evqOverflow_err s)) (State.loseEvq_errLe _ _)
theorem State.aliveSync_hif (s : State) : s.aliveSync.hif = s.hif := by
  unfold State.aliveSync
  (repeat' split) <;> rfl
/-- Raising a source changes the collector, then writes one record, then judges ALIVE. -/
theorem State.raiseL_eq (x : Src) (i : Nat) (det : List Nat) (c r : Bool) (s : State) :
    ∃ fl rs u, (s.raiseL x i det c r).2 = (({ s with flt := fl } : State).evq rs u).aliveSync := ⟨_, _, _, rfl⟩

theorem State.raiseL_errLe (x : Src) (i : Nat) (det : List Nat) (c r : Bool) (s : State) : s.errLe (s.raiseL x i det c r).2 := by
  obtain ⟨fl, rs, u, e⟩ := State.raiseL_eq x i det c r s
  intro b h
  rw [e, State.aliveSync_hif]
  exact State.evq_errLe rs u _ b h

/-- Raising a source leaves the bits of HIF_ERR that are set. -/
theorem State.raise_errLe (x : Src) (i : Nat) (det : List Nat) (c : Bool) (s : State) : s.errLe (s.raise x i det c) :=
  State.raiseL_errLe x i det c false s

end Sys2Proof.Machine
end

