-- ==== Sys2Proof/Laws/Kept.lean ====
section
/-! SUPPORT. Frame lemmas: what a reset, a fuse and a lock alone may change (State.kept) is left alone by every shared operation: the general lemmas, and the operations over registers, queues, memory and units. -/

namespace Sys2Proof.Machine

open Sys2Proof

@[simp] theorem State.kept_eta (s : State) : (s.pending, s.clk, s.upd.owner, s.hif.keyLocked, s.hif.key) = s.kept := rfl
theorem State.kept_def (s : State) : s.kept = (s.pending, s.clk, s.upd.owner, s.hif.keyLocked, s.hif.key) := rfl
@[simp] theorem State.kept_mk x0 x1 x2 x3 x4 x5 x6 x7 x8 x9 x10 x11 x12 x13 x14 x15 x16 x17 x18 x19 x20 x21 x22 x23 x24 x25 x26 x27 x28 x29 : State.kept (State.mk x0 x1 x2 x3 x4 x5 x6 x7 x8 x9 x10 x11 x12 x13 x14 x15 x16 x17 x18 x19 x20 x21 x22 x23 x24 x25 x26 x27 x28 x29) = (x0, x1, x27.owner, x8.keyLocked, x8.key) := rfl

/-- The update machine changed, the owner key hash not. -/
theorem kept_setUpd {s : State} {u : Upd} (h : u.owner = s.upd.owner) : ({ s with upd := u } : State).kept = s.kept := by
  simp only [State.kept, h]

/-- The scene and the window changed. -/
theorem State.kept_setCmpWin (c : Cmp) (w : Window) (s : State) : ({ s with cmp := c, win := w } : State).kept = s.kept := rfl

/-- The scene changed. -/
theorem State.kept_setCmp (c : Cmp) (s : State) : ({ s with cmp := c } : State).kept = s.kept := rfl

@[simp] theorem kept_ite (c : Prop) [Decidable c] (a b : State) : (if c then a else b).kept = if c then a.kept else b.kept := by
  split <;> rfl

theorem core_of_kept {s t : State} (h : s.kept = t.kept) : s.core = t.core := by
  simp only [State.kept, Prod.mk.injEq] at h
  simp [State.core, h]

theorem grows_of_core {s t : State} (h : t.core = s.core) : s.grows t := by
  simp only [State.core, Prod.mk.injEq] at h
  exact ⟨h.1, h.2.1, fun _ e => h.2.2.trans e⟩

theorem grows_of_kept {s t : State} (h : t.kept = s.kept) : s.grows t := grows_of_core (core_of_kept h)

theorem keepsKey_of_kept {s t : State} (h : t.kept = s.kept) : s.keepsKey t := by
  simp only [State.kept, Prod.mk.injEq] at h
  exact fun k => ⟨h.2.2.2.1.trans k, h.2.2.2.2⟩

theorem grows_ite {s a b : State} {c : Prop} [Decidable c] (h : s.grows a) (k : s.grows b) : s.grows (if c then a else b) := by
  split
  · exact h
  · exact k

theorem keepsKey_ite {s a b : State} {c : Prop} [Decidable c] (h : s.keepsKey a) (k : s.keepsKey b) : s.keepsKey (if c then a else b) := by
  split
  · exact h
  · exact k

theorem grows_trans {s t u : State} (h : s.grows t) (k : t.grows u) : s.grows u :=
  ⟨k.1.trans h.1, k.2.1.trans h.2.1, fun x e => k.2.2 x (h.2.2 x e)⟩

theorem keepsKey_trans {s t u : State} (h : s.keepsKey t) (k : t.keepsKey u) : s.keepsKey u := fun e =>
  have a := h e
  have b := k a.1
  ⟨b.1, b.2.trans a.2⟩
@[simp] theorem foldl_kept {α : Type} (f : State → α → State) (h : ∀ s x, (f s x).kept = s.kept) (l : List α) (s : State) : (l.foldl f s).kept = s.kept := by
  induction l generalizing s with
  | nil => rfl
  | cons x t ih => rw [List.foldl_cons, ih, h]

@[simp] theorem State.setReg_kept (off : Nat) (v : Word) (s : State) : (State.setReg off v s).kept = s.kept := by
  simp [State.setReg]

@[simp] theorem State.writeReg_kept (off : Nat) (v : Word) (s : State) : (State.writeReg off v s).kept = s.kept := by
  simp [State.writeReg]

@[simp] theorem State.setLane_kept (i : Nat) (l : Lane) (s : State) : (State.setLane i l s).kept = s.kept := by
  simp [State.setLane]

@[simp] theorem State.modLane_kept (i : Nat) (f : Lane → Lane) (s : State) : (State.modLane i f s).kept = s.kept := by
  simp [State.modLane]

@[simp] theorem State.setQuire_kept (q : Nat) (x : Quire) (s : State) : (State.setQuire q x s).kept = s.kept := by
  simp [State.setQuire]

@[simp] theorem State.modQuire_kept (q : Nat) (f : Quire → Quire) (s : State) : (State.modQuire q f s).kept = s.kept := by
  simp [State.modQuire]

@[simp] theorem State.setLeaf_kept (k : Nat) (x : Leaf) (s : State) : (State.setLeaf k x s).kept = s.kept := by
  simp [State.setLeaf]

@[simp] theorem State.modLeaf_kept (k : Nat) (f : Leaf → Leaf) (s : State) : (State.modLeaf k f s).kept = s.kept := by
  simp [State.modLeaf]

@[simp] theorem State.setLayer_kept (k : Nat) (x : Layer) (s : State) : (State.setLayer k x s).kept = s.kept := by
  simp [State.setLayer]

@[simp] theorem State.modLayer_kept (k : Nat) (f : Layer → Layer) (s : State) : (State.modLayer k f s).kept = s.kept := by
  simp [State.modLayer]

@[simp] theorem State.setStream_kept (k : Nat) (x : Stream) (s : State) : (State.setStream k x s).kept = s.kept := by
  simp [State.setStream]

@[simp] theorem State.modStream_kept (k : Nat) (f : Stream → Stream) (s : State) : (State.modStream k f s).kept = s.kept := by
  simp [State.modStream]

@[simp] theorem State.setPort_kept (p : Nat) (x : Port) (s : State) : (State.setPort p x s).kept = s.kept := by
  simp [State.setPort]

@[simp] theorem State.modPort_kept (p : Nat) (f : Port → Port) (s : State) : (State.modPort p f s).kept = s.kept := by
  simp [State.modPort]

@[simp] theorem State.setSq_kept (q : Nat) (x : Sq) (s : State) : (State.setSq q x s).kept = s.kept := by
  simp [State.setSq]

@[simp] theorem State.modSq_kept (q : Nat) (f : Sq → Sq) (s : State) : (State.modSq q f s).kept = s.kept := by
  simp [State.modSq]

@[simp] theorem State.setCq_kept (k : Nat) (x : Cq) (s : State) : (State.setCq k x s).kept = s.kept := by
  simp [State.setCq]

@[simp] theorem State.modCq_kept (k : Nat) (f : Cq → Cq) (s : State) : (State.modCq k f s).kept = s.kept := by
  simp [State.modCq]

@[simp] theorem State.setUnit_kept (k : Nat) (x : UnitRec) (s : State) : (State.setUnit k x s).kept = s.kept := by
  simp [State.setUnit]

@[simp] theorem State.modUnit_kept (k : Nat) (f : UnitRec → UnitRec) (s : State) : (State.modUnit k f s).kept = s.kept := by
  simp [State.modUnit]

@[simp] theorem State.setPc_kept (k : Nat) (x : Pc) (s : State) : (State.setPc k x s).kept = s.kept := by
  simp [State.setPc]

@[simp] theorem State.modPc_kept (k : Nat) (f : Pc → Pc) (s : State) : (State.modPc k f s).kept = s.kept := by
  simp [State.modPc]

@[simp] theorem State.setCand_kept (c : Nat) (x : Cand) (s : State) : (State.setCand c x s).kept = s.kept := by
  simp [State.setCand]

@[simp] theorem State.modCand_kept (c : Nat) (f : Cand → Cand) (s : State) : (State.modCand c f s).kept = s.kept := by
  simp [State.modCand]

@[simp] theorem State.setPout_kept (o : Nat) (x : Pout) (s : State) : (State.setPout o x s).kept = s.kept := by
  simp [State.setPout]

@[simp] theorem State.setRing_kept (q : Nat) (x : Ring) (s : State) : (State.setRing q x s).kept = s.kept := by
  simp [State.setRing]

@[simp] theorem State.modRing_kept (q : Nat) (f : Ring → Ring) (s : State) : (State.modRing q f s).kept = s.kept := by
  simp [State.modRing]

@[simp] theorem State.emit_kept (o : Output) (s : State) : (State.emit o s).kept = s.kept := by
  simp [State.emit]

@[simp] theorem State.draw_kept (s : State) : (State.draw s).2.kept = s.kept := by
  simp [State.draw]

@[simp] theorem State.count_kept (i n : Nat) (s : State) : (State.count i n s).kept = s.kept := by
  simp [State.count]

@[simp] theorem State.interrupt_kept (v : Nat) (s : State) : (State.interrupt v s).kept = s.kept := by
  unfold State.interrupt
  split
  · simp
  · rfl

@[simp] theorem State.sendPending_kept (s : State) : (State.sendPending s).kept = s.kept := by
  unfold State.sendPending
  refine foldl_kept _ (fun s v => ?_) _ s
  split
  · simp only [State.interrupt_kept]; rfl
  · rfl

@[simp] theorem State.message_kept (k : Nat) (s : State) : (State.message k s).kept = s.kept := by
  simp [State.message]

@[simp] theorem State.signal_kept (k : Nat) (urgent : Bool) (s : State) : (State.signal k urgent s).kept = s.kept := by
  simp [State.signal]

@[simp] theorem State.entry_kept (k : Nat) (s : State) : (State.entry k s).2.2.kept = s.kept := by
  simp [State.entry]

@[simp] theorem State.putCq_kept (c : Nat) (e : Completion) (s : State) : (State.putCq c e s).kept = s.kept := by
  simp [State.putCq]

@[simp] theorem State.putFinal_kept (c : Nat) (e : Completion) (s : State) : (State.putFinal c e s).kept = s.kept := by
  simp [State.putFinal]

@[simp] theorem State.putEvq_kept (r : Rec) (urgent : Bool) (s : State) : (State.putEvq r urgent s).kept = s.kept := by
  simp [State.putEvq]

@[simp] theorem State.putTrq_kept (t : Option Trace) (lost : Nat) (s : State) : (State.putTrq t lost s).kept = s.kept := by
  simp [State.putTrq]

@[simp] theorem State.loseEvq_kept (n : Nat) (s : State) : (State.loseEvq n s).kept = s.kept := by
  simp [State.loseEvq]

@[simp] theorem State.loseTrq_kept (n : Nat) (s : State) : (State.loseTrq n s).kept = s.kept := by
  simp [State.loseTrq]

@[simp] theorem State.evqOverflow_kept (s : State) : (State.evqOverflow s).kept = s.kept := by
  simp [State.evqOverflow]

@[simp] theorem State.trqOverflow_kept (s : State) : (State.trqOverflow s).kept = s.kept := by
  simp [State.trqOverflow]

@[simp] theorem State.keep_kept (k : Kept) (s : State) : (State.keep k s).kept = s.kept := rfl

@[simp] theorem State.evq_kept (rs : List Rec) (urgent : Bool) (s : State) : (State.evq rs urgent s).kept = s.kept := by
  simp [State.evq]

@[simp] theorem State.flushOne_kept (k : Kept) (s : State) : (State.flushOne k s).kept = s.kept := by
  unfold State.flushOne
  (repeat' (first | with_reducible rfl | split)) <;> simp

@[simp] theorem State.flushKept_kept (s : State) : (State.flushKept s).kept = s.kept := by
  unfold State.flushKept
  split
  · rw [foldl_kept _ fun s k => State.flushOne_kept k s]; rfl
  · rfl

@[simp] theorem State.trace_kept (kind arg imp : Nat) (data : Nat) (s : State) : (State.trace kind arg imp data s).kept = s.kept := by
  simp [State.trace]

@[simp] theorem State.drainTrace_kept (s : State) : (State.drainTrace s).kept = s.kept := by
  simp [State.drainTrace]

@[simp] theorem State.elapse_kept (dt : Nat) (s : State) :
    (s.elapse dt).kept = (s.pending, s.clk + dt, s.upd.owner, s.hif.keyLocked, s.hif.key) := by
  unfold State.elapse
  dsimp only
  split
  · rfl
  · have k := State.drainTrace_kept s
    simp only [State.kept, Prod.mk.injEq] at k
    simp [k]

@[simp] theorem State.modItem_kept (id : Nat) (f : Item → Item) (s : State) : (State.modItem id f s).kept = s.kept := by
  simp [State.modItem]

@[simp] theorem State.writeCpl_kept (c : Nat) (e : Completion) (s : State) : (State.writeCpl c e s).kept = s.kept := by
  unfold State.writeCpl
  (repeat' split) <;> simp

@[simp] theorem State.complete_kept (id : Nat) (st : Status) (detail imp result : Nat) (unknown : Bool) (s : State) : (State.complete id st detail imp result unknown s).kept = s.kept := by
  unfold State.complete
  (repeat' split) <;> simp

@[simp] theorem State.writeResult_kept (addr : Nat) (l : List Byte) (s : State) : (State.writeResult addr l s).2.kept = s.kept := by
  unfold State.writeResult
  dsimp only
  (repeat' (first | with_reducible rfl | split)) <;> simp

@[simp] theorem State.refuse_kept (id : Nat) (st : Status) (detail : Nat) (s : State) : (State.refuse id st detail s).kept = s.kept := by
  simp [State.refuse]

@[simp] theorem State.done_kept (id imp : Nat) (result : Nat) (s : State) : (State.done id imp result s).kept = s.kept := by
  unfold State.done
  (repeat' split) <;> simp

@[simp] theorem State.delay_kept (id imp : Nat) (s : State) : (State.delay id imp s).kept = s.kept := by
  unfold State.delay
  (repeat' split) <;> simp

@[simp] theorem State.aliveSync_kept (s : State) : (State.aliveSync s).kept = s.kept := by
  simp [State.aliveSync]

@[simp] theorem State.raiseL_kept (x : Src) (i : Nat) (det : List Nat) (cond react : Bool) (s : State) : (State.raiseL x i det cond react s).2.kept = s.kept := by
  simp [State.raiseL]

@[simp] theorem State.raise_kept (x : Src) (i : Nat) (det : List Nat) (cond : Bool) (s : State) : (State.raise x i det cond s).kept = s.kept := by
  simp [State.raise]

@[simp] theorem State.clear_kept (x : Src) (i : Nat) (s : State) : (State.clear x i s).kept = s.kept := by
  simp [State.clear]

@[simp] theorem State.ackWhere_kept (p : Entry → Bool) (upto : Word) (s : State) : (State.ackWhere p upto s).2.kept = s.kept := by
  simp [State.ackWhere]

@[simp] theorem State.pushBack_kept (q id t : Nat) (s : State) : (State.pushBack q id t s).kept = s.kept := by
  simp [State.pushBack]

@[simp] theorem State.takeItem_kept (q : Nat) (d a : Slot) (s : State) : (State.takeItem q d a s).2.kept = s.kept := by
  simp [State.takeItem]

@[simp] theorem State.refuseWith_kept (i : Item) (st : Status) (det : Nat) (s : State) : (State.refuseWith i st det s).kept = s.kept := by
  simp [State.refuseWith]

@[simp] theorem State.authenticate_kept (i : Item) (buf : List Byte) (s : State) : (State.authenticate i buf s).2.kept = s.kept := by
  unfold State.authenticate
  dsimp only
  (repeat' (first | with_reducible rfl | split)) <;> simp

@[simp] theorem State.spoil_kept (q g : Nat) (s : State) : (State.spoil q g s).kept = s.kept := by
  simp [State.spoil]

@[simp] theorem State.phase_kept (id : Nat) (p : Phase) (s : State) : (State.phase id p s).kept = s.kept := by
  simp [State.phase]

theorem State.takeCmd_kept (op q : Nat) (d a : Slot) (lateRule : Bool) (group : Nat) (chk : Item → State → List Refuse) (accept : Item → State → State) (s : State)
    (ha : ∀ i s, (accept i s).kept = s.kept) : (State.takeCmd op q d a lateRule group chk accept s).kept = s.kept := by
  unfold State.takeCmd
  dsimp only
  (repeat' (first | rfl | split)) <;> simp [ha]

theorem State.alloc_kept (cls n : Nat) (s : State) (t : Nat × State) (h : State.alloc cls n s = some t) : t.2.kept = s.kept := by
  unfold State.alloc at h
  (repeat' split at h) <;> first | (cases h; done) | (cases h; simp) | (injection h with h; subst h; simp [*])

@[simp] theorem State.release_kept (ids : List Nat) (s : State) : (State.release ids s).kept = s.kept := by
  simp [State.release]

@[simp] theorem State.allocD_kept (cls n : Nat) (s : State) : (State.allocD cls n s).2.kept = s.kept := by
  unfold State.allocD
  split
  · rename_i r h; exact State.alloc_kept _ _ _ _ h
  · rfl

@[simp] theorem State.stateConflict_kept (inst : Nat) (bad : Bool) (s : State) : (State.stateConflict inst bad s).kept = s.kept := by
  unfold State.stateConflict
  (repeat' (first | with_reducible rfl | split)) <;> simp

@[simp] theorem State.strayUnit_kept (kind n k : Nat) (s : State) : (State.strayUnit kind n k s).kept = s.kept := by
  unfold State.strayUnit
  (repeat' (first | with_reducible rfl | split)) <;> simp

@[simp] theorem State.noteRecord_kept (s : State) : (State.noteRecord s).kept = s.kept := by
  simp [State.noteRecord]

@[simp] theorem State.retry_kept (inst old new n : Nat) (s : State) : (State.retry inst old new n s).kept = s.kept := by
  simp [State.retry]

@[simp] theorem State.admitEncoders_kept (s : State) : (State.admitEncoders s).kept = s.kept := by
  simp [State.admitEncoders]

@[simp] theorem State.bringIn_kept (k for_ : Nat) (s : State) : (State.bringIn k for_ s).kept = s.kept := by
  simp [State.bringIn]

@[simp] theorem State.bringInEngine_kept (e : Nat) (s : State) : (State.bringInEngine e s).kept = s.kept := by
  unfold State.bringInEngine
  (repeat' split) <;> simp

@[simp] theorem State.dispatch_kept (e : Nat) (s : State) : (State.dispatch e s).kept = s.kept := by
  unfold State.dispatch
  (repeat' split) <;> simp

@[simp] theorem State.dispatchAll_kept (s : State) : (State.dispatchAll s).kept = s.kept := by
  simp [State.dispatchAll]

@[simp] theorem State.retireEngine_kept (e : Nat) (s : State) : (State.retireEngine e s).kept = s.kept := by
  simp [State.retireEngine]

@[simp] theorem State.retireEncoder_kept (e : Nat) (s : State) : (State.retireEncoder e s).kept = s.kept := by
  simp [State.retireEncoder]

@[simp] theorem State.logSub_kept (out_ in_ : Nat) (s : State) : (State.logSub out_ in_ s).kept = s.kept := by
  simp [State.logSub]

@[simp] theorem State.hifErr_kept (b : Nat) (s : State) : (State.hifErr b s).kept = s.kept := by
  simp [State.hifErr]

@[simp] theorem State.fencesGo_kept (s : State) : (State.fencesGo s).kept = s.kept := by
  simp [State.fencesGo]

@[simp] theorem State.readPi_kept (n : Nat) (w : Word) (s : State) : (State.readPi n w s).kept = s.kept := by
  simp [State.readPi]

@[simp] theorem State.readCi_kept (k : Nat) (w : Word) (s : State) : (State.readCi k w s).kept = s.kept := by
  simp [State.readCi]

@[simp] theorem State.applyForce_kept (s : State) : (State.applyForce s).kept = s.kept := by
  simp [State.applyForce]

@[simp] theorem State.readPage_kept (page : List Byte) (s : State) : (State.readPage page s).kept = s.kept := by
  unfold State.readPage
  rw [State.flushKept_kept, foldl_kept _ fun s n => State.readCi_kept (16 + n) (pageWord page (16 + n)) s]
  exact foldl_kept _ (fun s n => State.readPi_kept n (pageWord page n) s) _ s

@[simp] theorem State.readFences_kept (fences : List (Nat × List Byte)) (s : State) : (State.readFences fences s).kept = s.kept := rfl

@[simp] theorem State.sweep_kept (page : List Byte) (fences : List (Nat × List Byte)) (s : State) : (State.sweep page fences s).kept = s.kept := by
  unfold State.sweep
  rw [State.fencesGo_kept, State.readFences_kept, foldl_kept _ fun s n => State.signal_kept (16 + n) false s, State.readPage_kept, State.applyForce_kept,
    State.count_kept]
  simp only [State.kept]

@[simp] theorem State.writeHifCtrl_kept (v : Word) (s : State) : (State.writeHifCtrl v s).kept = s.kept := by
  simp [State.writeHifCtrl]

@[simp] theorem State.writeQCtrl_kept (k : Nat) (v : Word) (s : State) : (State.writeQCtrl k v s).kept = s.kept := by
  simp [State.writeQCtrl]

@[simp] theorem State.setWins_kept (ws : List Win) (s : State) : (State.setWins ws s).kept = s.kept := by
  unfold State.setWins
  (repeat' (first | with_reducible rfl | split)) <;> simp

@[simp] theorem State.writeWinCtrl_kept (v : Word) (s : State) : (State.writeWinCtrl v s).kept = s.kept := by
  simp [State.writeWinCtrl]

@[simp] theorem State.writeFkey_kept (k : Nat) (v : Word) (s : State) : (State.writeFkey k v s).kept = s.kept := by
  simp [State.writeFkey]

@[simp] theorem State.calibrate_kept (i : Nat) (s : State) : (State.calibrate i s).kept = s.kept := by
  simp [State.calibrate]

@[simp] theorem State.startLane_kept (i func q : Nat) (s : State) : (State.startLane i func q s).kept = s.kept := by
  simp [State.startLane]

@[simp] theorem State.stopLane_kept (i : Nat) (s : State) : (State.stopLane i s).kept = s.kept := by
  simp [State.stopLane]

@[simp] theorem State.endLoop_kept (i : Nat) (s : State) : (State.endLoop i s).kept = s.kept := by
  unfold State.endLoop
  (repeat' (first | with_reducible rfl | split)) <;> simp

@[simp] theorem State.takeBack_kept (w : Nat) (s : State) : (State.takeBack w s).kept = s.kept := by
  simp [State.takeBack]

@[simp] theorem State.giveLane_kept (w func q : Nat) (s : State) : (State.giveLane w func q s).kept = s.kept := by
  simp [State.giveLane]

@[simp] theorem State.setPortLink_kept (i : Nat) (up : Bool) (s : State) : (State.setPortLink i up s).kept = s.kept := by
  unfold State.setPortLink
  (repeat' split) <;> simp

end Sys2Proof.Machine
end

