-- ==== Sys2Proof/Laws/KeptScene.lean ====
section
/-! SUPPORT. Frame lemmas: State.kept is left alone by the operations of the inputs, the scene, the lamps and the imposition. -/

namespace Sys2Proof.Machine

open Sys2Proof

@[simp] theorem State.startMac_kept (q : Nat) (s : State) : (State.startMac q s).kept = s.kept := by
  simp [State.startMac]

@[simp] theorem State.stopMac_kept (m q : Nat) (s : State) : (State.stopMac m q s).kept = s.kept := by
  simp [State.stopMac]

@[simp] theorem State.writeMac_kept (m : Nat) (v : Word) (s : State) : (State.writeMac m v s).kept = s.kept := by
  simp [State.writeMac]

@[simp] theorem State.sendNet_kept (p : Nat) (o : NetOut) (s : State) : (State.sendNet p o s).kept = s.kept := by
  simp [State.sendNet]

@[simp] theorem State.report_kept (l : Leg) (join : Bool) (s : State) : (State.report l join s).kept = s.kept := by
  simp [State.report]

@[simp] theorem State.joinChanges_kept (old s : State) : (State.joinChanges old s).kept = s.kept := by
  simp [State.joinChanges]

@[simp] theorem State.detect_kept (p : Nat) (s : State) : (State.detect p s).kept = s.kept := by
  unfold State.detect
  (repeat' (first | with_reducible rfl | split)) <;> simp

@[simp] theorem State.writePort_kept (p : Nat) (v : Word) (s : State) : (State.writePort p v s).kept = s.kept := by
  simp [State.writePort]

@[simp] theorem State.conflict_kept (p : Nat) (v6 : Bool) (s : State) : (State.conflict p v6 s).kept = s.kept := by
  simp [State.conflict]

@[simp] theorem admitAccept_kept (i : Item) (s : State) : (admitAccept i s).kept = s.kept := by
  simp [admitAccept]

@[simp] theorem State.landStream_kept (k m : Nat) (s : State) : (State.landStream k m s).kept = s.kept := by
  unfold State.landStream
  (repeat' (first | with_reducible rfl | split)) <;> simp

@[simp] theorem State.clearLeg_kept (k n : Nat) (s : State) : (State.clearLeg k n s).kept = s.kept := by
  simp [State.clearLeg]

@[simp] theorem State.legDown_kept (k n : Nat) (s : State) : (State.legDown k n s).kept = s.kept := by
  simp [State.legDown]

@[simp] theorem State.closeFrame_kept (k : Nat) (o : OpenFrame) (complete : Bool) (s : State) : (State.closeFrame k o complete s).kept = s.kept := by
  simp [State.closeFrame]

@[simp] theorem State.closeHeld_kept (k : Nat) (s : State) : (State.closeHeld k s).kept = s.kept := by
  simp [State.closeHeld]

@[simp] theorem State.openFrame_kept (k : Nat) (ts : Word) (s : State) : (State.openFrame k ts s).kept = s.kept := by
  unfold State.openFrame
  (repeat' split) <;> simp

@[simp] theorem State.diffCheck_kept (k d : Nat) (raised : Bool) (s : State) : (State.diffCheck k d raised s).2.kept = s.kept := by
  unfold State.diffCheck
  (repeat' split) <;> simp

@[simp] theorem State.putOpen_kept (k : Nat) (ts : Word) (o : OpenFrame) (s : State) : (State.putOpen k ts o s).kept = s.kept := by
  simp [State.putOpen]

@[simp] theorem State.secDiffer_kept (k d : Nat) (s : State) : (State.secDiffer k d s).kept = s.kept := by
  unfold State.secDiffer
  (repeat' (first | with_reducible rfl | split)) <;> simp

@[simp] theorem State.openDup_kept (k : Nat) (o : OpenFrame) (d? : Option Nat) (s : State) : (State.openDup k o d? s).2.kept = s.kept := by
  unfold State.openDup
  split <;> simp

@[simp] theorem State.updateOpen_kept (k : Nat) (o : OpenFrame) (s : State) : (State.updateOpen k o s).kept = s.kept := by
  unfold State.updateOpen
  (repeat' (first | with_reducible rfl | split)) <;> simp

@[simp] theorem State.mergeOpen_kept (k leg : Nat) (m : MediaPkt) (o : OpenFrame) (s : State) : (State.mergeOpen k leg m o s).kept = s.kept := by
  unfold State.mergeOpen
  dsimp only
  split <;> simp only [State.updateOpen_kept, State.openDup_kept, State.modStream_kept, State.count_kept]

@[simp] theorem State.putGone_kept (k : Nat) (g : GoneFrame) (s : State) : (State.putGone k g s).kept = s.kept := by
  unfold State.putGone
  (repeat' (first | with_reducible rfl | split)) <;> simp

@[simp] theorem State.mergeGone_kept (k leg : Nat) (m : MediaPkt) (g : GoneFrame) (s : State) : (State.mergeGone k leg m g s).kept = s.kept := by
  unfold State.mergeGone
  dsimp only
  split <;> simp only [State.putGone_kept, State.secDiffer_kept, State.diffCheck_kept, State.count_kept]

@[simp] theorem State.endGrace_kept (k : Nat) (s : State) : (State.endGrace k s).kept = s.kept := by
  unfold State.endGrace
  (repeat' (first | with_reducible rfl | split)) <;> simp

@[simp] theorem State.absences_kept (k : Nat) (s : State) : (State.absences k s).kept = s.kept := by
  unfold State.absences
  (repeat' (first | with_reducible rfl | split)) <;> simp

@[simp] theorem State.streamTimers_kept (k : Nat) (s : State) : (State.streamTimers k s).kept = s.kept := by
  unfold State.streamTimers
  (repeat' (first | with_reducible rfl | split)) <;> simp

@[simp] theorem State.legPacket_kept (k leg : Nat) (m : MediaPkt) (s : State) : (State.legPacket k leg m s).kept = s.kept := by
  unfold State.legPacket
  dsimp only
  (repeat' (first | with_reducible rfl | split)) <;> simp

@[simp] theorem State.stranger_kept (p : Nat) (s : State) : (State.stranger p s).kept = s.kept := by
  unfold State.stranger
  dsimp only
  (repeat' (first | with_reducible rfl | split)) <;> simp

@[simp] theorem State.mediaPacket_kept (p : Nat) (m : MediaPkt) (s : State) : (State.mediaPacket p m s).kept = s.kept := by
  unfold State.mediaPacket
  (repeat' split) <;> simp

@[simp] theorem State.arp_kept (p : Nat) (sender target : Word) (mac : BitVec 48) (request : Bool) (s : State) : (State.arp p sender target mac request s).kept = s.kept := by
  simp [State.arp]

@[simp] theorem State.nd_kept (p : Nat) (target : BitVec 128) (advert probe : Bool) (s : State) : (State.nd p target advert probe s).kept = s.kept := by
  simp [State.nd]

@[simp] theorem State.frameIn_kept (p : Nat) (f : EthFrame) (s : State) : (State.frameIn p f s).kept = s.kept := by
  unfold State.frameIn
  (repeat' split) <;> simp

@[simp] theorem State.dropLeg_kept (k n : Nat) (s : State) : (State.dropLeg k n s).kept = s.kept := by
  unfold State.dropLeg
  (repeat' split) <;> simp

@[simp] theorem State.releaseStream_kept (k mask : Nat) (s : State) : (State.releaseStream k mask s).kept = s.kept := by
  simp [State.releaseStream]

@[simp] theorem State.sendQ_kept (q dirs : Nat) (p : QPkt) (s : State) : (State.sendQ q dirs p s).kept = s.kept := by
  simp [State.sendQ]

@[simp] theorem State.traceQuire_kept (q d ev : Nat) (s : State) : (State.traceQuire q d ev s).kept = s.kept := by
  simp [State.traceQuire]

@[simp] theorem State.emitCmd_kept (k : Nat) (c : LCmd) (s : State) : (State.emitCmd k c s).kept = s.kept := by
  simp [State.emitCmd]

@[simp] theorem State.pumpCmds_kept (k : Nat) (s : State) : (State.pumpCmds k s).kept = s.kept := by
  simp [State.pumpCmds]

@[simp] theorem State.sendCmd_kept (k : Nat) (op : Half) (target : Nat) (data : List Byte) (item : Option Nat) (s : State) : (State.sendCmd k op target data item s).2.kept = s.kept := by
  simp [State.sendCmd]

@[simp] theorem State.sendGeom_kept (k imp : Nat) (s : State) : (State.sendGeom k imp s).kept = s.kept := by
  simp [State.sendGeom]

@[simp] theorem State.sendDark_kept (k : Nat) (item : Option Nat) (s : State) : (State.sendDark k item s).2.kept = s.kept := by
  simp [State.sendDark]

@[simp] theorem State.sendClaims_kept (q : Nat) (s : State) : (State.sendClaims q s).kept = s.kept := by
  simp [State.sendClaims]

@[simp] theorem State.setPlan_kept (q : Nat) (f : Nat → Nat) (s : State) : (State.setPlan q f s).kept = s.kept := by
  simp [State.setPlan]

@[simp] theorem State.closeEst_kept (k : Nat) (s : State) : (State.closeEst k s).kept = s.kept := by
  simp [State.closeEst]

@[simp] theorem State.derate_kept (k : Nat) (s : State) : (State.derate k s).kept = s.kept := by
  simp [State.derate]

@[simp] theorem State.overTemp_kept (k : Nat) (s : State) : (State.overTemp k s).kept = s.kept := by
  simp [State.overTemp]

@[simp] theorem State.useTable_kept (k : Nat) (s : State) : (State.useTable k s).kept = s.kept := by
  simp [State.useTable]

@[simp] theorem State.pager_kept (s : State) : (State.pager s).kept = s.kept := by
  simp [State.pager]

@[simp] theorem State.pageFailed_kept (k p : Nat) (s : State) : (State.pageFailed k p s).kept = s.kept := by
  unfold State.pageFailed
  (repeat' split) <;> simp

@[simp] theorem State.pageRead_kept (k p : Nat) (readOk : Bool) (t : Table) (s : State) : (State.pageRead k p readOk t s).kept = s.kept := by
  unfold State.pageRead
  (repeat' (first | with_reducible rfl | split)) <;> simp

@[simp] theorem State.landTable_kept (i : Item) (m : Nat) (s : State) : (State.landTable i m s).kept = s.kept := by
  unfold State.landTable
  dsimp only
  (repeat' (first | with_reducible rfl | split)) <;> simp

@[simp] theorem State.landTables_kept (m : Nat) (s : State) : (State.landTables m s).kept = s.kept := by
  unfold State.landTables
  dsimp only
  (repeat' (first | with_reducible rfl | split | (apply foldl_kept; intro s x) | (refine Eq.trans (foldl_kept _ ?_ _ _) ?_; intro s x; dsimp only))) <;> simp_all

@[simp] theorem State.sinkLeaf_kept (i : Item) (m k : Nat) (s : State) : (State.sinkLeaf i m k s).kept = s.kept := by
  simp [State.sinkLeaf]

@[simp] theorem State.landDim_kept (i : Item) (m : Nat) (s : State) : (State.landDim i m s).kept = s.kept := by
  simp [State.landDim]

@[simp] theorem State.landDims_kept (m : Nat) (s : State) : (State.landDims m s).kept = s.kept := by
  simp [State.landDims]

@[simp] theorem State.setKappa_kept (s : State) : (State.setKappa s).kept = s.kept := by
  simp [State.setKappa]

@[simp] theorem State.captureLeaf_kept (k : Nat) (s : State) : (State.captureLeaf k s).kept = s.kept := by
  simp [State.captureLeaf]

@[simp] theorem State.landColour_kept (i : Item) (m : Nat) (s : State) : (State.landColour i m s).kept = s.kept := by
  simp [State.landColour]

@[simp] theorem State.keeper_kept (k : Nat) (qs : List Nat) (s : State) : (State.keeper k qs s).kept = s.kept := by
  unfold State.keeper
  dsimp only
  (repeat' (first | with_reducible rfl | split | (apply foldl_kept; intro s x) | (refine Eq.trans (foldl_kept _ ?_ _ _) ?_; intro s x; dsimp only))) <;> simp_all

@[simp] theorem State.selectLamp_kept (v : Word) (s : State) : (State.selectLamp v s).kept = s.kept := by
  simp [State.selectLamp]

@[simp] theorem State.writeImpCommit_kept (v : Word) (s : State) : (State.writeImpCommit v s).kept = s.kept := by
  simp [State.writeImpCommit]

theorem State.reserveRings_kept (u : Setup) (n a : Nat) (l : List Nat) (s : State) (t : List Nat × State) (h : State.reserveRings u n a l s = .inr t) : t.2.kept = s.kept := by
  induction n generalizing a l s with
  | zero => cases h; rfl
  | succ n ih =>
    unfold State.reserveRings at h
    split at h
    · exact ih _ _ _ h
    · split at h
      · cases h
      · rename_i b s1 e
        exact (ih _ _ _ h).trans (State.alloc_kept _ _ _ _ e)

theorem State.reserveAll_kept (l as : List Nat) (s : State) (t : List Nat × State) (h : State.reserveAll l as s = some t) : t.2.kept = s.kept := by
  induction l generalizing as s with
  | nil => cases h; rfl
  | cons n ns ih =>
    unfold State.reserveAll at h
    split at h
    · cases h
    · rename_i b s1 e
      exact (ih _ _ h).trans (State.alloc_kept _ _ _ _ e)

@[simp] theorem State.reserveStaging_kept (u : Setup) (s : State) (t : List Nat × State) (h : State.reserveStaging u s = .inr t) : t.2.kept = s.kept := by
  unfold State.reserveStaging at h
  split at h
  · cases h
  · rename_i as s1 e
    split at h
    · cases h
    · rename_i r e2
      cases h
      exact (State.reserveAll_kept _ _ _ _ e2).trans (State.reserveRings_kept _ _ _ _ _ _ e)

@[simp] theorem State.checkMismatch_kept (k : Nat) (s : State) : (State.checkMismatch k s).kept = s.kept := by
  simp [State.checkMismatch]

@[simp] theorem State.sendGeoms_kept (m : Nat) (s : State) : (State.sendGeoms m s).kept = s.kept := by
  simp [State.sendGeoms]

@[simp] theorem State.applySetup_kept (s : State) : (State.applySetup s).2.kept = s.kept := by
  unfold State.applySetup
  split
  · rfl
  · split
    · rfl
    · split
      · rfl
      · split
        · rename_i e; rfl
        · rename_i as s1 e
          have k := State.reserveStaging_kept _ _ _ e
          dsimp only
          split <;> simp_all

@[simp] theorem State.writeImpCtrl_kept (v : Word) (s : State) : (State.writeImpCtrl v s).kept = s.kept := by
  simp [State.writeImpCtrl]

@[simp] theorem State.writeImpLeaf_kept (off : Nat) (v : Word) (s : State) : (State.writeImpLeaf off v s).kept = s.kept := by
  simp [State.writeImpLeaf]

@[simp] theorem State.writeSoffset_kept (v : Word) (s : State) : (State.writeSoffset v s).kept = s.kept := by
  simp [State.writeSoffset]

@[simp] theorem State.applySoffset_kept (s : State) : (State.applySoffset s).kept = s.kept := by
  unfold State.applySoffset
  dsimp only
  (repeat' (first | with_reducible rfl | split)) <;> simp

@[simp] theorem State.writeTone_kept (v : Word) (s : State) : (State.writeTone v s).kept = s.kept := by
  simp [State.writeTone]

@[simp] theorem State.applyTone_kept (s : State) : (State.applyTone s).kept = s.kept := by
  simp [State.applyTone]

@[simp] theorem State.modSlug_kept (k sl imp gen : Nat) (f : Slug → Slug) (s : State) : (State.modSlug k sl imp gen f s).kept = s.kept := by
  simp [State.modSlug]

@[simp] theorem State.failQuire_kept (q : Nat) (s : State) : (State.failQuire q s).kept = s.kept := by
  simp [State.failQuire]

@[simp] theorem State.stage_kept (q n : Nat) (s : State) (t : Bool × State) (h : State.stage q n s = some t) : t.2.kept = s.kept := by
  unfold State.stage at h
  dsimp only at h
  (repeat' split at h) <;> cases h <;> simp

@[simp] theorem State.giveAge_kept (q gen age : Nat) (s : State) : (State.giveAge q gen age s).2.kept = s.kept := by
  unfold State.giveAge
  (repeat' split) <;> simp

@[simp] theorem State.sendPart_kept (q part : Nat) (p : QPkt) (s : State) : (State.sendPart q part p s).kept = s.kept := by
  simp [State.sendPart]

@[simp] theorem State.sendAges_kept (q : Nat) (force : Bool) (s : State) : (State.sendAges q force s).kept = s.kept := by
  simp [State.sendAges]

@[simp] theorem State.sendSlug_kept (x : Slug) (s : State) : (State.sendSlug x s).kept = s.kept := by
  unfold State.sendSlug
  (repeat' split) <;> simp

@[simp] theorem State.writeRef_kept (k sl : Nat) (codes : List Half) (cap : Cap) (s : State) : (State.writeRef k sl codes cap s).kept = s.kept := by
  simp [State.writeRef]

@[simp] theorem State.putSlug_kept (enc k sl gen level : Nat) (codes : List Half) (cap : Cap) (c : Coded) (held intra : Bool) (checking : Bool) (s : State) : (State.putSlug enc k sl gen level codes cap c held intra checking s).kept = s.kept := by
  unfold State.putSlug
  dsimp only
  split
  · simp
  · rename_i ring s1 e
    simpa using State.stage_kept _ _ _ _ e

@[simp] theorem State.releaseSlug_kept (k sl gen : Nat) (s : State) : (State.releaseSlug k sl gen s).kept = s.kept := by
  unfold State.releaseSlug
  (repeat' split) <;> simp

@[simp] theorem State.coded_kept (e method : Nat) (s : State) : (State.coded e method s).2.kept = s.kept := by
  unfold State.coded
  (repeat' (first | with_reducible rfl | split)) <;> simp

@[simp] theorem State.produce_kept (e k sl gen : Nat) (asLiteral : Bool) (s : State) : (State.produce e k sl gen asLiteral s).kept = s.kept := by
  simp [State.produce]

@[simp] theorem State.stallPage_kept (s : State) : (State.stallPage s).kept = s.kept := by
  simp [State.stallPage]

@[simp] theorem State.badDecode_kept (x : Slug) (s : State) : (State.badDecode x s).kept = s.kept := by
  simp [State.badDecode]

@[simp] theorem State.produceHeld_kept (k sl : Nat) (s : State) : (State.produceHeld k sl s).kept = s.kept := by
  simp [State.produceHeld]

@[simp] theorem State.holdSlugs_kept (q : Nat) (s : State) : (State.holdSlugs q s).kept = s.kept := by
  simp [State.holdSlugs]

@[simp] theorem State.traceTick_kept (a v : Nat) (s : State) : (State.traceTick a v s).kept = s.kept := by
  simp [State.traceTick]

@[simp] theorem State.traceSched_kept (k code cls cycles tiles imp : Nat) (s : State) : (State.traceSched k code cls cycles tiles imp s).kept = s.kept := by
  simp [State.traceSched]

@[simp] theorem State.announce_kept (gen genAge : Nat) (ages : List Nat) (r : Nat × List Nat) (s : State) : (State.announce gen genAge ages r s).kept = s.kept := by
  simp [State.announce]

@[simp] theorem State.join_kept (is : List Item) (ls : Tab Layer) (ts : List Nat) (r : List (Nat × List Nat)) (s : State) : (State.join is ls ts r s).kept = s.kept := by
  simp [State.join]

theorem State.tryJoin_kept (d : Slot) (is : List Item) (s : State) (t : State) (h : State.tryJoin d is s = some t) : t.kept = s.kept := by
  unfold State.tryJoin at h
  dsimp only at h
  (repeat' split at h) <;> cases h <;> simp

@[simp] theorem State.landsNext_kept (is : List Item) (s : State) : (State.landsNext is s).kept = s.kept := by
  simp [State.landsNext]

@[simp] theorem State.modVers_kept (k : Nat) (f : Layer → Layer) (s : State) : (State.modVers k f s).kept = s.kept := by
  simp [State.modVers]

@[simp] theorem State.dropMember_kept (i : Item) (s : State) : (State.dropMember i s).kept = s.kept := by
  simp [State.dropMember]

@[simp] theorem State.endGroup_kept (is : List Item) (st : Status) (det imp : Nat) (s : State) : (State.endGroup is st det imp s).kept = s.kept := by
  simp [State.endGroup]

@[simp] theorem State.refuseGroup_kept (c : Nat) (s : State) : (State.refuseGroup c s).kept = s.kept := by
  simp [State.refuseGroup]

@[simp] theorem State.refuseMember_kept (i : Item) (st : Status) (det : Nat) (s : State) : (State.refuseMember i st det s).kept = s.kept := by
  unfold State.refuseMember
  (repeat' split) <;> simp

@[simp] theorem State.acceptLayer_kept (i : Item) (s : State) : (State.acceptLayer i s).kept = s.kept := by
  unfold State.acceptLayer
  dsimp only
  (repeat' split) <;> first | (simp; done) | (rename_i e; simpa using State.tryJoin_kept _ _ _ _ e)

@[simp] theorem State.makeRoom_kept (i : Item) (s : State) (t : State) (h : State.makeRoom i s = some t) : t.kept = s.kept := by
  unfold State.makeRoom at h
  dsimp only at h
  split at h
  · cases h; rfl
  · split at h
    · cases h
    · split at h
      · cases h
      · rename_i e
        cases h
        simpa using State.alloc_kept _ _ _ _ e

@[simp] theorem State.newVersion_kept (i : Item) (buf : List Byte) (s : State) : (State.newVersion i buf s).kept = s.kept := by
  simp [State.newVersion]

@[simp] theorem State.supersede_kept (k : Nat) (v : SurfVer) (s : State) : (State.supersede k v s).kept = s.kept := by
  simp [State.supersede]

@[simp] theorem State.supersedeAt_kept (m : Nat) (s : State) : (State.supersedeAt m s).kept = s.kept := by
  simp [State.supersedeAt]

@[simp] theorem State.joinGroup_kept (c : Nat) (s : State) : (State.joinGroup c s).kept = s.kept := by
  unfold State.joinGroup
  dsimp only
  (repeat' split) <;> first | (simp; done) | (rename_i e; simpa using State.tryJoin_kept _ _ _ _ e)

@[simp] theorem State.stagedSurface_kept (i : Item) (buf : List Byte) (s : State) : (State.stagedSurface i buf s).kept = s.kept := by
  unfold State.stagedSurface
  dsimp only
  split
  · simp
  · rename_i s1 e
    have k : s1.kept = s.kept := by
      split at e
      · cases e
      · exact State.makeRoom_kept _ _ _ e
    (repeat' split) <;> first | (simp [k]; done) | (rename_i e2; simpa [k] using State.tryJoin_kept _ _ _ _ e2)

@[simp] theorem State.resumeWrites_kept (s : State) : (State.resumeWrites s).kept = s.kept := by
  unfold State.resumeWrites
  refine foldl_kept _ (fun s x => ?_) _ s
  split <;> simp



@[simp] theorem State.acceptCommit_kept (i : Item) (s : State) : (State.acceptCommit i s).kept = s.kept := by
  simp [State.acceptCommit]

end Sys2Proof.Machine
end

