-- ==== Sys2Proof/Laws/KeptPress.lean ====
section
/-! SUPPORT. Frame lemmas: State.kept is left alone by the operations of the quire session, the slugs and the press. -/

namespace Sys2Proof.Machine

open Sys2Proof

@[simp] theorem State.sendAdopt_kept (q : Nat) (s : State) : (State.sendAdopt q s).kept = s.kept := by
  simp [State.sendAdopt]

@[simp] theorem State.adopt_kept (q : Nat) (s : State) : (State.adopt q s).kept = s.kept := by
  simp [State.adopt]

@[simp] theorem State.enterRunning_kept (q : Nat) (s : State) : (State.enterRunning q s).kept = s.kept := by
  simp [State.enterRunning]

@[simp] theorem State.adoptWhenReady_kept (q : Nat) (s : State) : (State.adoptWhenReady q s).kept = s.kept := by
  unfold State.adoptWhenReady
  (repeat' (first | with_reducible rfl | split)) <;> simp

@[simp] theorem State.inserted_kept (i : Ins) (type : Nat) (body : List Byte) (s : State) : (State.inserted i type body s).kept = s.kept := by
  unfold State.inserted
  dsimp only
  (repeat' split) <;> simp

theorem State.onInsert_kept (i : Ins) (type : Nat) (body : List Byte) (f : State → State) (s : State) (h : ∀ s, (f s).kept = s.kept) :
    (State.onInsert i type body f s).kept = s.kept := by
  unfold State.onInsert
  split <;> simp [h]

theorem State.onFirst_kept (i : Ins) (type : Nat) (body : List Byte) (f : State → State) (s : State) (h : ∀ s, (f s).kept = s.kept) :
    (State.onFirst i type body f s).kept = s.kept := by
  unfold State.onFirst
  refine State.onInsert_kept _ _ _ _ _ fun s => ?_
  dsimp only
  split <;> simp [h]

@[simp] theorem State.sayForeign_kept (k : Nat) (s : State) : (State.sayForeign k s).kept = s.kept := by
  unfold State.sayForeign
  (repeat' (first | with_reducible rfl | split)) <;> simp

@[simp] theorem State.enrollAt_kept (i : Ins) (r : Enroll) (s : State) : (State.enrollAt i r s).kept = s.kept := by
  simp [State.enrollAt]

@[simp] theorem State.enrolled_kept (i : Ins) (r : Enroll) (s : State) : (State.enrolled i r s).kept = s.kept := by
  simp [State.enrolled]

@[simp] theorem State.landAdmit_kept (i : Item) (m : Nat) (s : State) : (State.landAdmit i m s).kept = s.kept := by
  simp [State.landAdmit]

@[simp] theorem State.enterLeaves_kept (m : Nat) (s : State) : (State.enterLeaves m s).kept = s.kept := by
  simp [State.enterLeaves]

@[simp] theorem State.landRetire_kept (i : Item) (m : Nat) (s : State) : (State.landRetire i m s).kept = s.kept := by
  simp [State.landRetire]

@[simp] theorem State.landCommand_kept (i : Item) (m : Nat) (s : State) : (State.landCommand i m s).kept = s.kept := by
  simp [State.landCommand]

@[simp] theorem State.respond_kept (i : Item) (r : ResultRep) (s : State) : (State.respond i r s).kept = s.kept := by
  unfold State.respond
  dsimp only
  (repeat' split) <;> simp

@[simp] theorem State.answerItem_kept (id k : Nat) (r : ResultRep) (s : State) : (State.answerItem id k r s).kept = s.kept := by
  unfold State.answerItem
  (repeat' split) <;> simp

@[simp] theorem State.answer_kept (k : Nat) (r : ResultRep) (s : State) : (State.answer k r s).kept = s.kept := by
  unfold State.answer
  (repeat' split) <;> simp

@[simp] theorem State.expire_kept (k : Nat) (c : LCmd) (s : State) : (State.expire k c s).kept = s.kept := by
  unfold State.expire
  dsimp only
  (repeat' (first | with_reducible rfl | split)) <;> simp

@[simp] theorem State.expireCmds_kept (m : Nat) (s : State) : (State.expireCmds m s).kept = s.kept := by
  simp [State.expireCmds]

@[simp] theorem State.resendCmds_kept (k : Nat) (feedOnly : Bool) (s : State) : (State.resendCmds k feedOnly s).kept = s.kept := by
  simp [State.resendCmds]

@[simp] theorem State.sendSinks_kept (m : Nat) (s : State) : (State.sendSinks m s).kept = s.kept := by
  simp [State.sendSinks]

@[simp] theorem State.modGroup_kept (imp : Nat) (f : RecGroup → RecGroup) (s : State) : (State.modGroup imp f s).kept = s.kept := by
  simp [State.modGroup]

@[simp] theorem State.proofFault_kept (imp k : Nat) (s : State) : (State.proofFault imp k s).kept = s.kept := by
  simp [State.proofFault]

@[simp] theorem State.friskMismatch_kept (m : List (Nat × Nat × Nat × Nat × Nat)) (k : Nat) (det : List Nat) (s : State) : (State.friskMismatch m k det s).kept = s.kept := by
  simp [State.friskMismatch]

@[simp] theorem State.rangeMismatch_kept (imp k n j : Nat) (s : State) : (State.rangeMismatch imp k n j s).kept = s.kept := by
  simp [State.rangeMismatch]

@[simp] theorem State.compareProofs_kept (k : Nat) (r : FlipRep) (s : State) : (State.compareProofs k r s).kept = s.kept := by
  unfold State.compareProofs
  (repeat' split) <;> simp

@[simp] theorem State.flipLate_kept (k : Nat) (s : State) : (State.flipLate k s).kept = s.kept := by
  simp [State.flipLate]

@[simp] theorem State.flipped_kept (k : Nat) (r : FlipRep) (s : State) : (State.flipped k r s).kept = s.kept := by
  simp [State.flipped]

@[simp] theorem State.sensed_kept (k : Nat) (q : List Word) (s : State) : (State.sensed k q s).kept = s.kept := by
  simp [State.sensed]

@[simp] theorem State.announceGen_kept (q g : Nat) (s : State) : (State.announceGen q g s).kept = s.kept := by
  unfold State.announceGen
  (repeat' split) <;> simp

@[simp] theorem State.resendPart_kept (q p : Nat) (s : State) : (State.resendPart q p s).kept = s.kept := by
  simp [State.resendPart]

@[simp] theorem State.sendAgain_kept (x : Slug) (d : Nat) (s : State) : (State.sendAgain x d s).kept = s.kept := by
  simp [State.sendAgain]

@[simp] theorem State.replaySlug_kept (x : Slug) (s : State) : (State.replaySlug x s).kept = s.kept := by
  unfold State.replaySlug
  (repeat' (first | with_reducible rfl | split)) <;> first | (simp; done) | (rename_i e; simpa using State.stage_kept _ _ _ _ e)

@[simp] theorem State.pumpSlugs_kept (q : Nat) (s : State) : (State.pumpSlugs q s).kept = s.kept := by
  unfold State.pumpSlugs
  (repeat' (first | with_reducible rfl | split)) <;> simp

@[simp] theorem State.markAcked_kept (e : AckEntry) (k : Nat) (s : State) : (State.markAcked e k s).kept = s.kept := by
  simp [State.markAcked]

@[simp] theorem State.ackParts_kept (e : AckEntry) (q i : Nat) (s : State) : (State.ackParts e q i s).kept = s.kept := by
  simp [State.ackParts]

@[simp] theorem State.ackEntry_kept (q i : Nat) (s : State) (e : AckEntry) : (State.ackEntry q i s e).kept = s.kept := by
  simp [State.ackEntry]

@[simp] theorem State.closure_kept (q : Nat) (e : Evid) (s : State) : (State.closure q e s).kept = s.kept := by
  simp [State.closure]

@[simp] theorem State.replan_kept (q : Nat) (s : State) : (State.replan q s).kept = s.kept := by
  simp [State.replan]

@[simp] theorem State.badSheet_kept (q d : Nat) (s : State) : (State.badSheet q d s).kept = s.kept := by
  simp [State.badSheet]

@[simp] theorem State.goodSheet_kept (q d delay : Nat) (s : State) : (State.goodSheet q d delay s).kept = s.kept := by
  simp [State.goodSheet]

@[simp] theorem State.takeNick_kept (i pos seq : Nat) (s : State) : (State.takeNick i pos seq s).kept = s.kept := by
  unfold State.takeNick
  (repeat' (first | with_reducible rfl | split)) <;> simp

@[simp] theorem State.heal_kept (q d : Nat) (s : State) : (State.heal q d s).kept = s.kept := by
  simp [State.heal]

@[simp] theorem State.rebalPlan_kept (i : Item) (det m : Nat) (s : State) : (State.rebalPlan i det m s).kept = s.kept := by
  simp [State.rebalPlan]

@[simp] theorem State.toWorking_kept (sp : Nat) (s : State) : (State.toWorking sp s).kept = s.kept := by
  simp [State.toWorking]

@[simp] theorem State.toSpare_kept (w : Nat) (s : State) : (State.toSpare w s).kept = s.kept := by
  simp [State.toSpare]

@[simp] theorem State.landRebalance_kept (i : Item) (m : Nat) (s : State) : (State.landRebalance i m s).kept = s.kept := by
  simp [State.landRebalance]

@[simp] theorem State.rebalReady_kept (m : Nat) (s : State) : (State.rebalReady m s).kept = s.kept := by
  unfold State.rebalReady
  (repeat' (first | with_reducible rfl | split | (apply foldl_kept; intro s x) | (refine Eq.trans (foldl_kept _ ?_ _ _) ?_; intro s x; dsimp only))) <;> simp

@[simp] theorem State.judgeEnd_kept (q : Nat) (r : Nat × State) (d : Nat) : (State.judgeEnd q r d).2.kept = r.2.kept := by
  unfold State.judgeEnd
  dsimp only
  (repeat' split) <;> simp

@[simp] theorem State.cutPulse_kept (o : Nat) (n : Int) (s : State) : (State.cutPulse o n s).kept = s.kept := by
  unfold State.cutPulse
  dsimp only
  (repeat' (first | with_reducible rfl | split)) <;> simp

@[simp] theorem State.alignPout_kept (o at_ : Nat) (s : State) : (State.alignPout o at_ s).kept = s.kept := by
  unfold State.alignPout
  dsimp only
  (repeat' split) <;> simp

@[simp] theorem State.writePout_kept (o : Nat) (v : Word) (s : State) : (State.writePout o v s).kept = s.kept := by
  simp [State.writePout]

@[simp] theorem State.writeTarget_kept (o : Nat) (v : Word) (s : State) : (State.writeTarget o v s).kept = s.kept := by
  simp [State.writeTarget]

@[simp] theorem State.pulse_kept (o : Nat) (at_ w : Nat) (s : State) : (State.pulse o at_ w s).kept = s.kept := by
  simp [State.pulse]

@[simp] theorem State.pulseDue_kept (o till : Nat) (s : State) : (State.pulseDue o till s).kept = s.kept := by
  unfold State.pulseDue
  dsimp only
  (repeat' (first | with_reducible rfl | split)) <;> simp

@[simp] theorem State.landRealign_kept (i : Item) (m : Nat) (s : State) : (State.landRealign i m s).kept = s.kept := by
  unfold State.landRealign
  dsimp only
  rw [State.done_kept]
  refine foldl_kept _ (fun s o => ?_) _ s
  split <;> simp

@[simp] theorem State.refuseUnit_kept (l : Land) (st : Status) (det : Nat) (s : State) : (State.refuseUnit l st det s).kept = s.kept := by
  simp [State.refuseUnit]

@[simp] theorem State.admitUnits_kept (m : Nat) (l : List Land) (s : State) : (State.admitUnits m l s).2.kept = s.kept := by
  induction l generalizing s with
  | nil => rfl
  | cons x t ih =>
    unfold State.admitUnits
    dsimp only
    split
    · rw [ih, State.refuseUnit_kept]
    · rw [ih]; rfl

@[simp] theorem State.missFence_kept (m : Nat) (i : Item) (s : State) : (State.missFence m i s).kept = s.kept := by
  unfold State.missFence
  (repeat' split) <;> simp

@[simp] theorem State.missFences_kept (m : Nat) (s : State) : (State.missFences m s).kept = s.kept := by
  simp [State.missFences]

@[simp] theorem State.delayGroups_kept (m : Nat) (s : State) : (State.delayGroups m s).kept = s.kept := by
  simp [State.delayGroups]

@[simp] theorem State.sampleAll_kept (m t flip : Nat) (s : State) : (State.sampleAll m t flip s).kept = s.kept := by
  simp [State.sampleAll]

@[simp] theorem State.layerCount_kept (k n : Nat) (s : State) : (State.layerCount k n s).kept = s.kept := by
  simp [State.layerCount]

@[simp] theorem State.shedLayer_kept (old : Tab Layer) (flip k : Nat) (s : State) : (State.shedLayer old flip k s).kept = s.kept := by
  simp [State.shedLayer]

@[simp] theorem State.reportShed_kept (m : Nat) (x : Change × Nat) (s : State) : (State.reportShed m x s).kept = s.kept := by
  simp [State.reportShed]

@[simp] theorem State.markLanded_kept (m : Nat) (ls : List Land) (s : State) : (State.markLanded m ls s).kept = s.kept := by
  simp [State.markLanded]

@[simp] theorem State.friskEpisode_kept (k : Nat) (s : State) : (State.friskEpisode k s).kept = s.kept := by
  simp [State.friskEpisode]

@[simp] theorem State.layerMarks_kept (m : Nat) (old : Tab Layer) (c : Charge) (s : State) : (State.layerMarks m old c s).kept = s.kept := by
  simp [State.layerMarks]

@[simp] theorem State.endWalls_kept (m : Nat) (ls : List Land) (s : State) : (State.endWalls m ls s).kept = s.kept := by
  unfold State.endWalls
  (repeat' (first | with_reducible rfl | split | (apply foldl_kept; intro s x) | (refine Eq.trans (foldl_kept _ ?_ _ _) ?_; intro s x; dsimp only))) <;> simp

@[simp] theorem State.refuseShed_kept (shed : List (Change × Nat)) (landed : List Land) (s : State) : (State.refuseShed shed landed s).kept = s.kept := by
  unfold State.refuseShed
  (repeat' (first | with_reducible rfl | split | (apply foldl_kept; intro s x) | (refine Eq.trans (foldl_kept _ ?_ _ _) ?_; intro s x; dsimp only))) <;> simp

@[simp] theorem State.relandScene_kept (m t flip : Nat) (before : Cmp) (keep gone : List Land) (s : State) :
    (State.relandScene m t flip before keep gone s).2.kept = s.kept := by
  unfold State.relandScene
  dsimp only
  rw [State.sampleAll_kept, State.admitUnits_kept, State.kept_setCmp]

@[simp] theorem State.afterShed_kept (m t flip : Nat) (before : Cmp) (shed : List (Change × Nat)) (keep gone : List Land) (s : State) :
    (State.afterShed m t flip before shed keep gone s).2.kept = s.kept := by
  unfold State.afterShed
  split <;> simp

@[simp] theorem State.setWork_kept (m flip : Nat) (before : Cmp) (held : List Job) (c : Charge) (s : State) : (State.setWork m flip before held c s).kept = s.kept := by
  simp [State.setWork]

@[simp] theorem State.composeScene_kept (m t flip : Nat) (canvas all : Bool) (tone : Tab Word) (s : State) : (State.composeScene m t flip canvas all tone s).2.kept = s.kept := by
  unfold State.composeScene
  dsimp only
  rw [State.dispatchAll_kept, State.resumeWrites_kept, State.supersedeAt_kept, State.endWalls_kept, State.markLanded_kept, State.setWork_kept]
  rw [foldl_kept _ (fun s x => State.reportShed_kept _ _ _), foldl_kept _ (fun s x => State.shedLayer_kept _ _ _ _)]
  rw [State.afterShed_kept, State.refuseShed_kept, State.sampleAll_kept, State.admitUnits_kept, State.delayGroups_kept, State.missFences_kept, State.kept_setCmp]

@[simp] theorem State.applyKeeper_kept (l : List Byte) (s : State) : (State.applyKeeper l s).kept = s.kept := by
  simp [State.applyKeeper]

@[simp] theorem State.landKeeper_kept (i : Item) (m : Nat) (s : State) : (State.landKeeper i m s).kept = s.kept := by
  unfold State.landKeeper
  (repeat' split) <;> simp

@[simp] theorem State.openWindow_kept (s : State) : (State.openWindow s).kept = s.kept := by
  simp [State.openWindow]

@[simp] theorem State.forceRegs_kept (s : State) : (State.forceRegs s).kept = s.kept := by
  simp [State.forceRegs]

@[simp] theorem State.landOne_kept (m : Nat) (i : Item) (s : State) : (State.landOne m i s).kept = s.kept := by
  simp [State.landOne]

@[simp] theorem State.landAll_kept (m : Nat) (s : State) : (State.landAll m s).kept = s.kept := by
  simp [State.landAll]

@[simp] theorem State.resendAll_kept (s : State) : (State.resendAll s).kept = s.kept := by
  simp [State.resendAll]

@[simp] theorem State.settleRefs_kept (old : Setup) (s : State) : (State.settleRefs old s).kept = s.kept := by
  simp [State.settleRefs]

@[simp] theorem State.openQuires_kept (s : State) : (State.openQuires s).kept = s.kept := by
  simp [State.openQuires]

@[simp] theorem State.setLevel_kept (s : State) : (State.setLevel s).kept = s.kept := by
  simp [State.setLevel]

@[simp] theorem State.lampStart_kept (s : State) : (State.lampStart s).kept = s.kept := by
  simp [State.lampStart]

@[simp] theorem State.commit_kept (s : State) : (State.commit s).kept = s.kept := by
  simp [State.commit]

@[simp] theorem State.dropJob_kept (e t : Nat) (s : State) : (State.dropJob e t s).kept = s.kept := by
  simp [State.dropJob]

@[simp] theorem State.setTile_kept (t : Nat) (x : Tile) (s : State) : (State.setTile t x s).kept = s.kept := by
  simp [State.setTile]

@[simp] theorem State.landSide_kept (g : Nat) (s : State) : (State.landSide g s).kept = s.kept := by
  simp [State.landSide]

@[simp] theorem State.finishTile_kept (e : Nat) (j : Job) (s : State) : (State.finishTile e j s).kept = s.kept := by
  unfold State.finishTile
  dsimp only
  (repeat' (first | with_reducible rfl | split)) <;> simp

@[simp] theorem State.markHeld_kept (ks : List Nat) (s : State) : (State.markHeld ks s).kept = s.kept := by
  simp [State.markHeld]

@[simp] theorem State.heldAges_kept (ks : List Nat) (s : State) : (State.heldAges ks s).kept = s.kept := by
  simp [State.heldAges]

@[simp] theorem State.reportHeld_kept (held : List Job) (s : State) : (State.reportHeld held s).kept = s.kept := by
  simp [State.reportHeld]

@[simp] theorem State.cutPress_kept (s : State) : (State.cutPress s).kept = s.kept := by
  simp [State.cutPress]

@[simp] theorem State.traceFailed_kept (q : Nat) (s : State) : (State.traceFailed q s).kept = s.kept := by
  simp [State.traceFailed]

@[simp] theorem State.deliverQuire_kept (s : State) (d : Delivery) : (State.deliverQuire s d).kept = s.kept := by
  simp [State.deliverQuire]

@[simp] theorem State.endScene_kept (bad : List Nat) (i : Item) (s : State) : (State.endScene bad i s).kept = s.kept := by
  simp [State.endScene]

@[simp] theorem State.endScenes_kept (s : State) : (State.endScenes s).kept = s.kept := by
  simp [State.endScenes]

@[simp] theorem State.endUnits_kept (s : State) : (State.endUnits s).kept = s.kept := by
  simp [State.endUnits]

@[simp] theorem State.endDims_kept (s : State) : (State.endDims s).kept = s.kept := by
  simp [State.endDims]

@[simp] theorem State.endJoins_kept (s : State) : (State.endJoins s).kept = s.kept := by
  simp [State.endJoins]

@[simp] theorem State.noteDrive_kept (k : Nat) (s : State) : (State.noteDrive k s).kept = s.kept := by
  simp [State.noteDrive]

@[simp] theorem State.closeLeaves_kept (s : State) : (State.closeLeaves s).kept = s.kept := by
  simp [State.closeLeaves]

@[simp] theorem State.freezeCheck_kept (k : Nat) (s : State) : (State.freezeCheck k s).kept = s.kept := by
  simp [State.freezeCheck]

@[simp] theorem State.freezeChecks_kept (s : State) : (State.freezeChecks s).kept = s.kept := by
  simp [State.freezeChecks]

@[simp] theorem State.cutDelivery_kept (s : State) : (State.cutDelivery s).kept = s.kept := by
  simp [State.cutDelivery]

@[simp] theorem State.advance_kept (s : State) : (State.advance s).kept = s.kept := by
  unfold State.advance
  (repeat' split) <;> simp

@[simp] theorem State.foldJoins_kept (s : State) : (State.foldJoins s).kept = s.kept := by
  simp [State.foldJoins]

@[simp] theorem State.holdRest_kept (s : State) : (State.holdRest s).kept = s.kept := by
  simp [State.holdRest]

@[simp] theorem State.freeLayers_kept (s : State) : (State.freeLayers s).kept = s.kept := by
  simp [State.freeLayers]

@[simp] theorem State.releasePages_kept (m : Nat) (s : State) : (State.releasePages m s).kept = s.kept := by
  simp [State.releasePages]

@[simp] theorem State.keepShown_kept (s : State) : (State.keepShown s).kept = s.kept := by
  simp [State.keepShown]

@[simp] theorem State.endCounts_kept (s : State) : (State.endCounts s).kept = s.kept := by
  simp [State.endCounts]

@[simp] theorem State.endWindow_kept (s : State) : (State.endWindow s).kept = s.kept := by
  simp [State.endWindow]

@[simp] theorem State.clearStop_kept (s : State) : (State.clearStop s).kept = s.kept := by
  simp [State.clearStop]

@[simp] theorem State.tick_kept (s : State) : (State.tick s).kept = s.kept := by
  simp [State.tick]

@[simp] theorem State.missProof_kept (imp : Nat) (h : Option Hdr) (k : Nat) (s : State) : (State.missProof imp h k s).kept = s.kept := by
  unfold State.missProof
  dsimp only
  split
  · rfl
  · split <;> simp

@[simp] theorem State.showGroup_kept (g : RecGroup) (missing : Nat) (s : State) : (State.showGroup g missing s).kept = s.kept := by
  simp [State.showGroup]

@[simp] theorem State.writeGroup_kept (g : RecGroup) (s : State) : (State.writeGroup g s).kept = s.kept := by
  simp [State.writeGroup]

end Sys2Proof.Machine
end

