-- ==== Sys2Proof/Laws/KeptUnits.lean ====
section
/-! SUPPORT. Frame lemmas: State.kept is left alone by the operations of the lanes, time, memory, supply, calibration, update, start-up and registers, but for the resets, the owner key fuses and the Frisket key lock, whose lemmas say what they keep. -/

namespace Sys2Proof.Machine

open Sys2Proof

@[simp] theorem State.writeQuad_kept (q : Nat) (v : Word) (s : State) : (State.writeQuad q v s).kept = s.kept := by
  simp [State.writeQuad]

@[simp] theorem State.endSession_kept (q : Nat) (s : State) : (State.endSession q s).kept = s.kept := by
  unfold State.endSession
  (repeat' (first | with_reducible rfl | split)) <;> simp

@[simp] theorem State.stopQuire_kept (q : Nat) (s : State) : (State.stopQuire q s).kept = s.kept := by
  simp [State.stopQuire]

@[simp] theorem State.startQuire_kept (q a b : Nat) (s : State) : (State.startQuire q a b s).kept = s.kept := by
  simp [State.startQuire]

@[simp] theorem State.writeQuire_kept (q : Nat) (v : Word) (s : State) : (State.writeQuire q v s).kept = s.kept := by
  simp [State.writeQuire]

@[simp] theorem State.writeEq_kept (r : Nat) (v : Word) (s : State) : (State.writeEq r v s).kept = s.kept := by
  simp [State.writeEq]

@[simp] theorem State.setLoop_kept (i n : Nat) (s : State) : (State.setLoop i n s).kept = s.kept := by
  simp [State.setLoop]

@[simp] theorem State.restoreLane_kept (i : Nat) (s : State) : (State.restoreLane i s).kept = s.kept := by
  simp [State.restoreLane]

@[simp] theorem State.writeLane_kept (i : Nat) (v : Word) (s : State) : (State.writeLane i v s).kept = s.kept := by
  simp [State.writeLane]

@[simp] theorem State.reportLoss_kept (i : Nat) (s : State) : (State.reportLoss i s).kept = s.kept := by
  simp [State.reportLoss]

@[simp] theorem State.bothDown_kept (q : Nat) (s : State) : (State.bothDown q s).kept = s.kept := by
  simp [State.bothDown]

@[simp] theorem State.substitute_kept (w func q : Nat) (s : State) : (State.substitute w func q s).kept = s.kept := by
  simp [State.substitute]

@[simp] theorem State.retireLane_kept (i : Nat) (s : State) : (State.retireLane i s).kept = s.kept := by
  simp [State.retireLane]

@[simp] theorem State.laneWorn_kept (i : Nat) (s : State) : (State.laneWorn i s).kept = s.kept := by
  simp [State.laneWorn]

@[simp] theorem State.transient_kept (i t0 t1 : Nat) (s : State) : (State.transient i t0 t1 s).kept = s.kept := by
  simp [State.transient]

@[simp] theorem State.laneUp_kept (i : Nat) (s : State) : (State.laneUp i s).kept = s.kept := by
  simp [State.laneUp]

@[simp] theorem State.laneLoss_kept (i : Nat) (s : State) : (State.laneLoss i s).kept = s.kept := by
  simp [State.laneLoss]

@[simp] theorem State.judgeLow_kept (i : Nat) (s : State) : (State.judgeLow i s).kept = s.kept := by
  simp [State.judgeLow]

@[simp] theorem State.judgeWear_kept (i : Nat) (was : Option Nat) (s : State) : (State.judgeWear i was s).kept = s.kept := by
  unfold State.judgeWear
  (repeat' split) <;> simp

@[simp] theorem State.received_kept (i : Nat) (s : State) : (State.received i s).kept = s.kept := by
  unfold State.received
  (repeat' (first | with_reducible rfl | split)) <;> simp

@[simp] theorem State.fromHoldover_kept (port : Nat) (s : State) : (State.fromHoldover port s).kept = s.kept := by
  simp [State.fromHoldover]

@[simp] theorem State.takeMaster_kept (new : Option Master) (s : State) : (State.takeMaster new s).kept = s.kept := by
  unfold State.takeMaster
  dsimp only
  (repeat' (first | with_reducible rfl | split)) <;> simp

@[simp] theorem State.showMaster_kept (s : State) : (State.showMaster s).kept = s.kept := by
  unfold State.showMaster
  (repeat' split) <;> simp

@[simp] theorem State.reselectMaster_kept (s : State) : (State.reselectMaster s).kept = s.kept := by
  simp [State.reselectMaster]

@[simp] theorem State.judgeMasters_kept (s : State) : (State.judgeMasters s).kept = s.kept := by
  unfold State.judgeMasters
  (repeat' (first | with_reducible rfl | split)) <;> simp

@[simp] theorem State.noteReady_kept (s : State) : (State.noteReady s).kept = s.kept := by
  simp [State.noteReady]

@[simp] theorem State.setTime_kept (t : Nat) (rate : Int) (v : Servo) (s : State) : (State.setTime t rate v s).kept = s.kept := by
  simp [State.setTime]

@[simp] theorem State.singleStep_kept (off : Int) (s : State) : (State.singleStep off s).kept = s.kept := by
  simp [State.singleStep]

@[simp] theorem State.follow_kept (s : State) : (State.follow s).kept = s.kept := by
  simp [State.follow]

@[simp] theorem State.exchange_kept (origin : Nat) (arrival : Int) (s : State) : (State.exchange origin arrival s).kept = s.kept := by
  unfold State.exchange
  dsimp only
  (repeat' (first | with_reducible rfl | split)) <;> simp

@[simp] theorem State.armDelayReq_kept (s : State) : (State.armDelayReq s).kept = s.kept := by
  simp [State.armDelayReq]

@[simp] theorem State.writeSnap_kept (v : Word) (s : State) : (State.writeSnap v s).kept = s.kept := by
  simp [State.writeSnap]

@[simp] theorem State.writeSetNs_kept (v : Word) (s : State) : (State.writeSetNs v s).kept = s.kept := by
  simp [State.writeSetNs]

@[simp] theorem State.writePCommit_kept (v : Word) (s : State) : (State.writePCommit v s).kept = s.kept := by
  unfold State.writePCommit
  dsimp only
  (repeat' (first | with_reducible rfl | split)) <;> simp

@[simp] theorem State.sendTime_kept (q d : Nat) (s : State) : (State.sendTime q d s).kept = s.kept := by
  simp [State.sendTime]

@[simp] theorem State.showRing_kept (i : Nat) (s : State) : (State.showRing i s).kept = s.kept := by
  unfold State.showRing
  dsimp only
  (repeat' (first | with_reducible rfl | split)) <;> simp

@[simp] theorem State.freeRun_kept (s : State) : (State.freeRun s).kept = s.kept := by
  simp [State.freeRun]

@[simp] theorem State.reselectRef_kept (s : State) : (State.reselectRef s).kept = s.kept := by
  simp [State.reselectRef]

@[simp] theorem State.judgeCand_kept (c : Nat) (f : Cand → Cand) (s : State) : (State.judgeCand c f s).kept = s.kept := by
  simp [State.judgeCand]

@[simp] theorem State.qlError_kept (i : Nat) (s : State) : (State.qlError i s).kept = s.kept := by
  simp [State.qlError]

@[simp] theorem State.holdTraining_kept (s : State) : (State.holdTraining s).kept = s.kept := by
  simp [State.holdTraining]

@[simp] theorem State.degradePc_kept (p : Nat) (s : State) : (State.degradePc p s).kept = s.kept := by
  simp [State.degradePc]

@[simp] theorem State.retirePc_kept (p : Nat) (s : State) : (State.retirePc p s).kept = s.kept := by
  simp [State.retirePc]

@[simp] theorem State.loseTable_kept (a : Nat) (s : State) : (State.loseTable a s).kept = s.kept := by
  simp [State.loseTable]

@[simp] theorem State.migrateOne_kept (p : Nat) (r : List Nat × Bool × State) (a : Alloc) : (State.migrateOne p r a).2.2.kept = r.2.2.kept := by
  unfold State.migrateOne
  dsimp only
  (repeat' split) <;> simp

@[simp] theorem State.writePcCtrl_kept (v : Word) (s : State) : (State.writePcCtrl v s).kept = s.kept := by
  simp [State.writePcCtrl]

@[simp] theorem State.repairRow_kept (p bank row : Nat) (s : State) : (State.repairRow p bank row s).kept = s.kept := by
  simp [State.repairRow]

@[simp] theorem State.testRows_kept (p : Nat) (rows : List (Nat × Nat)) (s : State) : (State.testRows p rows s).2.kept = s.kept := by
  have h : ∀ (l : List (Nat × Nat)) (r : Bool × State),
      (l.foldl (fun r e => if (r.2.pc p).used e.1 < 2 then (r.1, r.2.repairRow p e.1 e.2) else (true, r.2)) r).2.kept = r.2.kept := by
    intro l
    induction l with
    | nil => intro r; rfl
    | cons e t ih =>
      intro r
      rw [List.foldl_cons, ih]
      split <;> simp
  exact h rows (false, s)

@[simp] theorem State.rowFault_kept (p bank row : Nat) (ue repair : Bool) (s : State) : (State.rowFault p bank row ue repair s).kept = s.kept := by
  simp [State.rowFault]

@[simp] theorem State.correctedErr_kept (a : DramAddr) (check : Bool) (syn : Nat) (s : State) : (State.correctedErr a check syn s).kept = s.kept := by
  simp [State.correctedErr]

@[simp] theorem State.uncorrectedErr_kept (a : DramAddr) (syn : Nat) (s : State) : (State.uncorrectedErr a syn s).kept = s.kept := by
  simp [State.uncorrectedErr]

@[simp] theorem State.loseBlock_kept (key ver block : Nat) (s : State) : (State.loseBlock key ver block s).kept = s.kept := by
  simp [State.loseBlock]

@[simp] theorem State.loseFrameLine_kept (k : Nat) (ts : Word) (line : Nat) (s : State) : (State.loseFrameLine k ts line s).kept = s.kept := by
  simp [State.loseFrameLine]

@[simp] theorem State.loseStaged_kept (k sl gen : Nat) (s : State) : (State.loseStaged k sl gen s).kept = s.kept := by
  unfold State.loseStaged
  (repeat' split) <;> simp

@[simp] theorem State.restartUnit_kept (k : Nat) (s : State) : (State.restartUnit k s).kept = s.kept := by
  unfold State.restartUnit
  (repeat' (first | with_reducible rfl | split)) <;> simp

@[simp] theorem State.tellOwner_kept (o : DramOwner) (twinOk : Bool) (s : State) : (State.tellOwner o twinOk s).kept = s.kept := by
  unfold State.tellOwner
  (repeat' split) <;> simp

@[simp] theorem State.readWord_kept (a : DramAddr) (e : EccSeen) (o : DramOwner) (twinOk : Bool) (cls : Nat) (s : State) : (State.readWord a e o twinOk cls s).kept = s.kept := by
  unfold State.readWord
  (repeat' split) <;> simp

@[simp] theorem State.activateLedger_kept (pc bank row thr : Nat) (s : State) : (State.activateLedger pc bank row thr s).kept = s.kept := by
  simp [State.activateLedger]

@[simp] theorem State.activateThrottle_kept (pc bank row thr : Nat) (s : State) : (State.activateThrottle pc bank row thr s).kept = s.kept := by
  simp [State.activateThrottle]

theorem State.restart_core (s : State) : s.restart.core = s.core := rfl

theorem State.powerFail_core (s : State) : s.powerFail.core = s.core := rfl

@[simp] theorem State.noteTr_kept (s : State) : (State.noteTr s).kept = s.kept := by
  simp [State.noteTr]

@[simp] theorem State.retain_kept (old s : State) : (State.retain old s).kept = s.kept := by
  simp [State.retain]

theorem State.moduleReset_core (cause : Nat) (s : State) : (s.moduleReset cause).core = s.core := by
  unfold State.moduleReset
  dsimp only
  refine (core_of_kept (State.noteTr_kept _)).trans ?_
  split
  · exact (core_of_kept (State.retain_kept _ _)).trans rfl
  · rfl

@[simp] theorem State.darkLeaf_kept (k : Nat) (s : State) : (State.darkLeaf k s).kept = s.kept := by
  simp [State.darkLeaf]

@[simp] theorem State.darkAll_kept (s : State) : (State.darkAll s).kept = s.kept := by
  simp [State.darkAll]

@[simp] theorem State.rails_kept (on : Bool) (s : State) : (State.rails on s).kept = s.kept := by
  simp [State.rails]

@[simp] theorem State.preShutdown_kept (x : Src) (s : State) : (State.preShutdown x s).kept = s.kept := by
  simp [State.preShutdown]

@[simp] theorem State.trigger_kept (x : Src) (cause : Nat) (s : State) : (State.trigger x cause s).kept = s.kept := by
  simp [State.trigger]

@[simp] theorem State.endAtStop_kept (i : Item) (s : State) : (State.endAtStop i s).kept = s.kept := by
  simp [State.endAtStop]

@[simp] theorem State.endItems_kept (s : State) : (State.endItems s).kept = s.kept := by
  simp [State.endItems]

@[simp] theorem State.endCmds_kept (k : Nat) (s : State) : (State.endCmds k s).kept = s.kept := by
  simp [State.endCmds]

@[simp] theorem State.closeWindow_kept (s : State) : (State.closeWindow s).kept = s.kept := by
  simp [State.closeWindow]

@[simp] theorem State.writeGroups_kept (s : State) : (State.writeGroups s).kept = s.kept := by
  simp [State.writeGroups]

@[simp] theorem State.releaseStores_kept (s : State) : (State.releaseStores s).kept = s.kept := by
  simp [State.releaseStores]

@[simp] theorem State.stopLanes_kept (s : State) : (State.stopLanes s).kept = s.kept := by
  simp [State.stopLanes]

@[simp] theorem State.endStop_kept (s : State) : (State.endStop s).kept = s.kept := by
  simp [State.endStop]

@[simp] theorem State.writeThpCmd_kept (v : Word) (s : State) : (State.writeThpCmd v s).kept = s.kept := by
  simp [State.writeThpCmd]

@[simp] theorem State.discardDram_kept (s : State) : (State.discardDram s).kept = s.kept := by
  simp [State.discardDram]

@[simp] theorem State.trainAll_kept (s : State) : (State.trainAll s).kept = s.kept := by
  simp [State.trainAll]

@[simp] theorem State.restartLanes_kept (s : State) : (State.restartLanes s).kept = s.kept := by
  simp [State.restartLanes]

@[simp] theorem State.resumed_kept (trained auxLost : Bool) (s : State) : (State.resumed trained auxLost s).kept = s.kept := by
  simp [State.resumed]

@[simp] theorem State.failActivation_kept (det : Nat) (s : State) : (State.failActivation det s).kept = s.kept := by
  unfold State.failActivation
  (repeat' split) <;> simp

@[simp] theorem State.inhibitCheck_kept (s : State) : (State.inhibitCheck s).kept = s.kept := by
  simp [State.inhibitCheck]

@[simp] theorem State.takeReading_kept (k : Nat) (t : Int) (s : State) : (State.takeReading k t s).kept = s.kept := by
  simp [State.takeReading]

@[simp] theorem State.judgeWarn_kept (e : Nat × Int) (s : State) : (State.judgeWarn e s).kept = s.kept := by
  simp [State.judgeWarn]

@[simp] theorem State.judgeThrottle_kept (e : Nat × Int) (s : State) : (State.judgeThrottle e s).kept = s.kept := by
  simp [State.judgeThrottle]

@[simp] theorem State.judgeShut_kept (e : Nat × Int) (s : State) : (State.judgeShut e s).kept = s.kept := by
  simp [State.judgeShut]

@[simp] theorem State.judgeHot_kept (s : State) : (State.judgeHot s).kept = s.kept := by
  simp [State.judgeHot]

@[simp] theorem State.judgeTemp_kept (s : State) : (State.judgeTemp s).kept = s.kept := by
  unfold State.judgeTemp
  (repeat' split) <;> simp

@[simp] theorem State.judgeSupply_kept (v : Nat) (s : State) : (State.judgeSupply v s).kept = s.kept := by
  simp [State.judgeSupply]

@[simp] theorem State.judgeFail_kept (v : Nat) (s : State) : (State.judgeFail v s).kept = s.kept := by
  simp [State.judgeFail]

@[simp] theorem State.writeCalCmd_kept (v : Word) (uv : Nat) (s : State) : (State.writeCalCmd v uv s).kept = s.kept := by
  simp [State.writeCalCmd]

@[simp] theorem State.writeCalRef_kept (v : Word) (s : State) : (State.writeCalRef v s).kept = s.kept := by
  simp [State.writeCalRef]

@[simp] theorem State.writeSensTrim_kept (v : Word) (s : State) : (State.writeSensTrim v s).kept = s.kept := by
  simp [State.writeSensTrim]

@[simp] theorem State.writeLaneUse_kept (half : Nat) (v : Word) (s : State) : (State.writeLaneUse half v s).kept = s.kept := by
  simp [State.writeLaneUse]

@[simp] theorem State.applyElectrical_kept (l : List (Nat × List Byte)) (s : State) : (State.applyElectrical l s).kept = s.kept := by
  unfold State.applyElectrical
  (repeat' split) <;> simp

@[simp] theorem State.applyStarts_kept (l : List (Nat × List Byte)) (s : State) : (State.applyStarts l s).kept = s.kept := by
  unfold State.applyStarts
  (repeat' split) <;> simp

@[simp] theorem State.stagedRestore_kept (i : Item) (buf : List Byte) (s : State) : (State.stagedRestore i buf s).kept = s.kept := by
  unfold State.stagedRestore
  (repeat' split) <;> simp

@[simp] theorem State.sramRetry_kept (u : SramUser) (s : State) : (State.sramRetry u s).kept = s.kept := by
  unfold State.sramRetry
  (repeat' split) <;> simp

@[simp] theorem State.spareMacro_kept (n row : Nat) (s : State) : (State.spareMacro n row s).kept = s.kept := by
  simp [State.spareMacro]

@[simp] theorem State.spareIf_kept (n row : Nat) (s : State) : (State.spareIf n row s).kept = s.kept := by
  simp [State.spareIf]

@[simp] theorem State.writeUnitCtrl_kept (v : Word) (s : State) : (State.writeUnitCtrl v s).kept = s.kept := by
  simp [State.writeUnitCtrl]

@[simp] theorem State.entered_kept (k for_ wait : Nat) (s : State) : (State.entered k for_ wait s).kept = s.kept := by
  simp [State.entered]

@[simp] theorem State.failedIn_kept (k : Nat) (s : State) : (State.failedIn k s).kept = s.kept := by
  simp [State.failedIn]

@[simp] theorem State.placeBlock_kept (i : Item) (buf : List Byte) (g : Staged) (s : State) : (State.placeBlock i buf g s).kept = s.kept := by
  simp [State.placeBlock]

@[simp] theorem State.discardStaged_kept (s : State) : (State.discardStaged s).kept = s.kept := by
  unfold State.discardStaged
  (repeat' (first | with_reducible rfl | split)) <;> simp

@[simp] theorem State.stagedBlock_kept (i : Item) (buf : List Byte) (s : State) : (State.stagedBlock i buf s).kept = s.kept := by
  unfold State.stagedBlock
  dsimp only
  split
  · simp
  · split
    · split
      · simp
      · rename_i e
        simpa using State.alloc_kept _ _ _ _ e
    · split
      · simp
      · split <;> simp

theorem Upd.setOther_owner (b : Bank) (u : Upd) : (u.setOther b).owner = u.owner := by
  unfold Upd.setOther
  split <;> rfl

@[simp] theorem State.startActivation_kept (i : Item) (g : Staged) (s : State) : (s.startActivation i g).kept = s.kept := by
  unfold State.startActivation
  dsimp only
  refine (State.phase_kept _ _ _).trans (kept_setUpd ?_)
  dsimp only
  split
  · rfl
  · exact Upd.setOther_owner _ _

@[simp] theorem State.commitBank_kept (id : Nat) (s : State) : (State.commitBank id s).kept = s.kept := by
  exact (State.done_kept _ _ _ _).trans (kept_setUpd (Upd.setOther_owner _ _))

@[simp] theorem State.tryCommit_kept (id : Nat) (s : State) : (State.tryCommit id s).kept = s.kept := by
  simp [State.tryCommit]

theorem Upd.setRunning_owner (b : Bank) (u : Upd) : (u.setRunning b).owner = u.owner := by
  unfold Upd.setRunning
  split <;> rfl

@[simp] theorem State.confirmBank_kept (s : State) : s.confirmBank.kept = s.kept := kept_setUpd (Upd.setRunning_owner _ _)

@[simp] theorem State.proveImage_kept (s : State) : (State.proveImage s).kept = s.kept := by
  unfold State.proveImage
  (repeat' (first | with_reducible rfl | split)) <;> simp

@[simp] theorem State.ownerFail_kept (s : State) : (State.ownerFail s).kept = s.kept := by
  simp [State.ownerFail]

@[simp] theorem State.lockOwner_kept (s : State) : (State.lockOwner s).kept = s.kept := by
  unfold State.lockOwner State.ownerFail
  split <;> rfl

theorem State.programOwner_grows (s : State) : s.grows s.programOwner := by
  unfold State.programOwner State.ownerFail
  split
  · refine ⟨rfl, rfl, fun h e => ?_⟩
    rename_i c
    simp [e] at c
  · exact ⟨rfl, rfl, fun _ e => e⟩

theorem State.programOwner_keepsKey (s : State) : s.keepsKey s.programOwner := by
  unfold State.programOwner State.ownerFail
  split <;> exact fun h => ⟨h, rfl⟩

theorem State.clearOwnerErr_kept (s : State) : ({ s with upd := { s.upd with ownerErr := false } } : State).kept = s.kept := rfl

theorem State.writeOwnerCmd_grows (v : Word) (s : State) : s.grows (s.writeOwnerCmd v) := by
  unfold State.writeOwnerCmd
  refine grows_trans (grows_of_kept (State.clearOwnerErr_kept s)) ?_
  dsimp only
  split <;> split <;>
    first
    | exact grows_trans (State.programOwner_grows _) (grows_of_kept (State.lockOwner_kept _))
    | exact grows_of_kept (State.lockOwner_kept _)
    | exact State.programOwner_grows _
    | exact grows_of_kept rfl

theorem State.writeOwnerCmd_keepsKey (v : Word) (s : State) : s.keepsKey (s.writeOwnerCmd v) := by
  unfold State.writeOwnerCmd
  refine keepsKey_trans (keepsKey_of_kept (State.clearOwnerErr_kept s)) ?_
  dsimp only
  split <;> split <;>
    first
    | exact keepsKey_trans (State.programOwner_keepsKey _) (keepsKey_of_kept (State.lockOwner_kept _))
    | exact keepsKey_of_kept (State.lockOwner_kept _)
    | exact State.programOwner_keepsKey _
    | exact keepsKey_of_kept rfl

@[simp] theorem State.stagedToken_kept (i : Item) (t : List Byte) (s : State) : (State.stagedToken i t s).kept = s.kept := by
  unfold State.stagedToken
  dsimp only
  (repeat' (first | with_reducible rfl | split)) <;> simp

@[simp] theorem State.readNonce_kept (s : State) : (State.readNonce s).kept = s.kept := by
  simp [State.readNonce]

@[simp] theorem State.applyRecord_kept (s : State) : (State.applyRecord s).kept = s.kept := by
  simp [State.applyRecord]

@[simp] theorem State.tellFallback_kept (reason : Nat) (s : State) : (State.tellFallback reason s).kept = s.kept := by
  simp [State.tellFallback]

theorem Upd.pick_owner (u : Upd) (w : Bool) : (u.pick w).2.2.owner = u.owner := by
  unfold Upd.pick
  dsimp only
  (repeat' split) <;> rfl

theorem Upd.boot_owner (u : Upd) (w : Bool) (f : Nat) (r : Bool × Nat × Upd) (h : u.boot w f = some r) : r.2.2.owner = u.owner := by
  have k := Upd.pick_owner u w
  unfold Upd.boot at h
  dsimp only at h
  (repeat' split at h) <;> cases h <;> first | rfl | exact k

@[simp] theorem State.bootBank_kept (st : Straps) (s : State) : (State.bootBank st s).kept = s.kept := by
  unfold State.bootBank
  split
  · rfl
  · rename_i b r u e
    have k : u.owner = s.upd.owner := Upd.boot_owner _ _ _ _ e
    refine (State.aliveSync_kept _).trans ((State.tellFallback_kept _ _).trans ((State.applyRecord_kept _).trans ?_))
    simp only [State.kept, k]

@[simp] theorem State.boot_kept (st : Straps) (s : State) : (State.boot st s).kept = s.kept := by
  simp [State.boot]

@[simp] theorem State.failPc_kept (p : Nat) (s : State) : (State.failPc p s).kept = s.kept := by
  simp [State.failPc]

@[simp] theorem State.hardenRepairs_kept (s : State) : (State.hardenRepairs s).kept = s.kept := by
  simp [State.hardenRepairs]

@[simp] theorem State.reserveOwn_kept (s : State) : (State.reserveOwn s).kept = s.kept := by
  unfold State.reserveOwn
  split
  · rfl
  · split
    · rfl
    · rename_i e
      exact State.alloc_kept _ _ _ _ e

@[simp] theorem State.trainStage_kept (failed : List Nat) (rows : List (Nat × Nat × Nat)) (s : State) : (State.trainStage failed rows s).kept = s.kept := by
  unfold State.trainStage
  split
  · simp
  · dsimp only
    rw [State.reserveOwn_kept, State.kept_mk, State.kept_eta, foldl_kept _ fun s p => ?_, State.hardenRepairs_kept, foldl_kept _ fun s p => ?_, State.trainAll_kept]
    · split <;> simp
    · (repeat' split) <;> simp

@[simp] theorem State.setReady_kept (s : State) : (State.setReady s).kept = s.kept := by
  simp [State.setReady]

@[simp] theorem State.laneStage_kept (s : State) : (State.laneStage s).kept = s.kept := by
  simp [State.laneStage]

@[simp] theorem State.refuseStaged_kept (i : Item) (st : Status) (det : Nat) (s : State) : (State.refuseStaged i st det s).kept = s.kept := by
  simp [State.refuseStaged]

@[simp] theorem State.keepBuf_kept (i : Item) (buf : List Byte) (p : Phase) (s : State) : (State.keepBuf i buf p s).kept = s.kept := by
  simp [State.keepBuf]

@[simp] theorem State.staged_kept (i : Item) (buf : List Byte) (s : State) : (State.staged i buf s).kept = s.kept := by
  simp [State.staged]

@[simp] theorem State.bufferRead_kept (i : Item) (data : Option (List Byte)) (s : State) : (State.bufferRead i data s).kept = s.kept := by
  unfold State.bufferRead
  dsimp only
  (repeat' (first | with_reducible rfl | split)) <;> simp

theorem State.writeFkeyCtrl_grows (v : Word) (s : State) : s.grows (s.writeFkeyCtrl v) := by
  unfold State.writeFkeyCtrl
  (repeat' split) <;> exact ⟨rfl, rfl, fun _ e => e⟩

theorem State.writeFkeyCtrl_keepsKey (v : Word) (s : State) : s.keepsKey (s.writeFkeyCtrl v) := by
  unfold State.writeFkeyCtrl
  (repeat' split) <;> intro h
  · exact ⟨h, rfl⟩
  · rename_i c _
    simp [h] at c
  · exact ⟨h, rfl⟩

theorem State.writeHif_grows (off : Nat) (v : Word) (s : State) : s.grows (State.writeHif off v s) := by
  unfold State.writeHif
  dsimp only
  (repeat' split) <;> first | exact State.writeFkeyCtrl_grows _ _ | exact grows_of_kept (by simp)

theorem State.writeHif_keepsKey (off : Nat) (v : Word) (s : State) : s.keepsKey (State.writeHif off v s) := by
  unfold State.writeHif
  dsimp only
  (repeat' split) <;> first | exact State.writeFkeyCtrl_keepsKey _ _ | exact keepsKey_of_kept (by simp)

@[simp] theorem State.writeIng_kept (off : Nat) (v : Word) (s : State) : (State.writeIng off v s).kept = s.kept := by
  simp [State.writeIng]

@[simp] theorem State.writeCmp_kept (off : Nat) (v : Word) (s : State) : (State.writeCmp off v s).kept = s.kept := by
  simp [State.writeCmp]

@[simp] theorem State.writeLmp_kept (off : Nat) (v : Word) (s : State) : (State.writeLmp off v s).kept = s.kept := by
  simp [State.writeLmp]

@[simp] theorem State.writeImp_kept (off : Nat) (v : Word) (s : State) : (State.writeImp off v s).kept = s.kept := by
  simp [State.writeImp]

@[simp] theorem State.writeLnq_kept (off : Nat) (v : Word) (s : State) : (State.writeLnq off v s).kept = s.kept := by
  simp [State.writeLnq]

@[simp] theorem State.writeQpr_kept (off : Nat) (v : Word) (s : State) : (State.writeQpr off v s).kept = s.kept := by
  simp [State.writeQpr]

@[simp] theorem State.writeTim_kept (off : Nat) (v : Word) (s : State) : (State.writeTim off v s).kept = s.kept := by
  simp [State.writeTim]

@[simp] theorem State.writeFlt_kept (off : Nat) (v : Word) (s : State) : (State.writeFlt off v s).kept = s.kept := by
  unfold State.writeFlt
  (repeat' split) <;> simp

@[simp] theorem State.writeRefRun_kept (v : Word) (s : State) : (State.writeRefRun v s).kept = s.kept := by
  simp [State.writeRefRun]

@[simp] theorem State.writeCal_kept (off : Nat) (v : Word) (s : State) : (State.writeCal off v s).kept = s.kept := by
  simp [State.writeCal]

theorem State.writeUpd_grows (off : Nat) (v : Word) (s : State) : s.grows (State.writeUpd off v s) := by
  unfold State.writeUpd
  (repeat' split) <;> first | exact State.writeOwnerCmd_grows _ _ | exact grows_of_kept (by simp)

theorem State.writeUpd_keepsKey (off : Nat) (v : Word) (s : State) : s.keepsKey (State.writeUpd off v s) := by
  unfold State.writeUpd
  (repeat' split) <;> first | exact State.writeOwnerCmd_keepsKey _ _ | exact keepsKey_of_kept (by simp)

theorem State.writeBlock_grows (off : Nat) (v : Word) (s : State) : s.grows (State.writeBlock off v s) := by
  unfold State.writeBlock
  refine grows_ite ?_ ?_
  · exact State.writeHif_grows _ _ _
  refine grows_ite ?_ ?_
  · exact grows_of_kept (by simp)
  refine grows_ite ?_ ?_
  · exact grows_of_kept (by simp)
  refine grows_ite ?_ ?_
  · exact grows_of_kept (by simp)
  refine grows_ite ?_ ?_
  · exact grows_of_kept (by simp)
  refine grows_ite ?_ ?_
  · exact grows_of_kept (by simp)
  refine grows_ite ?_ ?_
  · exact grows_of_kept (by simp)
  refine grows_ite ?_ ?_
  · exact grows_of_kept (by simp)
  refine grows_ite ?_ ?_
  · exact grows_of_kept (by simp)
  refine grows_ite ?_ ?_
  · exact grows_of_kept rfl
  refine grows_ite ?_ ?_
  · exact grows_of_kept (by split <;> simp)
  refine grows_ite ?_ ?_
  · exact grows_of_kept (by simp)
  refine grows_ite ?_ ?_
  · exact grows_of_kept (by split <;> simp)
  refine grows_ite ?_ ?_
  · exact grows_of_kept (by simp)
  refine grows_ite ?_ ?_
  · exact State.writeUpd_grows _ _ _
  exact grows_of_kept (by simp)

theorem State.writeBlock_keepsKey (off : Nat) (v : Word) (s : State) : s.keepsKey (State.writeBlock off v s) := by
  unfold State.writeBlock
  refine keepsKey_ite ?_ ?_
  · exact State.writeHif_keepsKey _ _ _
  refine keepsKey_ite ?_ ?_
  · exact keepsKey_of_kept (by simp)
  refine keepsKey_ite ?_ ?_
  · exact keepsKey_of_kept (by simp)
  refine keepsKey_ite ?_ ?_
  · exact keepsKey_of_kept (by simp)
  refine keepsKey_ite ?_ ?_
  · exact keepsKey_of_kept (by simp)
  refine keepsKey_ite ?_ ?_
  · exact keepsKey_of_kept (by simp)
  refine keepsKey_ite ?_ ?_
  · exact keepsKey_of_kept (by simp)
  refine keepsKey_ite ?_ ?_
  · exact keepsKey_of_kept (by simp)
  refine keepsKey_ite ?_ ?_
  · exact keepsKey_of_kept (by simp)
  refine keepsKey_ite ?_ ?_
  · exact keepsKey_of_kept rfl
  refine keepsKey_ite ?_ ?_
  · exact keepsKey_of_kept (by split <;> simp)
  refine keepsKey_ite ?_ ?_
  · exact keepsKey_of_kept (by simp)
  refine keepsKey_ite ?_ ?_
  · exact keepsKey_of_kept (by split <;> simp)
  refine keepsKey_ite ?_ ?_
  · exact keepsKey_of_kept (by simp)
  refine keepsKey_ite ?_ ?_
  · exact State.writeUpd_keepsKey _ _ _
  exact keepsKey_of_kept (by simp)

theorem State.writeBar0_grows (off : Nat) (v : Word) (s : State) : s.grows (State.writeBar0 off v s) := by
  unfold State.writeBar0
  (repeat' split) <;> first | exact State.writeBlock_grows _ _ _ | exact grows_of_kept rfl

theorem State.writeBar0_keepsKey (off : Nat) (v : Word) (s : State) : s.keepsKey (State.writeBar0 off v s) := by
  unfold State.writeBar0
  (repeat' split) <;> first | exact State.writeBlock_keepsKey _ _ _ | exact keepsKey_of_kept rfl

@[simp] theorem State.writeBar2_kept (off : Nat) (v : Word) (s : State) : (State.writeBar2 off v s).kept = s.kept := by
  unfold State.writeBar2
  (repeat' (first | with_reducible rfl | split)) <;> simp

@[simp] theorem State.writeCfg_kept (off : Nat) (v : Word) (s : State) : (State.writeCfg off v s).kept = s.kept := by
  unfold State.writeCfg
  (repeat' (first | with_reducible rfl | split)) <;> simp

theorem State.writeAt_grows (off : Nat) (v : Word) (s : State) : s.grows (State.writeAt off v s) := by
  unfold State.writeAt
  (repeat' split) <;> first | exact State.writeBar0_grows _ _ _ | exact grows_of_kept (by simp)

theorem State.writeAt_keepsKey (off : Nat) (v : Word) (s : State) : s.keepsKey (State.writeAt off v s) := by
  unfold State.writeAt
  (repeat' split) <;> first | exact State.writeBar0_keepsKey _ _ _ | exact keepsKey_of_kept (by simp)

@[simp] theorem State.readBar0_kept (off : Nat) (s : State) : (State.readBar0 off s).kept = s.kept := by
  simp [State.readBar0]

end Sys2Proof.Machine
end

