-- ==== Sys2Proof/Laws/Out.lean ====
section
/-! SUPPORT. What leaves the module: nothing sent is ever taken back, an entry written is among what was sent, and a FINAL completion is written or kept. -/

namespace Sys2Proof.Machine

open Sys2Proof

/-- What one state has sent, another has sent. -/
def State.sends (s t : State) : Prop := ∀ o ∈ s.out, o ∈ t.out

theorem sends_refl (s : State) : s.sends s := fun _ h => h
theorem sends_trans {s t u : State} (h : s.sends t) (k : t.sends u) : s.sends u := fun o e => k o (h o e)
theorem sends_of_eq {s t : State} (h : t.out = s.out) : s.sends t := fun o e => by rw [h]; exact e

theorem State.interrupt_sends (v : Nat) (s : State) : s.sends (s.interrupt v) := by
  unfold State.interrupt
  split
  · exact fun _ h => List.mem_cons_of_mem _ h
  · exact fun _ h => h
theorem State.message_sends (k : Nat) (s : State) : s.sends (s.message k) := fun o h => State.interrupt_sends _ s o h
theorem State.signal_sends (k : Nat) (u : Bool) (s : State) : s.sends (s.signal k u) := by
  unfold State.signal
  dsimp only
  split
  · exact State.message_sends k s
  · exact sends_refl s

/-- The state an entry is signalled from. -/
def State.entered_ (k n : Nat) (o : Output) (s : State) : State := (((s.entry k).2.2.emit o).count n 1)

theorem State.entered_out (k n : Nat) (o : Output) (s : State) : (s.entered_ k n o).out = o :: s.out := rfl
theorem State.putCq_eq (c : Nat) (e : Completion) (s : State) :
    s.putCq c e = (s.entered_ (16 + c) (0x020 + c) (.cqEntry c (s.cq (16 + c)).pi (s.cq (16 + c)).phase e)).signal (16 + c) false := rfl
theorem State.putEvq_eq (r : Rec) (u : Bool) (s : State) :
    s.putEvq r u = (s.entered_ 32 0x030 (.evqEntry (s.cq 32).pi (s.cq 32).phase r)).signal 32 u := rfl
theorem State.putTrq_eq (t : Option Trace) (l : Nat) (s : State) :
    s.putTrq t l = (s.entered_ 33 0x031 (.trqEntry (s.cq 33).pi (s.cq 33).phase t l)).signal 33 false := rfl

/-- A completion written is among what was sent. -/
theorem State.putCq_mem (c : Nat) (e : Completion) (s : State) : Output.cqEntry c (s.cq (16 + c)).pi (s.cq (16 + c)).phase e ∈ (s.putCq c e).out := by
  rw [State.putCq_eq]
  exact State.signal_sends _ _ _ _ (List.mem_cons_self ..)
/-- A record written to EVQ is among what was sent. -/
theorem State.putEvq_mem (r : Rec) (u : Bool) (s : State) : Output.evqEntry (s.cq 32).pi (s.cq 32).phase r ∈ (s.putEvq r u).out := by
  rw [State.putEvq_eq]
  exact State.signal_sends _ _ _ _ (List.mem_cons_self ..)
/-- A record written to TRQ is among what was sent. -/
theorem State.putTrq_mem (t : Option Trace) (l : Nat) (s : State) : Output.trqEntry (s.cq 33).pi (s.cq 33).phase t l ∈ (s.putTrq t l).out := by
  rw [State.putTrq_eq]
  exact State.signal_sends _ _ _ _ (List.mem_cons_self ..)

theorem State.putCq_sends (c : Nat) (e : Completion) (s : State) : s.sends (s.putCq c e) := fun o h => by
  rw [State.putCq_eq]
  exact State.signal_sends _ _ _ _ (List.mem_cons_of_mem _ h)
theorem State.putEvq_sends (r : Rec) (u : Bool) (s : State) : s.sends (s.putEvq r u) := fun o h => by
  rw [State.putEvq_eq]
  exact State.signal_sends _ _ _ _ (List.mem_cons_of_mem _ h)
theorem State.putTrq_sends (t : Option Trace) (l : Nat) (s : State) : s.sends (s.putTrq t l) := fun o h => by
  rw [State.putTrq_eq]
  exact State.signal_sends _ _ _ _ (List.mem_cons_of_mem _ h)
theorem State.evqOverflow_sends (s : State) : s.sends s.evqOverflow := by
  unfold State.evqOverflow
  dsimp only
  split
  · exact State.putEvq_sends _ _ _
  · exact sends_refl s
theorem State.foldPut_sends (u : Bool) (rs : List Rec) (s : State) : s.sends (rs.foldl (fun s r => s.putEvq r u) s) := by
  induction rs generalizing s with
  | nil => exact sends_refl s
  | cons r t ih => exact sends_trans (State.putEvq_sends r u s) (ih _)
theorem State.evq_sends (rs : List Rec) (u : Bool) (s : State) : s.sends (s.evq rs u) := by
  unfold State.evq
  dsimp only
  split
  · split <;> exact fun _ h => h
  · split
    · exact sends_trans (State.evqOverflow_sends s) (State.foldPut_sends _ _ _)
    · exact State.evqOverflow_sends s
theorem State.aliveSync_out (s : State) : s.aliveSync.out = s.out := by
  unfold State.aliveSync
  (repeat' split) <;> rfl
/-- Raising a source takes back nothing that was sent. -/
theorem State.raise_sends (x : Src) (i : Nat) (det : List Nat) (c : Bool) (s : State) : s.sends (s.raise x i det c) := by
  obtain ⟨fl, rs, u, e⟩ := State.raiseL_eq x i det c false s
  intro o h
  show o ∈ (s.raiseL x i det c false).2.out
  rw [e, State.aliveSync_out]
  exact State.evq_sends rs u _ o h

/-- A FINAL completion is written or kept (R64, R80, R81). -/
theorem State.writeCpl_told (c : Nat) (e : Completion) (s : State) (hf : e.final = true) : (s.writeCpl c e).told c e := by
  unfold State.writeCpl
  rw [if_pos hf]
  split
  · exact .inl ⟨_, _, State.putCq_mem c e (s.count (0x010 + e.sq) 1)⟩
  · exact .inr (List.mem_append_right _ (List.mem_singleton_self _))

/-- A FINAL completion of an item in flight is written or kept (R64, R78). -/
theorem State.complete_told (id : Nat) (st : Status) (detail imp result : Nat) (unknown : Bool) (s : State) (i : Item) (hi : s.item? id = some i) (hf : st.final = true) :
    (s.complete id st detail imp result unknown).told i.cq (i.completion st detail imp result unknown) := by
  unfold State.complete
  simp only [hi, hf, if_true]
  exact State.writeCpl_told _ _ _ hf

end Sys2Proof.Machine
end

