-- ==== Sys2Proof/Laws/PerInstr.lean ====
section
/-! SUPPORT. One fact for each command as syntax: the time it carries is its own, and its operands are well formed or not whatever that time is. -/

namespace Sys2Proof.Laws.Named

open Sys2Proof

/-- The time of a command is free: it can be any, and does not enter the ranges of its operands. -/
def Statement (i : Instr) : Prop := ∀ n, (i.after n).dt = n ∧ (i.after n).wf = i.wf

theorem layerDefine (dt q : Nat) (desc auth : Slot) : Statement (.layerDefine dt q desc auth) := fun _ => ⟨rfl, rfl⟩
theorem layerUpdate (dt q : Nat) (desc auth : Slot) : Statement (.layerUpdate dt q desc auth) := fun _ => ⟨rfl, rfl⟩
theorem layerRemove (dt q : Nat) (desc auth : Slot) : Statement (.layerRemove dt q desc auth) := fun _ => ⟨rfl, rfl⟩
theorem surfaceWrite (dt q : Nat) (desc auth : Slot) : Statement (.surfaceWrite dt q desc auth) := fun _ => ⟨rfl, rfl⟩
theorem fenceSignal (dt q : Nat) (desc auth : Slot) : Statement (.fenceSignal dt q desc auth) := fun _ => ⟨rfl, rfl⟩
theorem sceneCommit (dt q : Nat) (desc auth : Slot) : Statement (.sceneCommit dt q desc auth) := fun _ => ⟨rfl, rfl⟩
theorem streamAdmit (dt q : Nat) (desc auth : Slot) : Statement (.streamAdmit dt q desc auth) := fun _ => ⟨rfl, rfl⟩
theorem streamRelease (dt q : Nat) (desc auth : Slot) : Statement (.streamRelease dt q desc auth) := fun _ => ⟨rfl, rfl⟩
theorem tableLoad (dt q : Nat) (desc auth : Slot) : Statement (.tableLoad dt q desc auth) := fun _ => ⟨rfl, rfl⟩
theorem tableVerify (dt q : Nat) (desc auth : Slot) : Statement (.tableVerify dt q desc auth) := fun _ => ⟨rfl, rfl⟩
theorem dimSet (dt q : Nat) (desc auth : Slot) : Statement (.dimSet dt q desc auth) := fun _ => ⟨rfl, rfl⟩
theorem colourReference (dt q : Nat) (desc auth : Slot) : Statement (.colourReference dt q desc auth) := fun _ => ⟨rfl, rfl⟩
theorem leafAdmit (dt q : Nat) (desc auth : Slot) : Statement (.leafAdmit dt q desc auth) := fun _ => ⟨rfl, rfl⟩
theorem leafCommand (dt q : Nat) (desc auth : Slot) : Statement (.leafCommand dt q desc auth) := fun _ => ⟨rfl, rfl⟩
theorem quireRebalance (dt q : Nat) (desc auth : Slot) : Statement (.quireRebalance dt q desc auth) := fun _ => ⟨rfl, rfl⟩
theorem leafRetire (dt q : Nat) (desc auth : Slot) : Statement (.leafRetire dt q desc auth) := fun _ => ⟨rfl, rfl⟩
theorem pulseRealign (dt q : Nat) (desc auth : Slot) : Statement (.pulseRealign dt q desc auth) := fun _ => ⟨rfl, rfl⟩
theorem updateBlock (dt q : Nat) (desc auth : Slot) : Statement (.updateBlock dt q desc auth) := fun _ => ⟨rfl, rfl⟩
theorem updateActivate (dt q : Nat) (desc auth : Slot) : Statement (.updateActivate dt q desc auth) := fun _ => ⟨rfl, rfl⟩
theorem faultAck (dt q : Nat) (desc auth : Slot) : Statement (.faultAck dt q desc auth) := fun _ => ⟨rfl, rfl⟩
theorem saveCalibration (dt q : Nat) (desc auth : Slot) : Statement (.saveCalibration dt q desc auth) := fun _ => ⟨rfl, rfl⟩
theorem restoreCalibration (dt q : Nat) (desc auth : Slot) : Statement (.restoreCalibration dt q desc auth) := fun _ => ⟨rfl, rfl⟩
theorem opcodeRefused (dt q : Nat) (desc auth : Slot) : Statement (.opcodeRefused dt q desc auth) := fun _ => ⟨rfl, rfl⟩
theorem sweep (dt : Nat) (page : List Byte) (fences : List (Nat × List Byte)) : Statement (.sweep dt page fences) := fun _ => ⟨rfl, rfl⟩
theorem doorbellStall (dt : Nat) : Statement (.doorbellStall dt) := fun _ => ⟨rfl, rfl⟩
theorem bufferStaged (dt item : Nat) (data : Option (List Byte)) : Statement (.bufferStaged dt item data) := fun _ => ⟨rfl, rfl⟩
theorem holdoffExpiry (dt queue : Nat) : Statement (.holdoffExpiry dt queue) := fun _ => ⟨rfl, rfl⟩
theorem overflowRecordWrite (dt queue : Nat) : Statement (.overflowRecordWrite dt queue) := fun _ => ⟨rfl, rfl⟩
theorem hostLinkLoss (dt : Nat) (cause : LinkLossCause) : Statement (.hostLinkLoss dt cause) := fun _ => ⟨rfl, rfl⟩
theorem hostLinkReturn (dt : Nat) (enables : LinkEnables) : Statement (.hostLinkReturn dt enables) := fun _ => ⟨rfl, rfl⟩
theorem hifEnable (dt : Nat) (v : Word) : Statement (.hifEnable dt v) := fun _ => ⟨rfl, rfl⟩
theorem hifQuiesce (dt : Nat) (v : Word) : Statement (.hifQuiesce dt v) := fun _ => ⟨rfl, rfl⟩
theorem queueEnable (dt queue : Nat) (v : Word) : Statement (.queueEnable dt queue v) := fun _ => ⟨rfl, rfl⟩
theorem windowCommit (dt : Nat) (v : Word) : Statement (.windowCommit dt v) := fun _ => ⟨rfl, rfl⟩
theorem windowCommitApply (dt : Nat) : Statement (.windowCommitApply dt) := fun _ => ⟨rfl, rfl⟩
theorem fkeyLock (dt : Nat) (v : Word) : Statement (.fkeyLock dt v) := fun _ => ⟨rfl, rfl⟩
theorem registerWrite (dt off size : Nat) (v : Word) : Statement (.registerWrite dt off size v) := fun _ => ⟨rfl, rfl⟩
theorem rolRead (dt : Nat) (read : RegRead) : Statement (.rolRead dt read) := fun _ => ⟨rfl, rfl⟩
theorem macEnable (dt m : Nat) (v : Word) : Statement (.macEnable dt m v) := fun _ => ⟨rfl, rfl⟩
theorem portEnable (dt p : Nat) (v : Word) : Statement (.portEnable dt p v) := fun _ => ⟨rfl, rfl⟩
theorem packetReceive (dt p : Nat) (f : EthFrame) : Statement (.packetReceive dt p f) := fun _ => ⟨rfl, rfl⟩
theorem membershipQuery (dt p : Nat) (qy : McQuery) : Statement (.membershipQuery dt p qy) := fun _ => ⟨rfl, rfl⟩
theorem stateChangeReportRepeat (dt p : Nat) : Statement (.stateChangeReportRepeat dt p) := fun _ => ⟨rfl, rfl⟩
theorem joinGraceExpiry (dt stream : Nat) : Statement (.joinGraceExpiry dt stream) := fun _ => ⟨rfl, rfl⟩
theorem streamAbsenceExpiry (dt stream : Nat) : Statement (.streamAbsenceExpiry dt stream) := fun _ => ⟨rfl, rfl⟩
theorem frameHoldExpiry (dt stream : Nat) : Statement (.frameHoldExpiry dt stream) := fun _ => ⟨rfl, rfl⟩
theorem streamBuffersReturn (dt stream : Nat) : Statement (.streamBuffersReturn dt stream) := fun _ => ⟨rfl, rfl⟩
theorem commitPoint (dt : Nat) : Statement (.commitPoint dt) := fun _ => ⟨rfl, rfl⟩
theorem tileComplete (dt engine tile : Nat) : Statement (.tileComplete dt engine tile) := fun _ => ⟨rfl, rfl⟩
theorem pressCutoff (dt : Nat) : Statement (.pressCutoff dt) := fun _ => ⟨rfl, rfl⟩
theorem walkerCutoff (dt : Nat) : Statement (.walkerCutoff dt) := fun _ => ⟨rfl, rfl⟩
theorem slugEncoded (dt encoder leaf slug gen : Nat) : Statement (.slugEncoded dt encoder leaf slug gen) := fun _ => ⟨rfl, rfl⟩
theorem proofDecodeDone (dt encoder leaf slug gen : Nat) (ok : Bool) : Statement (.proofDecodeDone dt encoder leaf slug gen ok) := fun _ => ⟨rfl, rfl⟩
theorem pageFetch (dt leaf page : Nat) (readOk : Bool) : Statement (.pageFetch dt leaf page readOk) := fun _ => ⟨rfl, rfl⟩
theorem tableLoadStaged (dt item : Nat) : Statement (.tableLoadStaged dt item) := fun _ => ⟨rfl, rfl⟩
theorem tableVerifyDone (dt : Nat) (end_ : VerifyEnd) : Statement (.tableVerifyDone dt end_) := fun _ => ⟨rfl, rfl⟩
theorem commitDeadline (dt : Nat) : Statement (.commitDeadline dt) := fun _ => ⟨rfl, rfl⟩
theorem tick (dt : Nat) : Statement (.tick dt) := fun _ => ⟨rfl, rfl⟩
theorem recordGroupClose (dt : Nat) : Statement (.recordGroupClose dt) := fun _ => ⟨rfl, rfl⟩
theorem lmpLeafSelect (dt : Nat) (v : Word) : Statement (.lmpLeafSelect dt v) := fun _ => ⟨rfl, rfl⟩
theorem toneMapCommit (dt : Nat) (v : Word) : Statement (.toneMapCommit dt v) := fun _ => ⟨rfl, rfl⟩
theorem soffsetWrite (dt : Nat) (v : Word) : Statement (.soffsetWrite dt v) := fun _ => ⟨rfl, rfl⟩
theorem impCommit (dt : Nat) (v : Word) : Statement (.impCommit dt v) := fun _ => ⟨rfl, rfl⟩
theorem impCheckDone (dt : Nat) : Statement (.impCheckDone dt) := fun _ => ⟨rfl, rfl⟩
theorem liveWrite (dt : Nat) (v : Word) : Statement (.liveWrite dt v) := fun _ => ⟨rfl, rfl⟩
theorem quadEnable (dt quad : Nat) (v : Word) : Statement (.quadEnable dt quad v) := fun _ => ⟨rfl, rfl⟩
theorem quireEnable (dt quire : Nat) (v : Word) : Statement (.quireEnable dt quire v) := fun _ => ⟨rfl, rfl⟩
theorem eqEntryWrite (dt : Nat) (v : Word) : Statement (.eqEntryWrite dt v) := fun _ => ⟨rfl, rfl⟩
theorem laneLoopWrite (dt lane : Nat) (v : Word) : Statement (.laneLoopWrite dt lane v) := fun _ => ⟨rfl, rfl⟩
theorem laneRestore (dt lane : Nat) (v : Word) : Statement (.laneRestore dt lane v) := fun _ => ⟨rfl, rfl⟩
theorem laneAligned (dt lane : Nat) : Statement (.laneAligned dt lane) := fun _ => ⟨rfl, rfl⟩
theorem laneAlignmentLoss (dt lane : Nat) : Statement (.laneAlignmentLoss dt lane) := fun _ => ⟨rfl, rfl⟩
theorem acquireTimeout (dt lane : Nat) : Statement (.acquireTimeout dt lane) := fun _ => ⟨rfl, rfl⟩
theorem realignTimeout (dt lane : Nat) : Statement (.realignTimeout dt lane) := fun _ => ⟨rfl, rfl⟩
theorem idleNickReceive (dt lane seq : Nat) : Statement (.idleNickReceive dt lane seq) := fun _ => ⟨rfl, rfl⟩
theorem idleWakeReceive (dt lane seq : Nat) (confirmed : Bool) : Statement (.idleWakeReceive dt lane seq confirmed) := fun _ => ⟨rfl, rfl⟩
theorem idleBurstTimeout (dt lane : Nat) : Statement (.idleBurstTimeout dt lane) := fun _ => ⟨rfl, rfl⟩
theorem transmitterIdle (dt lane : Nat) : Statement (.transmitterIdle dt lane) := fun _ => ⟨rfl, rfl⟩
theorem transmitterWake (dt lane : Nat) : Statement (.transmitterWake dt lane) := fun _ => ⟨rfl, rfl⟩
theorem linkSheetReceive (dt lane : Nat) (sheet : LinkSheet) : Statement (.linkSheetReceive dt lane sheet) := fun _ => ⟨rfl, rfl⟩
theorem codewordUncorrectable (dt lane : Nat) : Statement (.codewordUncorrectable dt lane) := fun _ => ⟨rfl, rfl⟩
theorem laneFomUpdate (dt lane : Nat) (snrs : List Int) : Statement (.laneFomUpdate dt lane snrs) := fun _ => ⟨rfl, rfl⟩
theorem eqLimit (dt : Nat) (at_ : TapLimit) : Statement (.eqLimit dt at_) := fun _ => ⟨rfl, rfl⟩
theorem sliceCheck (dt lane u eu x ex : Nat) : Statement (.sliceCheck dt lane u eu x ex) := fun _ => ⟨rfl, rfl⟩
theorem sheetReceive (dt quire dir : Nat) (place : SheetPlace) (digest : Word) (errored : Bool) : Statement (.sheetReceive dt quire dir place digest errored) := fun _ => ⟨rfl, rfl⟩
theorem sheetMissing (dt quire dir seq : Nat) : Statement (.sheetMissing dt quire dir seq) := fun _ => ⟨rfl, rfl⟩
theorem breakReceive (dt : Nat) (ins : Ins) (b : BreakRep) (onSheet : Bool) : Statement (.breakReceive dt ins b onSheet) := fun _ => ⟨rfl, rfl⟩
theorem replan (dt quire : Nat) : Statement (.replan dt quire) := fun _ => ⟨rfl, rfl⟩
theorem healComplete (dt quire dir : Nat) : Statement (.healComplete dt quire dir) := fun _ => ⟨rfl, rfl⟩
theorem rebalanceLaneCheck (dt quire : Nat) : Statement (.rebalanceLaneCheck dt quire) := fun _ => ⟨rfl, rfl⟩
theorem replayTimeout (dt leaf slug gen : Nat) : Statement (.replayTimeout dt leaf slug gen) := fun _ => ⟨rfl, rfl⟩
theorem ackReceive (dt : Nat) (ins : Ins) (entries : List AckEntry) : Statement (.ackReceive dt ins entries) := fun _ => ⟨rfl, rfl⟩
theorem enrollReport (dt : Nat) (ins : Ins) (r : Enroll) : Statement (.enrollReport dt ins r) := fun _ => ⟨rfl, rfl⟩
theorem flipReport (dt : Nat) (ins : Ins) (r : FlipRep) : Statement (.flipReport dt ins r) := fun _ => ⟨rfl, rfl⟩
theorem sensorReport (dt : Nat) (ins : Ins) (q : List Word) : Statement (.sensorReport dt ins q) := fun _ => ⟨rfl, rfl⟩
theorem resultReport (dt : Nat) (ins : Ins) (r : ResultRep) : Statement (.resultReport dt ins r) := fun _ => ⟨rfl, rfl⟩
theorem checkwordReport (dt : Nat) (ins : Ins) (imp : Half) (gen slug : Nat) : Statement (.checkwordReport dt ins imp gen slug) := fun _ => ⟨rfl, rfl⟩
theorem mirrorReport (dt : Nat) (ins : Ins) (type part slug : Nat) (which : DWord) : Statement (.mirrorReport dt ins type part slug which) := fun _ => ⟨rfl, rfl⟩
theorem quireAdoptStart (dt quire : Nat) : Statement (.quireAdoptStart dt quire) := fun _ => ⟨rfl, rfl⟩
theorem adoptSend (dt quire : Nat) : Statement (.adoptSend dt quire) := fun _ => ⟨rfl, rfl⟩
theorem adoptingTimeout (dt quire : Nat) : Statement (.adoptingTimeout dt quire) := fun _ => ⟨rfl, rfl⟩
theorem badCountTimeout (dt quire : Nat) : Statement (.badCountTimeout dt quire) := fun _ => ⟨rfl, rfl⟩
theorem leafLost (dt leaf : Nat) : Statement (.leafLost dt leaf) := fun _ => ⟨rfl, rfl⟩
theorem leafFlipLate (dt leaf : Nat) : Statement (.leafFlipLate dt leaf) := fun _ => ⟨rfl, rfl⟩
theorem timePacketSend (dt quire : Nat) : Statement (.timePacketSend dt quire) := fun _ => ⟨rfl, rfl⟩
theorem ptpAnnounce (dt : Nat) (src : PtpSrc) (a : Announce) : Statement (.ptpAnnounce dt src a) := fun _ => ⟨rfl, rfl⟩
theorem ptpSync (dt : Nat) (src : PtpSrc) (k : SyncKind) : Statement (.ptpSync dt src k) := fun _ => ⟨rfl, rfl⟩
theorem ptpDelayResp (dt : Nat) (src : PtpSrc) (t4 : Nat) (logInt : Int) : Statement (.ptpDelayResp dt src t4 logInt) := fun _ => ⟨rfl, rfl⟩
theorem delayReqSend (dt : Nat) : Statement (.delayReqSend dt) := fun _ => ⟨rfl, rfl⟩
theorem announceReceiptTimeout (dt master : Nat) : Statement (.announceReceiptTimeout dt master) := fun _ => ⟨rfl, rfl⟩
theorem timeSnap (dt : Nat) (v : Word) : Statement (.timeSnap dt v) := fun _ => ⟨rfl, rfl⟩
theorem hostStart (dt : Nat) (v : Word) : Statement (.hostStart dt v) := fun _ => ⟨rfl, rfl⟩
theorem pCommit (dt : Nat) (v : Word) : Statement (.pCommit dt v) := fun _ => ⟨rfl, rfl⟩
theorem generatorStart (dt : Nat) : Statement (.generatorStart dt) := fun _ => ⟨rfl, rfl⟩
theorem pulseModeWrite (dt o : Nat) (v : Word) : Statement (.pulseModeWrite dt o v) := fun _ => ⟨rfl, rfl⟩
theorem pulseTargetCommit (dt o : Nat) (v : Word) : Statement (.pulseTargetCommit dt o v) := fun _ => ⟨rfl, rfl⟩
theorem pulseDue (dt o : Nat) : Statement (.pulseDue dt o) := fun _ => ⟨rfl, rfl⟩
theorem esmcPdu (dt m ssm : Nat) (event : Bool) : Statement (.esmcPdu dt m ssm event) := fun _ => ⟨rfl, rfl⟩
theorem refqlFrame (dt i : Nat) (bytes : List Byte) : Statement (.refqlFrame dt i bytes) := fun _ => ⟨rfl, rfl⟩
theorem qlTimeout (dt c : Nat) : Statement (.qlTimeout dt c) := fun _ => ⟨rfl, rfl⟩
theorem candidateWindow (dt c : Nat) (signal : Bool) (freq : Int) (fin : Nat) : Statement (.candidateWindow dt c signal freq fin) := fun _ => ⟨rfl, rfl⟩
theorem candidateEligible (dt c : Nat) : Statement (.candidateEligible dt c) := fun _ => ⟨rfl, rfl⟩
theorem candidateSignalLoss (dt c : Nat) : Statement (.candidateSignalLoss dt c) := fun _ => ⟨rfl, rfl⟩
theorem tcxoCompensation (dt : Nat) (temp : Int) : Statement (.tcxoCompensation dt temp) := fun _ => ⟨rfl, rfl⟩
theorem dramRead (dt : Nat) (a : DramAddr) (e : EccSeen) (o : DramOwner) (twinOk : Bool) : Statement (.dramRead dt a e o twinOk) := fun _ => ⟨rfl, rfl⟩
theorem dramActivate (dt pc bank row : Nat) : Statement (.dramActivate dt pc bank row) := fun _ => ⟨rfl, rfl⟩
theorem refreshWindowEnd (dt stack : Nat) : Statement (.refreshWindowEnd dt stack) := fun _ => ⟨rfl, rfl⟩
theorem eyeCheck (dt pc : Nat) (found : EyeDrift) : Statement (.eyeCheck dt pc found) := fun _ => ⟨rfl, rfl⟩
theorem scrubRead (dt : Nat) (a : DramAddr) (e : EccSeen) (o : DramOwner) (twinOk : Bool) : Statement (.scrubRead dt a e o twinOk) := fun _ => ⟨rfl, rfl⟩
theorem trainingTempRecheck (dt : Nat) : Statement (.trainingTempRecheck dt) := fun _ => ⟨rfl, rfl⟩
theorem migrationDone (dt pc : Nat) : Statement (.migrationDone dt pc) := fun _ => ⟨rfl, rfl⟩
theorem pcRestore (dt : Nat) (v : Word) : Statement (.pcRestore dt v) := fun _ => ⟨rfl, rfl⟩
theorem sramReadError (dt macroNo row : Nat) (e : EccSeen) (user : SramUser) : Statement (.sramReadError dt macroNo row e user) := fun _ => ⟨rfl, rfl⟩
theorem thermalSample (dt : Nat) (r : List Int) : Statement (.thermalSample dt r) := fun _ => ⟨rfl, rfl⟩
theorem supplySample (dt v i p : Nat) : Statement (.supplySample dt v i p) := fun _ => ⟨rfl, rfl⟩
theorem darkRepeat (dt : Nat) : Statement (.darkRepeat dt) := fun _ => ⟨rfl, rfl⟩
theorem orderlyStopEnd (dt : Nat) : Statement (.orderlyStopEnd dt) := fun _ => ⟨rfl, rfl⟩
theorem resume (dt : Nat) (v : Word) : Statement (.resume dt v) := fun _ => ⟨rfl, rfl⟩
theorem supervisorWatchdog (dt : Nat) : Statement (.supervisorWatchdog dt) := fun _ => ⟨rfl, rfl⟩
theorem supervisorRestart (dt : Nat) : Statement (.supervisorRestart dt) := fun _ => ⟨rfl, rfl⟩
theorem calrefRun (dt : Nat) (v : Word) (uv : Nat) : Statement (.calrefRun dt v uv) := fun _ => ⟨rfl, rfl⟩
theorem calrefRunDone (dt code : Nat) (resid : Int) : Statement (.calrefRunDone dt code resid) := fun _ => ⟨rfl, rfl⟩
theorem unitRestore (dt : Nat) (v : Word) : Statement (.unitRestore dt v) := fun _ => ⟨rfl, rfl⟩
theorem engineBringInDone (dt e : Nat) (pass : Bool) : Statement (.engineBringInDone dt e pass) := fun _ => ⟨rfl, rfl⟩
theorem encoderBringInDone (dt : Nat) (pass : Bool) : Statement (.encoderBringInDone dt pass) := fun _ => ⟨rfl, rfl⟩
theorem spareRecordWrite (dt : Nat) : Statement (.spareRecordWrite dt) := fun _ => ⟨rfl, rfl⟩
theorem packageVerifyDone (dt : Nat) : Statement (.packageVerifyDone dt) := fun _ => ⟨rfl, rfl⟩
theorem activateWriteDone (dt : Nat) (readbackOk : Bool) : Statement (.activateWriteDone dt readbackOk) := fun _ => ⟨rfl, rfl⟩
theorem activateConditionTimeout (dt : Nat) : Statement (.activateConditionTimeout dt) := fun _ => ⟨rfl, rfl⟩
theorem warmRestart (dt : Nat) : Statement (.warmRestart dt) := fun _ => ⟨rfl, rfl⟩
theorem imageConfirm (dt : Nat) : Statement (.imageConfirm dt) := fun _ => ⟨rfl, rfl⟩
theorem confirmationDeadline (dt : Nat) : Statement (.confirmationDeadline dt) := fun _ => ⟨rfl, rfl⟩
theorem ownerProgram (dt : Nat) (v : Word) : Statement (.ownerProgram dt v) := fun _ => ⟨rfl, rfl⟩
theorem ownerLock (dt : Nat) (v : Word) : Statement (.ownerLock dt v) := fun _ => ⟨rfl, rfl⟩
theorem nonceIssue (dt : Nat) : Statement (.nonceIssue dt) := fun _ => ⟨rfl, rfl⟩
theorem entropyReady (dt : Nat) : Statement (.entropyReady dt) := fun _ => ⟨rfl, rfl⟩
theorem entropyHealth (dt test : Nat) : Statement (.entropyHealth dt test) := fun _ => ⟨rfl, rfl⟩
theorem ingestTrace (dt : Nat) : Statement (.ingestTrace dt) := fun _ => ⟨rfl, rfl⟩
theorem supplyValid (dt : Nat) : Statement (.supplyValid dt) := fun _ => ⟨rfl, rfl⟩
theorem perstRelease (dt : Nat) : Statement (.perstRelease dt) := fun _ => ⟨rfl, rfl⟩
theorem perstAssert (dt : Nat) : Statement (.perstAssert dt) := fun _ => ⟨rfl, rfl⟩
theorem startupStageDone (dt : Nat) (st : Straps) (found : StackTest) : Statement (.startupStageDone dt st found) := fun _ => ⟨rfl, rfl⟩
theorem endpointReady (dt : Nat) : Statement (.endpointReady dt) := fun _ => ⟨rfl, rfl⟩
theorem prereadyShutdownRestart (dt : Nat) : Statement (.prereadyShutdownRestart dt) := fun _ => ⟨rfl, rfl⟩
theorem duplicateAddressDetection (dt p : Nat) : Statement (.duplicateAddressDetection dt p) := fun _ => ⟨rfl, rfl⟩
theorem pcRestoreDone (dt pc : Nat) (ok : Bool) (found : PcTest) : Statement (.pcRestoreDone dt pc ok found) := fun _ => ⟨rfl, rfl⟩
theorem unitRestoreSelftestDone (dt : Nat) (pass : Bool) : Statement (.unitRestoreSelftestDone dt pass) := fun _ => ⟨rfl, rfl⟩
theorem resumeComplete (dt : Nat) (trained auxLost : Bool) : Statement (.resumeComplete dt trained auxLost) := fun _ => ⟨rfl, rfl⟩
theorem phaseBuildOutDone (dt : Nat) : Statement (.phaseBuildOutDone dt) := fun _ => ⟨rfl, rfl⟩

end Sys2Proof.Laws.Named
end

