-- ==== Sys2Proof/Laws/State.lean ====
section
/-! SUPPORT. One lemma for each field of State under each shared update of a table and under State.withPending, each true by definition. -/

namespace Sys2Proof.Machine

/-! ### State.setLane -/

@[simp] theorem State.setLane_pending (i : Nat) (l : Lane) (s : State) : (s.setLane i l).pending = s.pending := rfl
@[simp] theorem State.setLane_clk (i : Nat) (l : Lane) (s : State) : (s.setLane i l).clk = s.clk := rfl
@[simp] theorem State.setLane_regs (i : Nat) (l : Lane) (s : State) : (s.setLane i l).regs = s.regs := rfl
@[simp] theorem State.setLane_shadows (i : Nat) (l : Lane) (s : State) : (s.setLane i l).shadows = s.shadows := rfl
@[simp] theorem State.setLane_rdata (i : Nat) (l : Lane) (s : State) : (s.setLane i l).rdata = s.rdata := rfl
@[simp] theorem State.setLane_fresh (i : Nat) (l : Lane) (s : State) : (s.setLane i l).fresh = s.fresh := rfl
@[simp] theorem State.setLane_out (i : Nat) (l : Lane) (s : State) : (s.setLane i l).out = s.out := rfl
@[simp] theorem State.setLane_nextItem (i : Nat) (l : Lane) (s : State) : (s.setLane i l).nextItem = s.nextItem := rfl
@[simp] theorem State.setLane_hif (i : Nat) (l : Lane) (s : State) : (s.setLane i l).hif = s.hif := rfl
@[simp] theorem State.setLane_ing (i : Nat) (l : Lane) (s : State) : (s.setLane i l).ing = s.ing := rfl
@[simp] theorem State.setLane_cmp (i : Nat) (l : Lane) (s : State) : (s.setLane i l).cmp = s.cmp := rfl
@[simp] theorem State.setLane_leaves (i : Nat) (l : Lane) (s : State) : (s.setLane i l).leaves = s.leaves := rfl
@[simp] theorem State.setLane_lmp (i : Nat) (l : Lane) (s : State) : (s.setLane i l).lmp = s.lmp := rfl
@[simp] theorem State.setLane_imp (i : Nat) (l : Lane) (s : State) : (s.setLane i l).imp = s.imp := rfl
@[simp] theorem State.setLane_slg (i : Nat) (l : Lane) (s : State) : (s.setLane i l).slg = s.slg := rfl
@[simp] theorem State.setLane_win (i : Nat) (l : Lane) (s : State) : (s.setLane i l).win = s.win := rfl
@[simp] theorem State.setLane_groups (i : Nat) (l : Lane) (s : State) : (s.setLane i l).groups = s.groups := rfl
@[simp] theorem State.setLane_shown (i : Nat) (l : Lane) (s : State) : (s.setLane i l).shown = s.shown := rfl
@[simp] theorem State.setLane_hdrs (i : Nat) (l : Lane) (s : State) : (s.setLane i l).hdrs = s.hdrs := rfl
@[simp] theorem State.setLane_lanes (i : Nat) (l : Lane) (s : State) : (s.setLane i l).lanes = tput (laneDflt i) s.lanes i l := rfl
@[simp] theorem State.setLane_quires (i : Nat) (l : Lane) (s : State) : (s.setLane i l).quires = s.quires := rfl
@[simp] theorem State.setLane_tim (i : Nat) (l : Lane) (s : State) : (s.setLane i l).tim = s.tim := rfl
@[simp] theorem State.setLane_refs (i : Nat) (l : Lane) (s : State) : (s.setLane i l).refs = s.refs := rfl
@[simp] theorem State.setLane_mem (i : Nat) (l : Lane) (s : State) : (s.setLane i l).mem = s.mem := rfl
@[simp] theorem State.setLane_flt (i : Nat) (l : Lane) (s : State) : (s.setLane i l).flt = s.flt := rfl
@[simp] theorem State.setLane_thp (i : Nat) (l : Lane) (s : State) : (s.setLane i l).thp = s.thp := rfl
@[simp] theorem State.setLane_cal (i : Nat) (l : Lane) (s : State) : (s.setLane i l).cal = s.cal := rfl
@[simp] theorem State.setLane_upd (i : Nat) (l : Lane) (s : State) : (s.setLane i l).upd = s.upd := rfl
@[simp] theorem State.setLane_obs (i : Nat) (l : Lane) (s : State) : (s.setLane i l).obs = s.obs := rfl
@[simp] theorem State.setLane_sys (i : Nat) (l : Lane) (s : State) : (s.setLane i l).sys = s.sys := rfl

/-! ### State.setQuire -/

@[simp] theorem State.setQuire_pending (q : Nat) (x : Quire) (s : State) : (s.setQuire q x).pending = s.pending := rfl
@[simp] theorem State.setQuire_clk (q : Nat) (x : Quire) (s : State) : (s.setQuire q x).clk = s.clk := rfl
@[simp] theorem State.setQuire_regs (q : Nat) (x : Quire) (s : State) : (s.setQuire q x).regs = s.regs := rfl
@[simp] theorem State.setQuire_shadows (q : Nat) (x : Quire) (s : State) : (s.setQuire q x).shadows = s.shadows := rfl
@[simp] theorem State.setQuire_rdata (q : Nat) (x : Quire) (s : State) : (s.setQuire q x).rdata = s.rdata := rfl
@[simp] theorem State.setQuire_fresh (q : Nat) (x : Quire) (s : State) : (s.setQuire q x).fresh = s.fresh := rfl
@[simp] theorem State.setQuire_out (q : Nat) (x : Quire) (s : State) : (s.setQuire q x).out = s.out := rfl
@[simp] theorem State.setQuire_nextItem (q : Nat) (x : Quire) (s : State) : (s.setQuire q x).nextItem = s.nextItem := rfl
@[simp] theorem State.setQuire_hif (q : Nat) (x : Quire) (s : State) : (s.setQuire q x).hif = s.hif := rfl
@[simp] theorem State.setQuire_ing (q : Nat) (x : Quire) (s : State) : (s.setQuire q x).ing = s.ing := rfl
@[simp] theorem State.setQuire_cmp (q : Nat) (x : Quire) (s : State) : (s.setQuire q x).cmp = s.cmp := rfl
@[simp] theorem State.setQuire_leaves (q : Nat) (x : Quire) (s : State) : (s.setQuire q x).leaves = s.leaves := rfl
@[simp] theorem State.setQuire_lmp (q : Nat) (x : Quire) (s : State) : (s.setQuire q x).lmp = s.lmp := rfl
@[simp] theorem State.setQuire_imp (q : Nat) (x : Quire) (s : State) : (s.setQuire q x).imp = s.imp := rfl
@[simp] theorem State.setQuire_slg (q : Nat) (x : Quire) (s : State) : (s.setQuire q x).slg = s.slg := rfl
@[simp] theorem State.setQuire_win (q : Nat) (x : Quire) (s : State) : (s.setQuire q x).win = s.win := rfl
@[simp] theorem State.setQuire_groups (q : Nat) (x : Quire) (s : State) : (s.setQuire q x).groups = s.groups := rfl
@[simp] theorem State.setQuire_shown (q : Nat) (x : Quire) (s : State) : (s.setQuire q x).shown = s.shown := rfl
@[simp] theorem State.setQuire_hdrs (q : Nat) (x : Quire) (s : State) : (s.setQuire q x).hdrs = s.hdrs := rfl
@[simp] theorem State.setQuire_lanes (q : Nat) (x : Quire) (s : State) : (s.setQuire q x).lanes = s.lanes := rfl
@[simp] theorem State.setQuire_quires (q : Nat) (x : Quire) (s : State) : (s.setQuire q x).quires = tput {} s.quires q x := rfl
@[simp] theorem State.setQuire_tim (q : Nat) (x : Quire) (s : State) : (s.setQuire q x).tim = s.tim := rfl
@[simp] theorem State.setQuire_refs (q : Nat) (x : Quire) (s : State) : (s.setQuire q x).refs = s.refs := rfl
@[simp] theorem State.setQuire_mem (q : Nat) (x : Quire) (s : State) : (s.setQuire q x).mem = s.mem := rfl
@[simp] theorem State.setQuire_flt (q : Nat) (x : Quire) (s : State) : (s.setQuire q x).flt = s.flt := rfl
@[simp] theorem State.setQuire_thp (q : Nat) (x : Quire) (s : State) : (s.setQuire q x).thp = s.thp := rfl
@[simp] theorem State.setQuire_cal (q : Nat) (x : Quire) (s : State) : (s.setQuire q x).cal = s.cal := rfl
@[simp] theorem State.setQuire_upd (q : Nat) (x : Quire) (s : State) : (s.setQuire q x).upd = s.upd := rfl
@[simp] theorem State.setQuire_obs (q : Nat) (x : Quire) (s : State) : (s.setQuire q x).obs = s.obs := rfl
@[simp] theorem State.setQuire_sys (q : Nat) (x : Quire) (s : State) : (s.setQuire q x).sys = s.sys := rfl

/-! ### State.setLeaf -/

@[simp] theorem State.setLeaf_pending (k : Nat) (x : Leaf) (s : State) : (s.setLeaf k x).pending = s.pending := rfl
@[simp] theorem State.setLeaf_clk (k : Nat) (x : Leaf) (s : State) : (s.setLeaf k x).clk = s.clk := rfl
@[simp] theorem State.setLeaf_regs (k : Nat) (x : Leaf) (s : State) : (s.setLeaf k x).regs = s.regs := rfl
@[simp] theorem State.setLeaf_shadows (k : Nat) (x : Leaf) (s : State) : (s.setLeaf k x).shadows = s.shadows := rfl
@[simp] theorem State.setLeaf_rdata (k : Nat) (x : Leaf) (s : State) : (s.setLeaf k x).rdata = s.rdata := rfl
@[simp] theorem State.setLeaf_fresh (k : Nat) (x : Leaf) (s : State) : (s.setLeaf k x).fresh = s.fresh := rfl
@[simp] theorem State.setLeaf_out (k : Nat) (x : Leaf) (s : State) : (s.setLeaf k x).out = s.out := rfl
@[simp] theorem State.setLeaf_nextItem (k : Nat) (x : Leaf) (s : State) : (s.setLeaf k x).nextItem = s.nextItem := rfl
@[simp] theorem State.setLeaf_hif (k : Nat) (x : Leaf) (s : State) : (s.setLeaf k x).hif = s.hif := rfl
@[simp] theorem State.setLeaf_ing (k : Nat) (x : Leaf) (s : State) : (s.setLeaf k x).ing = s.ing := rfl
@[simp] theorem State.setLeaf_cmp (k : Nat) (x : Leaf) (s : State) : (s.setLeaf k x).cmp = s.cmp := rfl
@[simp] theorem State.setLeaf_leaves (k : Nat) (x : Leaf) (s : State) : (s.setLeaf k x).leaves = tput {} s.leaves k x := rfl
@[simp] theorem State.setLeaf_lmp (k : Nat) (x : Leaf) (s : State) : (s.setLeaf k x).lmp = s.lmp := rfl
@[simp] theorem State.setLeaf_imp (k : Nat) (x : Leaf) (s : State) : (s.setLeaf k x).imp = s.imp := rfl
@[simp] theorem State.setLeaf_slg (k : Nat) (x : Leaf) (s : State) : (s.setLeaf k x).slg = s.slg := rfl
@[simp] theorem State.setLeaf_win (k : Nat) (x : Leaf) (s : State) : (s.setLeaf k x).win = s.win := rfl
@[simp] theorem State.setLeaf_groups (k : Nat) (x : Leaf) (s : State) : (s.setLeaf k x).groups = s.groups := rfl
@[simp] theorem State.setLeaf_shown (k : Nat) (x : Leaf) (s : State) : (s.setLeaf k x).shown = s.shown := rfl
@[simp] theorem State.setLeaf_hdrs (k : Nat) (x : Leaf) (s : State) : (s.setLeaf k x).hdrs = s.hdrs := rfl
@[simp] theorem State.setLeaf_lanes (k : Nat) (x : Leaf) (s : State) : (s.setLeaf k x).lanes = s.lanes := rfl
@[simp] theorem State.setLeaf_quires (k : Nat) (x : Leaf) (s : State) : (s.setLeaf k x).quires = s.quires := rfl
@[simp] theorem State.setLeaf_tim (k : Nat) (x : Leaf) (s : State) : (s.setLeaf k x).tim = s.tim := rfl
@[simp] theorem State.setLeaf_refs (k : Nat) (x : Leaf) (s : State) : (s.setLeaf k x).refs = s.refs := rfl
@[simp] theorem State.setLeaf_mem (k : Nat) (x : Leaf) (s : State) : (s.setLeaf k x).mem = s.mem := rfl
@[simp] theorem State.setLeaf_flt (k : Nat) (x : Leaf) (s : State) : (s.setLeaf k x).flt = s.flt := rfl
@[simp] theorem State.setLeaf_thp (k : Nat) (x : Leaf) (s : State) : (s.setLeaf k x).thp = s.thp := rfl
@[simp] theorem State.setLeaf_cal (k : Nat) (x : Leaf) (s : State) : (s.setLeaf k x).cal = s.cal := rfl
@[simp] theorem State.setLeaf_upd (k : Nat) (x : Leaf) (s : State) : (s.setLeaf k x).upd = s.upd := rfl
@[simp] theorem State.setLeaf_obs (k : Nat) (x : Leaf) (s : State) : (s.setLeaf k x).obs = s.obs := rfl
@[simp] theorem State.setLeaf_sys (k : Nat) (x : Leaf) (s : State) : (s.setLeaf k x).sys = s.sys := rfl

/-! ### State.setLayer -/

@[simp] theorem State.setLayer_pending (k : Nat) (x : Layer) (s : State) : (s.setLayer k x).pending = s.pending := rfl
@[simp] theorem State.setLayer_clk (k : Nat) (x : Layer) (s : State) : (s.setLayer k x).clk = s.clk := rfl
@[simp] theorem State.setLayer_regs (k : Nat) (x : Layer) (s : State) : (s.setLayer k x).regs = s.regs := rfl
@[simp] theorem State.setLayer_shadows (k : Nat) (x : Layer) (s : State) : (s.setLayer k x).shadows = s.shadows := rfl
@[simp] theorem State.setLayer_rdata (k : Nat) (x : Layer) (s : State) : (s.setLayer k x).rdata = s.rdata := rfl
@[simp] theorem State.setLayer_fresh (k : Nat) (x : Layer) (s : State) : (s.setLayer k x).fresh = s.fresh := rfl
@[simp] theorem State.setLayer_out (k : Nat) (x : Layer) (s : State) : (s.setLayer k x).out = s.out := rfl
@[simp] theorem State.setLayer_nextItem (k : Nat) (x : Layer) (s : State) : (s.setLayer k x).nextItem = s.nextItem := rfl
@[simp] theorem State.setLayer_hif (k : Nat) (x : Layer) (s : State) : (s.setLayer k x).hif = s.hif := rfl
@[simp] theorem State.setLayer_ing (k : Nat) (x : Layer) (s : State) : (s.setLayer k x).ing = s.ing := rfl
@[simp] theorem State.setLayer_cmp (k : Nat) (x : Layer) (s : State) : (s.setLayer k x).cmp = { s.cmp with layers := tput {} s.cmp.layers k x } := rfl
@[simp] theorem State.setLayer_leaves (k : Nat) (x : Layer) (s : State) : (s.setLayer k x).leaves = s.leaves := rfl
@[simp] theorem State.setLayer_lmp (k : Nat) (x : Layer) (s : State) : (s.setLayer k x).lmp = s.lmp := rfl
@[simp] theorem State.setLayer_imp (k : Nat) (x : Layer) (s : State) : (s.setLayer k x).imp = s.imp := rfl
@[simp] theorem State.setLayer_slg (k : Nat) (x : Layer) (s : State) : (s.setLayer k x).slg = s.slg := rfl
@[simp] theorem State.setLayer_win (k : Nat) (x : Layer) (s : State) : (s.setLayer k x).win = s.win := rfl
@[simp] theorem State.setLayer_groups (k : Nat) (x : Layer) (s : State) : (s.setLayer k x).groups = s.groups := rfl
@[simp] theorem State.setLayer_shown (k : Nat) (x : Layer) (s : State) : (s.setLayer k x).shown = s.shown := rfl
@[simp] theorem State.setLayer_hdrs (k : Nat) (x : Layer) (s : State) : (s.setLayer k x).hdrs = s.hdrs := rfl
@[simp] theorem State.setLayer_lanes (k : Nat) (x : Layer) (s : State) : (s.setLayer k x).lanes = s.lanes := rfl
@[simp] theorem State.setLayer_quires (k : Nat) (x : Layer) (s : State) : (s.setLayer k x).quires = s.quires := rfl
@[simp] theorem State.setLayer_tim (k : Nat) (x : Layer) (s : State) : (s.setLayer k x).tim = s.tim := rfl
@[simp] theorem State.setLayer_refs (k : Nat) (x : Layer) (s : State) : (s.setLayer k x).refs = s.refs := rfl
@[simp] theorem State.setLayer_mem (k : Nat) (x : Layer) (s : State) : (s.setLayer k x).mem = s.mem := rfl
@[simp] theorem State.setLayer_flt (k : Nat) (x : Layer) (s : State) : (s.setLayer k x).flt = s.flt := rfl
@[simp] theorem State.setLayer_thp (k : Nat) (x : Layer) (s : State) : (s.setLayer k x).thp = s.thp := rfl
@[simp] theorem State.setLayer_cal (k : Nat) (x : Layer) (s : State) : (s.setLayer k x).cal = s.cal := rfl
@[simp] theorem State.setLayer_upd (k : Nat) (x : Layer) (s : State) : (s.setLayer k x).upd = s.upd := rfl
@[simp] theorem State.setLayer_obs (k : Nat) (x : Layer) (s : State) : (s.setLayer k x).obs = s.obs := rfl
@[simp] theorem State.setLayer_sys (k : Nat) (x : Layer) (s : State) : (s.setLayer k x).sys = s.sys := rfl

/-! ### State.setTile -/

@[simp] theorem State.setTile_pending (t : Nat) (x : Tile) (s : State) : (s.setTile t x).pending = s.pending := rfl
@[simp] theorem State.setTile_clk (t : Nat) (x : Tile) (s : State) : (s.setTile t x).clk = s.clk := rfl
@[simp] theorem State.setTile_regs (t : Nat) (x : Tile) (s : State) : (s.setTile t x).regs = s.regs := rfl
@[simp] theorem State.setTile_shadows (t : Nat) (x : Tile) (s : State) : (s.setTile t x).shadows = s.shadows := rfl
@[simp] theorem State.setTile_rdata (t : Nat) (x : Tile) (s : State) : (s.setTile t x).rdata = s.rdata := rfl
@[simp] theorem State.setTile_fresh (t : Nat) (x : Tile) (s : State) : (s.setTile t x).fresh = s.fresh := rfl
@[simp] theorem State.setTile_out (t : Nat) (x : Tile) (s : State) : (s.setTile t x).out = s.out := rfl
@[simp] theorem State.setTile_nextItem (t : Nat) (x : Tile) (s : State) : (s.setTile t x).nextItem = s.nextItem := rfl
@[simp] theorem State.setTile_hif (t : Nat) (x : Tile) (s : State) : (s.setTile t x).hif = s.hif := rfl
@[simp] theorem State.setTile_ing (t : Nat) (x : Tile) (s : State) : (s.setTile t x).ing = s.ing := rfl
@[simp] theorem State.setTile_cmp (t : Nat) (x : Tile) (s : State) : (s.setTile t x).cmp = { s.cmp with tiles := tput {} s.cmp.tiles t x } := rfl
@[simp] theorem State.setTile_leaves (t : Nat) (x : Tile) (s : State) : (s.setTile t x).leaves = s.leaves := rfl
@[simp] theorem State.setTile_lmp (t : Nat) (x : Tile) (s : State) : (s.setTile t x).lmp = s.lmp := rfl
@[simp] theorem State.setTile_imp (t : Nat) (x : Tile) (s : State) : (s.setTile t x).imp = s.imp := rfl
@[simp] theorem State.setTile_slg (t : Nat) (x : Tile) (s : State) : (s.setTile t x).slg = s.slg := rfl
@[simp] theorem State.setTile_win (t : Nat) (x : Tile) (s : State) : (s.setTile t x).win = s.win := rfl
@[simp] theorem State.setTile_groups (t : Nat) (x : Tile) (s : State) : (s.setTile t x).groups = s.groups := rfl
@[simp] theorem State.setTile_shown (t : Nat) (x : Tile) (s : State) : (s.setTile t x).shown = s.shown := rfl
@[simp] theorem State.setTile_hdrs (t : Nat) (x : Tile) (s : State) : (s.setTile t x).hdrs = s.hdrs := rfl
@[simp] theorem State.setTile_lanes (t : Nat) (x : Tile) (s : State) : (s.setTile t x).lanes = s.lanes := rfl
@[simp] theorem State.setTile_quires (t : Nat) (x : Tile) (s : State) : (s.setTile t x).quires = s.quires := rfl
@[simp] theorem State.setTile_tim (t : Nat) (x : Tile) (s : State) : (s.setTile t x).tim = s.tim := rfl
@[simp] theorem State.setTile_refs (t : Nat) (x : Tile) (s : State) : (s.setTile t x).refs = s.refs := rfl
@[simp] theorem State.setTile_mem (t : Nat) (x : Tile) (s : State) : (s.setTile t x).mem = s.mem := rfl
@[simp] theorem State.setTile_flt (t : Nat) (x : Tile) (s : State) : (s.setTile t x).flt = s.flt := rfl
@[simp] theorem State.setTile_thp (t : Nat) (x : Tile) (s : State) : (s.setTile t x).thp = s.thp := rfl
@[simp] theorem State.setTile_cal (t : Nat) (x : Tile) (s : State) : (s.setTile t x).cal = s.cal := rfl
@[simp] theorem State.setTile_upd (t : Nat) (x : Tile) (s : State) : (s.setTile t x).upd = s.upd := rfl
@[simp] theorem State.setTile_obs (t : Nat) (x : Tile) (s : State) : (s.setTile t x).obs = s.obs := rfl
@[simp] theorem State.setTile_sys (t : Nat) (x : Tile) (s : State) : (s.setTile t x).sys = s.sys := rfl

/-! ### State.setStream -/

@[simp] theorem State.setStream_pending (k : Nat) (x : Stream) (s : State) : (s.setStream k x).pending = s.pending := rfl
@[simp] theorem State.setStream_clk (k : Nat) (x : Stream) (s : State) : (s.setStream k x).clk = s.clk := rfl
@[simp] theorem State.setStream_regs (k : Nat) (x : Stream) (s : State) : (s.setStream k x).regs = s.regs := rfl
@[simp] theorem State.setStream_shadows (k : Nat) (x : Stream) (s : State) : (s.setStream k x).shadows = s.shadows := rfl
@[simp] theorem State.setStream_rdata (k : Nat) (x : Stream) (s : State) : (s.setStream k x).rdata = s.rdata := rfl
@[simp] theorem State.setStream_fresh (k : Nat) (x : Stream) (s : State) : (s.setStream k x).fresh = s.fresh := rfl
@[simp] theorem State.setStream_out (k : Nat) (x : Stream) (s : State) : (s.setStream k x).out = s.out := rfl
@[simp] theorem State.setStream_nextItem (k : Nat) (x : Stream) (s : State) : (s.setStream k x).nextItem = s.nextItem := rfl
@[simp] theorem State.setStream_hif (k : Nat) (x : Stream) (s : State) : (s.setStream k x).hif = s.hif := rfl
@[simp] theorem State.setStream_ing (k : Nat) (x : Stream) (s : State) : (s.setStream k x).ing = { s.ing with streams := tput {} s.ing.streams k x } := rfl
@[simp] theorem State.setStream_cmp (k : Nat) (x : Stream) (s : State) : (s.setStream k x).cmp = s.cmp := rfl
@[simp] theorem State.setStream_leaves (k : Nat) (x : Stream) (s : State) : (s.setStream k x).leaves = s.leaves := rfl
@[simp] theorem State.setStream_lmp (k : Nat) (x : Stream) (s : State) : (s.setStream k x).lmp = s.lmp := rfl
@[simp] theorem State.setStream_imp (k : Nat) (x : Stream) (s : State) : (s.setStream k x).imp = s.imp := rfl
@[simp] theorem State.setStream_slg (k : Nat) (x : Stream) (s : State) : (s.setStream k x).slg = s.slg := rfl
@[simp] theorem State.setStream_win (k : Nat) (x : Stream) (s : State) : (s.setStream k x).win = s.win := rfl
@[simp] theorem State.setStream_groups (k : Nat) (x : Stream) (s : State) : (s.setStream k x).groups = s.groups := rfl
@[simp] theorem State.setStream_shown (k : Nat) (x : Stream) (s : State) : (s.setStream k x).shown = s.shown := rfl
@[simp] theorem State.setStream_hdrs (k : Nat) (x : Stream) (s : State) : (s.setStream k x).hdrs = s.hdrs := rfl
@[simp] theorem State.setStream_lanes (k : Nat) (x : Stream) (s : State) : (s.setStream k x).lanes = s.lanes := rfl
@[simp] theorem State.setStream_quires (k : Nat) (x : Stream) (s : State) : (s.setStream k x).quires = s.quires := rfl
@[simp] theorem State.setStream_tim (k : Nat) (x : Stream) (s : State) : (s.setStream k x).tim = s.tim := rfl
@[simp] theorem State.setStream_refs (k : Nat) (x : Stream) (s : State) : (s.setStream k x).refs = s.refs := rfl
@[simp] theorem State.setStream_mem (k : Nat) (x : Stream) (s : State) : (s.setStream k x).mem = s.mem := rfl
@[simp] theorem State.setStream_flt (k : Nat) (x : Stream) (s : State) : (s.setStream k x).flt = s.flt := rfl
@[simp] theorem State.setStream_thp (k : Nat) (x : Stream) (s : State) : (s.setStream k x).thp = s.thp := rfl
@[simp] theorem State.setStream_cal (k : Nat) (x : Stream) (s : State) : (s.setStream k x).cal = s.cal := rfl
@[simp] theorem State.setStream_upd (k : Nat) (x : Stream) (s : State) : (s.setStream k x).upd = s.upd := rfl
@[simp] theorem State.setStream_obs (k : Nat) (x : Stream) (s : State) : (s.setStream k x).obs = s.obs := rfl
@[simp] theorem State.setStream_sys (k : Nat) (x : Stream) (s : State) : (s.setStream k x).sys = s.sys := rfl

/-! ### State.setPort -/

@[simp] theorem State.setPort_pending (p : Nat) (x : Port) (s : State) : (s.setPort p x).pending = s.pending := rfl
@[simp] theorem State.setPort_clk (p : Nat) (x : Port) (s : State) : (s.setPort p x).clk = s.clk := rfl
@[simp] theorem State.setPort_regs (p : Nat) (x : Port) (s : State) : (s.setPort p x).regs = s.regs := rfl
@[simp] theorem State.setPort_shadows (p : Nat) (x : Port) (s : State) : (s.setPort p x).shadows = s.shadows := rfl
@[simp] theorem State.setPort_rdata (p : Nat) (x : Port) (s : State) : (s.setPort p x).rdata = s.rdata := rfl
@[simp] theorem State.setPort_fresh (p : Nat) (x : Port) (s : State) : (s.setPort p x).fresh = s.fresh := rfl
@[simp] theorem State.setPort_out (p : Nat) (x : Port) (s : State) : (s.setPort p x).out = s.out := rfl
@[simp] theorem State.setPort_nextItem (p : Nat) (x : Port) (s : State) : (s.setPort p x).nextItem = s.nextItem := rfl
@[simp] theorem State.setPort_hif (p : Nat) (x : Port) (s : State) : (s.setPort p x).hif = s.hif := rfl
@[simp] theorem State.setPort_ing (p : Nat) (x : Port) (s : State) : (s.setPort p x).ing = { s.ing with ports := tput {} s.ing.ports p x } := rfl
@[simp] theorem State.setPort_cmp (p : Nat) (x : Port) (s : State) : (s.setPort p x).cmp = s.cmp := rfl
@[simp] theorem State.setPort_leaves (p : Nat) (x : Port) (s : State) : (s.setPort p x).leaves = s.leaves := rfl
@[simp] theorem State.setPort_lmp (p : Nat) (x : Port) (s : State) : (s.setPort p x).lmp = s.lmp := rfl
@[simp] theorem State.setPort_imp (p : Nat) (x : Port) (s : State) : (s.setPort p x).imp = s.imp := rfl
@[simp] theorem State.setPort_slg (p : Nat) (x : Port) (s : State) : (s.setPort p x).slg = s.slg := rfl
@[simp] theorem State.setPort_win (p : Nat) (x : Port) (s : State) : (s.setPort p x).win = s.win := rfl
@[simp] theorem State.setPort_groups (p : Nat) (x : Port) (s : State) : (s.setPort p x).groups = s.groups := rfl
@[simp] theorem State.setPort_shown (p : Nat) (x : Port) (s : State) : (s.setPort p x).shown = s.shown := rfl
@[simp] theorem State.setPort_hdrs (p : Nat) (x : Port) (s : State) : (s.setPort p x).hdrs = s.hdrs := rfl
@[simp] theorem State.setPort_lanes (p : Nat) (x : Port) (s : State) : (s.setPort p x).lanes = s.lanes := rfl
@[simp] theorem State.setPort_quires (p : Nat) (x : Port) (s : State) : (s.setPort p x).quires = s.quires := rfl
@[simp] theorem State.setPort_tim (p : Nat) (x : Port) (s : State) : (s.setPort p x).tim = s.tim := rfl
@[simp] theorem State.setPort_refs (p : Nat) (x : Port) (s : State) : (s.setPort p x).refs = s.refs := rfl
@[simp] theorem State.setPort_mem (p : Nat) (x : Port) (s : State) : (s.setPort p x).mem = s.mem := rfl
@[simp] theorem State.setPort_flt (p : Nat) (x : Port) (s : State) : (s.setPort p x).flt = s.flt := rfl
@[simp] theorem State.setPort_thp (p : Nat) (x : Port) (s : State) : (s.setPort p x).thp = s.thp := rfl
@[simp] theorem State.setPort_cal (p : Nat) (x : Port) (s : State) : (s.setPort p x).cal = s.cal := rfl
@[simp] theorem State.setPort_upd (p : Nat) (x : Port) (s : State) : (s.setPort p x).upd = s.upd := rfl
@[simp] theorem State.setPort_obs (p : Nat) (x : Port) (s : State) : (s.setPort p x).obs = s.obs := rfl
@[simp] theorem State.setPort_sys (p : Nat) (x : Port) (s : State) : (s.setPort p x).sys = s.sys := rfl

/-! ### State.setSq -/

@[simp] theorem State.setSq_pending (q : Nat) (x : Sq) (s : State) : (s.setSq q x).pending = s.pending := rfl
@[simp] theorem State.setSq_clk (q : Nat) (x : Sq) (s : State) : (s.setSq q x).clk = s.clk := rfl
@[simp] theorem State.setSq_regs (q : Nat) (x : Sq) (s : State) : (s.setSq q x).regs = s.regs := rfl
@[simp] theorem State.setSq_shadows (q : Nat) (x : Sq) (s : State) : (s.setSq q x).shadows = s.shadows := rfl
@[simp] theorem State.setSq_rdata (q : Nat) (x : Sq) (s : State) : (s.setSq q x).rdata = s.rdata := rfl
@[simp] theorem State.setSq_fresh (q : Nat) (x : Sq) (s : State) : (s.setSq q x).fresh = s.fresh := rfl
@[simp] theorem State.setSq_out (q : Nat) (x : Sq) (s : State) : (s.setSq q x).out = s.out := rfl
@[simp] theorem State.setSq_nextItem (q : Nat) (x : Sq) (s : State) : (s.setSq q x).nextItem = s.nextItem := rfl
@[simp] theorem State.setSq_hif (q : Nat) (x : Sq) (s : State) : (s.setSq q x).hif = { s.hif with sqs := tput {} s.hif.sqs q x } := rfl
@[simp] theorem State.setSq_ing (q : Nat) (x : Sq) (s : State) : (s.setSq q x).ing = s.ing := rfl
@[simp] theorem State.setSq_cmp (q : Nat) (x : Sq) (s : State) : (s.setSq q x).cmp = s.cmp := rfl
@[simp] theorem State.setSq_leaves (q : Nat) (x : Sq) (s : State) : (s.setSq q x).leaves = s.leaves := rfl
@[simp] theorem State.setSq_lmp (q : Nat) (x : Sq) (s : State) : (s.setSq q x).lmp = s.lmp := rfl
@[simp] theorem State.setSq_imp (q : Nat) (x : Sq) (s : State) : (s.setSq q x).imp = s.imp := rfl
@[simp] theorem State.setSq_slg (q : Nat) (x : Sq) (s : State) : (s.setSq q x).slg = s.slg := rfl
@[simp] theorem State.setSq_win (q : Nat) (x : Sq) (s : State) : (s.setSq q x).win = s.win := rfl
@[simp] theorem State.setSq_groups (q : Nat) (x : Sq) (s : State) : (s.setSq q x).groups = s.groups := rfl
@[simp] theorem State.setSq_shown (q : Nat) (x : Sq) (s : State) : (s.setSq q x).shown = s.shown := rfl
@[simp] theorem State.setSq_hdrs (q : Nat) (x : Sq) (s : State) : (s.setSq q x).hdrs = s.hdrs := rfl
@[simp] theorem State.setSq_lanes (q : Nat) (x : Sq) (s : State) : (s.setSq q x).lanes = s.lanes := rfl
@[simp] theorem State.setSq_quires (q : Nat) (x : Sq) (s : State) : (s.setSq q x).quires = s.quires := rfl
@[simp] theorem State.setSq_tim (q : Nat) (x : Sq) (s : State) : (s.setSq q x).tim = s.tim := rfl
@[simp] theorem State.setSq_refs (q : Nat) (x : Sq) (s : State) : (s.setSq q x).refs = s.refs := rfl
@[simp] theorem State.setSq_mem (q : Nat) (x : Sq) (s : State) : (s.setSq q x).mem = s.mem := rfl
@[simp] theorem State.setSq_flt (q : Nat) (x : Sq) (s : State) : (s.setSq q x).flt = s.flt := rfl
@[simp] theorem State.setSq_thp (q : Nat) (x : Sq) (s : State) : (s.setSq q x).thp = s.thp := rfl
@[simp] theorem State.setSq_cal (q : Nat) (x : Sq) (s : State) : (s.setSq q x).cal = s.cal := rfl
@[simp] theorem State.setSq_upd (q : Nat) (x : Sq) (s : State) : (s.setSq q x).upd = s.upd := rfl
@[simp] theorem State.setSq_obs (q : Nat) (x : Sq) (s : State) : (s.setSq q x).obs = s.obs := rfl
@[simp] theorem State.setSq_sys (q : Nat) (x : Sq) (s : State) : (s.setSq q x).sys = s.sys := rfl

/-! ### State.setCq -/

@[simp] theorem State.setCq_pending (k : Nat) (x : Cq) (s : State) : (s.setCq k x).pending = s.pending := rfl
@[simp] theorem State.setCq_clk (k : Nat) (x : Cq) (s : State) : (s.setCq k x).clk = s.clk := rfl
@[simp] theorem State.setCq_regs (k : Nat) (x : Cq) (s : State) : (s.setCq k x).regs = s.regs := rfl
@[simp] theorem State.setCq_shadows (k : Nat) (x : Cq) (s : State) : (s.setCq k x).shadows = s.shadows := rfl
@[simp] theorem State.setCq_rdata (k : Nat) (x : Cq) (s : State) : (s.setCq k x).rdata = s.rdata := rfl
@[simp] theorem State.setCq_fresh (k : Nat) (x : Cq) (s : State) : (s.setCq k x).fresh = s.fresh := rfl
@[simp] theorem State.setCq_out (k : Nat) (x : Cq) (s : State) : (s.setCq k x).out = s.out := rfl
@[simp] theorem State.setCq_nextItem (k : Nat) (x : Cq) (s : State) : (s.setCq k x).nextItem = s.nextItem := rfl
@[simp] theorem State.setCq_hif (k : Nat) (x : Cq) (s : State) : (s.setCq k x).hif = { s.hif with cqs := tput {} s.hif.cqs k x } := rfl
@[simp] theorem State.setCq_ing (k : Nat) (x : Cq) (s : State) : (s.setCq k x).ing = s.ing := rfl
@[simp] theorem State.setCq_cmp (k : Nat) (x : Cq) (s : State) : (s.setCq k x).cmp = s.cmp := rfl
@[simp] theorem State.setCq_leaves (k : Nat) (x : Cq) (s : State) : (s.setCq k x).leaves = s.leaves := rfl
@[simp] theorem State.setCq_lmp (k : Nat) (x : Cq) (s : State) : (s.setCq k x).lmp = s.lmp := rfl
@[simp] theorem State.setCq_imp (k : Nat) (x : Cq) (s : State) : (s.setCq k x).imp = s.imp := rfl
@[simp] theorem State.setCq_slg (k : Nat) (x : Cq) (s : State) : (s.setCq k x).slg = s.slg := rfl
@[simp] theorem State.setCq_win (k : Nat) (x : Cq) (s : State) : (s.setCq k x).win = s.win := rfl
@[simp] theorem State.setCq_groups (k : Nat) (x : Cq) (s : State) : (s.setCq k x).groups = s.groups := rfl
@[simp] theorem State.setCq_shown (k : Nat) (x : Cq) (s : State) : (s.setCq k x).shown = s.shown := rfl
@[simp] theorem State.setCq_hdrs (k : Nat) (x : Cq) (s : State) : (s.setCq k x).hdrs = s.hdrs := rfl
@[simp] theorem State.setCq_lanes (k : Nat) (x : Cq) (s : State) : (s.setCq k x).lanes = s.lanes := rfl
@[simp] theorem State.setCq_quires (k : Nat) (x : Cq) (s : State) : (s.setCq k x).quires = s.quires := rfl
@[simp] theorem State.setCq_tim (k : Nat) (x : Cq) (s : State) : (s.setCq k x).tim = s.tim := rfl
@[simp] theorem State.setCq_refs (k : Nat) (x : Cq) (s : State) : (s.setCq k x).refs = s.refs := rfl
@[simp] theorem State.setCq_mem (k : Nat) (x : Cq) (s : State) : (s.setCq k x).mem = s.mem := rfl
@[simp] theorem State.setCq_flt (k : Nat) (x : Cq) (s : State) : (s.setCq k x).flt = s.flt := rfl
@[simp] theorem State.setCq_thp (k : Nat) (x : Cq) (s : State) : (s.setCq k x).thp = s.thp := rfl
@[simp] theorem State.setCq_cal (k : Nat) (x : Cq) (s : State) : (s.setCq k x).cal = s.cal := rfl
@[simp] theorem State.setCq_upd (k : Nat) (x : Cq) (s : State) : (s.setCq k x).upd = s.upd := rfl
@[simp] theorem State.setCq_obs (k : Nat) (x : Cq) (s : State) : (s.setCq k x).obs = s.obs := rfl
@[simp] theorem State.setCq_sys (k : Nat) (x : Cq) (s : State) : (s.setCq k x).sys = s.sys := rfl

/-! ### State.setUnit -/

@[simp] theorem State.setUnit_pending (k : Nat) (x : UnitRec) (s : State) : (s.setUnit k x).pending = s.pending := rfl
@[simp] theorem State.setUnit_clk (k : Nat) (x : UnitRec) (s : State) : (s.setUnit k x).clk = s.clk := rfl
@[simp] theorem State.setUnit_regs (k : Nat) (x : UnitRec) (s : State) : (s.setUnit k x).regs = s.regs := rfl
@[simp] theorem State.setUnit_shadows (k : Nat) (x : UnitRec) (s : State) : (s.setUnit k x).shadows = s.shadows := rfl
@[simp] theorem State.setUnit_rdata (k : Nat) (x : UnitRec) (s : State) : (s.setUnit k x).rdata = s.rdata := rfl
@[simp] theorem State.setUnit_fresh (k : Nat) (x : UnitRec) (s : State) : (s.setUnit k x).fresh = s.fresh := rfl
@[simp] theorem State.setUnit_out (k : Nat) (x : UnitRec) (s : State) : (s.setUnit k x).out = s.out := rfl
@[simp] theorem State.setUnit_nextItem (k : Nat) (x : UnitRec) (s : State) : (s.setUnit k x).nextItem = s.nextItem := rfl
@[simp] theorem State.setUnit_hif (k : Nat) (x : UnitRec) (s : State) : (s.setUnit k x).hif = s.hif := rfl
@[simp] theorem State.setUnit_ing (k : Nat) (x : UnitRec) (s : State) : (s.setUnit k x).ing = s.ing := rfl
@[simp] theorem State.setUnit_cmp (k : Nat) (x : UnitRec) (s : State) : (s.setUnit k x).cmp = s.cmp := rfl
@[simp] theorem State.setUnit_leaves (k : Nat) (x : UnitRec) (s : State) : (s.setUnit k x).leaves = s.leaves := rfl
@[simp] theorem State.setUnit_lmp (k : Nat) (x : UnitRec) (s : State) : (s.setUnit k x).lmp = s.lmp := rfl
@[simp] theorem State.setUnit_imp (k : Nat) (x : UnitRec) (s : State) : (s.setUnit k x).imp = s.imp := rfl
@[simp] theorem State.setUnit_slg (k : Nat) (x : UnitRec) (s : State) : (s.setUnit k x).slg = s.slg := rfl
@[simp] theorem State.setUnit_win (k : Nat) (x : UnitRec) (s : State) : (s.setUnit k x).win = s.win := rfl
@[simp] theorem State.setUnit_groups (k : Nat) (x : UnitRec) (s : State) : (s.setUnit k x).groups = s.groups := rfl
@[simp] theorem State.setUnit_shown (k : Nat) (x : UnitRec) (s : State) : (s.setUnit k x).shown = s.shown := rfl
@[simp] theorem State.setUnit_hdrs (k : Nat) (x : UnitRec) (s : State) : (s.setUnit k x).hdrs = s.hdrs := rfl
@[simp] theorem State.setUnit_lanes (k : Nat) (x : UnitRec) (s : State) : (s.setUnit k x).lanes = s.lanes := rfl
@[simp] theorem State.setUnit_quires (k : Nat) (x : UnitRec) (s : State) : (s.setUnit k x).quires = s.quires := rfl
@[simp] theorem State.setUnit_tim (k : Nat) (x : UnitRec) (s : State) : (s.setUnit k x).tim = s.tim := rfl
@[simp] theorem State.setUnit_refs (k : Nat) (x : UnitRec) (s : State) : (s.setUnit k x).refs = s.refs := rfl
@[simp] theorem State.setUnit_mem (k : Nat) (x : UnitRec) (s : State) : (s.setUnit k x).mem = s.mem := rfl
@[simp] theorem State.setUnit_flt (k : Nat) (x : UnitRec) (s : State) : (s.setUnit k x).flt = s.flt := rfl
@[simp] theorem State.setUnit_thp (k : Nat) (x : UnitRec) (s : State) : (s.setUnit k x).thp = s.thp := rfl
@[simp] theorem State.setUnit_cal (k : Nat) (x : UnitRec) (s : State) : (s.setUnit k x).cal = { s.cal with units := tput (unitDflt k) s.cal.units k x } := rfl
@[simp] theorem State.setUnit_upd (k : Nat) (x : UnitRec) (s : State) : (s.setUnit k x).upd = s.upd := rfl
@[simp] theorem State.setUnit_obs (k : Nat) (x : UnitRec) (s : State) : (s.setUnit k x).obs = s.obs := rfl
@[simp] theorem State.setUnit_sys (k : Nat) (x : UnitRec) (s : State) : (s.setUnit k x).sys = s.sys := rfl

/-! ### State.setPc -/

@[simp] theorem State.setPc_pending (k : Nat) (x : Pc) (s : State) : (s.setPc k x).pending = s.pending := rfl
@[simp] theorem State.setPc_clk (k : Nat) (x : Pc) (s : State) : (s.setPc k x).clk = s.clk := rfl
@[simp] theorem State.setPc_regs (k : Nat) (x : Pc) (s : State) : (s.setPc k x).regs = s.regs := rfl
@[simp] theorem State.setPc_shadows (k : Nat) (x : Pc) (s : State) : (s.setPc k x).shadows = s.shadows := rfl
@[simp] theorem State.setPc_rdata (k : Nat) (x : Pc) (s : State) : (s.setPc k x).rdata = s.rdata := rfl
@[simp] theorem State.setPc_fresh (k : Nat) (x : Pc) (s : State) : (s.setPc k x).fresh = s.fresh := rfl
@[simp] theorem State.setPc_out (k : Nat) (x : Pc) (s : State) : (s.setPc k x).out = s.out := rfl
@[simp] theorem State.setPc_nextItem (k : Nat) (x : Pc) (s : State) : (s.setPc k x).nextItem = s.nextItem := rfl
@[simp] theorem State.setPc_hif (k : Nat) (x : Pc) (s : State) : (s.setPc k x).hif = s.hif := rfl
@[simp] theorem State.setPc_ing (k : Nat) (x : Pc) (s : State) : (s.setPc k x).ing = s.ing := rfl
@[simp] theorem State.setPc_cmp (k : Nat) (x : Pc) (s : State) : (s.setPc k x).cmp = s.cmp := rfl
@[simp] theorem State.setPc_leaves (k : Nat) (x : Pc) (s : State) : (s.setPc k x).leaves = s.leaves := rfl
@[simp] theorem State.setPc_lmp (k : Nat) (x : Pc) (s : State) : (s.setPc k x).lmp = s.lmp := rfl
@[simp] theorem State.setPc_imp (k : Nat) (x : Pc) (s : State) : (s.setPc k x).imp = s.imp := rfl
@[simp] theorem State.setPc_slg (k : Nat) (x : Pc) (s : State) : (s.setPc k x).slg = s.slg := rfl
@[simp] theorem State.setPc_win (k : Nat) (x : Pc) (s : State) : (s.setPc k x).win = s.win := rfl
@[simp] theorem State.setPc_groups (k : Nat) (x : Pc) (s : State) : (s.setPc k x).groups = s.groups := rfl
@[simp] theorem State.setPc_shown (k : Nat) (x : Pc) (s : State) : (s.setPc k x).shown = s.shown := rfl
@[simp] theorem State.setPc_hdrs (k : Nat) (x : Pc) (s : State) : (s.setPc k x).hdrs = s.hdrs := rfl
@[simp] theorem State.setPc_lanes (k : Nat) (x : Pc) (s : State) : (s.setPc k x).lanes = s.lanes := rfl
@[simp] theorem State.setPc_quires (k : Nat) (x : Pc) (s : State) : (s.setPc k x).quires = s.quires := rfl
@[simp] theorem State.setPc_tim (k : Nat) (x : Pc) (s : State) : (s.setPc k x).tim = s.tim := rfl
@[simp] theorem State.setPc_refs (k : Nat) (x : Pc) (s : State) : (s.setPc k x).refs = s.refs := rfl
@[simp] theorem State.setPc_mem (k : Nat) (x : Pc) (s : State) : (s.setPc k x).mem = { s.mem with pcs := tput {} s.mem.pcs k x } := rfl
@[simp] theorem State.setPc_flt (k : Nat) (x : Pc) (s : State) : (s.setPc k x).flt = s.flt := rfl
@[simp] theorem State.setPc_thp (k : Nat) (x : Pc) (s : State) : (s.setPc k x).thp = s.thp := rfl
@[simp] theorem State.setPc_cal (k : Nat) (x : Pc) (s : State) : (s.setPc k x).cal = s.cal := rfl
@[simp] theorem State.setPc_upd (k : Nat) (x : Pc) (s : State) : (s.setPc k x).upd = s.upd := rfl
@[simp] theorem State.setPc_obs (k : Nat) (x : Pc) (s : State) : (s.setPc k x).obs = s.obs := rfl
@[simp] theorem State.setPc_sys (k : Nat) (x : Pc) (s : State) : (s.setPc k x).sys = s.sys := rfl

/-! ### State.setCand -/

@[simp] theorem State.setCand_pending (c : Nat) (x : Cand) (s : State) : (s.setCand c x).pending = s.pending := rfl
@[simp] theorem State.setCand_clk (c : Nat) (x : Cand) (s : State) : (s.setCand c x).clk = s.clk := rfl
@[simp] theorem State.setCand_regs (c : Nat) (x : Cand) (s : State) : (s.setCand c x).regs = s.regs := rfl
@[simp] theorem State.setCand_shadows (c : Nat) (x : Cand) (s : State) : (s.setCand c x).shadows = s.shadows := rfl
@[simp] theorem State.setCand_rdata (c : Nat) (x : Cand) (s : State) : (s.setCand c x).rdata = s.rdata := rfl
@[simp] theorem State.setCand_fresh (c : Nat) (x : Cand) (s : State) : (s.setCand c x).fresh = s.fresh := rfl
@[simp] theorem State.setCand_out (c : Nat) (x : Cand) (s : State) : (s.setCand c x).out = s.out := rfl
@[simp] theorem State.setCand_nextItem (c : Nat) (x : Cand) (s : State) : (s.setCand c x).nextItem = s.nextItem := rfl
@[simp] theorem State.setCand_hif (c : Nat) (x : Cand) (s : State) : (s.setCand c x).hif = s.hif := rfl
@[simp] theorem State.setCand_ing (c : Nat) (x : Cand) (s : State) : (s.setCand c x).ing = s.ing := rfl
@[simp] theorem State.setCand_cmp (c : Nat) (x : Cand) (s : State) : (s.setCand c x).cmp = s.cmp := rfl
@[simp] theorem State.setCand_leaves (c : Nat) (x : Cand) (s : State) : (s.setCand c x).leaves = s.leaves := rfl
@[simp] theorem State.setCand_lmp (c : Nat) (x : Cand) (s : State) : (s.setCand c x).lmp = s.lmp := rfl
@[simp] theorem State.setCand_imp (c : Nat) (x : Cand) (s : State) : (s.setCand c x).imp = s.imp := rfl
@[simp] theorem State.setCand_slg (c : Nat) (x : Cand) (s : State) : (s.setCand c x).slg = s.slg := rfl
@[simp] theorem State.setCand_win (c : Nat) (x : Cand) (s : State) : (s.setCand c x).win = s.win := rfl
@[simp] theorem State.setCand_groups (c : Nat) (x : Cand) (s : State) : (s.setCand c x).groups = s.groups := rfl
@[simp] theorem State.setCand_shown (c : Nat) (x : Cand) (s : State) : (s.setCand c x).shown = s.shown := rfl
@[simp] theorem State.setCand_hdrs (c : Nat) (x : Cand) (s : State) : (s.setCand c x).hdrs = s.hdrs := rfl
@[simp] theorem State.setCand_lanes (c : Nat) (x : Cand) (s : State) : (s.setCand c x).lanes = s.lanes := rfl
@[simp] theorem State.setCand_quires (c : Nat) (x : Cand) (s : State) : (s.setCand c x).quires = s.quires := rfl
@[simp] theorem State.setCand_tim (c : Nat) (x : Cand) (s : State) : (s.setCand c x).tim = s.tim := rfl
@[simp] theorem State.setCand_refs (c : Nat) (x : Cand) (s : State) : (s.setCand c x).refs = { s.refs with cands := tput {} s.refs.cands c x } := rfl
@[simp] theorem State.setCand_mem (c : Nat) (x : Cand) (s : State) : (s.setCand c x).mem = s.mem := rfl
@[simp] theorem State.setCand_flt (c : Nat) (x : Cand) (s : State) : (s.setCand c x).flt = s.flt := rfl
@[simp] theorem State.setCand_thp (c : Nat) (x : Cand) (s : State) : (s.setCand c x).thp = s.thp := rfl
@[simp] theorem State.setCand_cal (c : Nat) (x : Cand) (s : State) : (s.setCand c x).cal = s.cal := rfl
@[simp] theorem State.setCand_upd (c : Nat) (x : Cand) (s : State) : (s.setCand c x).upd = s.upd := rfl
@[simp] theorem State.setCand_obs (c : Nat) (x : Cand) (s : State) : (s.setCand c x).obs = s.obs := rfl
@[simp] theorem State.setCand_sys (c : Nat) (x : Cand) (s : State) : (s.setCand c x).sys = s.sys := rfl

/-! ### State.setPout -/

@[simp] theorem State.setPout_pending (o : Nat) (x : Pout) (s : State) : (s.setPout o x).pending = s.pending := rfl
@[simp] theorem State.setPout_clk (o : Nat) (x : Pout) (s : State) : (s.setPout o x).clk = s.clk := rfl
@[simp] theorem State.setPout_regs (o : Nat) (x : Pout) (s : State) : (s.setPout o x).regs = s.regs := rfl
@[simp] theorem State.setPout_shadows (o : Nat) (x : Pout) (s : State) : (s.setPout o x).shadows = s.shadows := rfl
@[simp] theorem State.setPout_rdata (o : Nat) (x : Pout) (s : State) : (s.setPout o x).rdata = s.rdata := rfl
@[simp] theorem State.setPout_fresh (o : Nat) (x : Pout) (s : State) : (s.setPout o x).fresh = s.fresh := rfl
@[simp] theorem State.setPout_out (o : Nat) (x : Pout) (s : State) : (s.setPout o x).out = s.out := rfl
@[simp] theorem State.setPout_nextItem (o : Nat) (x : Pout) (s : State) : (s.setPout o x).nextItem = s.nextItem := rfl
@[simp] theorem State.setPout_hif (o : Nat) (x : Pout) (s : State) : (s.setPout o x).hif = s.hif := rfl
@[simp] theorem State.setPout_ing (o : Nat) (x : Pout) (s : State) : (s.setPout o x).ing = s.ing := rfl
@[simp] theorem State.setPout_cmp (o : Nat) (x : Pout) (s : State) : (s.setPout o x).cmp = s.cmp := rfl
@[simp] theorem State.setPout_leaves (o : Nat) (x : Pout) (s : State) : (s.setPout o x).leaves = s.leaves := rfl
@[simp] theorem State.setPout_lmp (o : Nat) (x : Pout) (s : State) : (s.setPout o x).lmp = s.lmp := rfl
@[simp] theorem State.setPout_imp (o : Nat) (x : Pout) (s : State) : (s.setPout o x).imp = s.imp := rfl
@[simp] theorem State.setPout_slg (o : Nat) (x : Pout) (s : State) : (s.setPout o x).slg = s.slg := rfl
@[simp] theorem State.setPout_win (o : Nat) (x : Pout) (s : State) : (s.setPout o x).win = s.win := rfl
@[simp] theorem State.setPout_groups (o : Nat) (x : Pout) (s : State) : (s.setPout o x).groups = s.groups := rfl
@[simp] theorem State.setPout_shown (o : Nat) (x : Pout) (s : State) : (s.setPout o x).shown = s.shown := rfl
@[simp] theorem State.setPout_hdrs (o : Nat) (x : Pout) (s : State) : (s.setPout o x).hdrs = s.hdrs := rfl
@[simp] theorem State.setPout_lanes (o : Nat) (x : Pout) (s : State) : (s.setPout o x).lanes = s.lanes := rfl
@[simp] theorem State.setPout_quires (o : Nat) (x : Pout) (s : State) : (s.setPout o x).quires = s.quires := rfl
@[simp] theorem State.setPout_tim (o : Nat) (x : Pout) (s : State) : (s.setPout o x).tim = { s.tim with pouts := tput {} s.tim.pouts o x } := rfl
@[simp] theorem State.setPout_refs (o : Nat) (x : Pout) (s : State) : (s.setPout o x).refs = s.refs := rfl
@[simp] theorem State.setPout_mem (o : Nat) (x : Pout) (s : State) : (s.setPout o x).mem = s.mem := rfl
@[simp] theorem State.setPout_flt (o : Nat) (x : Pout) (s : State) : (s.setPout o x).flt = s.flt := rfl
@[simp] theorem State.setPout_thp (o : Nat) (x : Pout) (s : State) : (s.setPout o x).thp = s.thp := rfl
@[simp] theorem State.setPout_cal (o : Nat) (x : Pout) (s : State) : (s.setPout o x).cal = s.cal := rfl
@[simp] theorem State.setPout_upd (o : Nat) (x : Pout) (s : State) : (s.setPout o x).upd = s.upd := rfl
@[simp] theorem State.setPout_obs (o : Nat) (x : Pout) (s : State) : (s.setPout o x).obs = s.obs := rfl
@[simp] theorem State.setPout_sys (o : Nat) (x : Pout) (s : State) : (s.setPout o x).sys = s.sys := rfl

/-! ### State.setRing -/

@[simp] theorem State.setRing_pending (q : Nat) (x : Ring) (s : State) : (s.setRing q x).pending = s.pending := rfl
@[simp] theorem State.setRing_clk (q : Nat) (x : Ring) (s : State) : (s.setRing q x).clk = s.clk := rfl
@[simp] theorem State.setRing_regs (q : Nat) (x : Ring) (s : State) : (s.setRing q x).regs = s.regs := rfl
@[simp] theorem State.setRing_shadows (q : Nat) (x : Ring) (s : State) : (s.setRing q x).shadows = s.shadows := rfl
@[simp] theorem State.setRing_rdata (q : Nat) (x : Ring) (s : State) : (s.setRing q x).rdata = s.rdata := rfl
@[simp] theorem State.setRing_fresh (q : Nat) (x : Ring) (s : State) : (s.setRing q x).fresh = s.fresh := rfl
@[simp] theorem State.setRing_out (q : Nat) (x : Ring) (s : State) : (s.setRing q x).out = s.out := rfl
@[simp] theorem State.setRing_nextItem (q : Nat) (x : Ring) (s : State) : (s.setRing q x).nextItem = s.nextItem := rfl
@[simp] theorem State.setRing_hif (q : Nat) (x : Ring) (s : State) : (s.setRing q x).hif = s.hif := rfl
@[simp] theorem State.setRing_ing (q : Nat) (x : Ring) (s : State) : (s.setRing q x).ing = s.ing := rfl
@[simp] theorem State.setRing_cmp (q : Nat) (x : Ring) (s : State) : (s.setRing q x).cmp = s.cmp := rfl
@[simp] theorem State.setRing_leaves (q : Nat) (x : Ring) (s : State) : (s.setRing q x).leaves = s.leaves := rfl
@[simp] theorem State.setRing_lmp (q : Nat) (x : Ring) (s : State) : (s.setRing q x).lmp = s.lmp := rfl
@[simp] theorem State.setRing_imp (q : Nat) (x : Ring) (s : State) : (s.setRing q x).imp = s.imp := rfl
@[simp] theorem State.setRing_slg (q : Nat) (x : Ring) (s : State) : (s.setRing q x).slg = { s.slg with rings := tput {} s.slg.rings q x } := rfl
@[simp] theorem State.setRing_win (q : Nat) (x : Ring) (s : State) : (s.setRing q x).win = s.win := rfl
@[simp] theorem State.setRing_groups (q : Nat) (x : Ring) (s : State) : (s.setRing q x).groups = s.groups := rfl
@[simp] theorem State.setRing_shown (q : Nat) (x : Ring) (s : State) : (s.setRing q x).shown = s.shown := rfl
@[simp] theorem State.setRing_hdrs (q : Nat) (x : Ring) (s : State) : (s.setRing q x).hdrs = s.hdrs := rfl
@[simp] theorem State.setRing_lanes (q : Nat) (x : Ring) (s : State) : (s.setRing q x).lanes = s.lanes := rfl
@[simp] theorem State.setRing_quires (q : Nat) (x : Ring) (s : State) : (s.setRing q x).quires = s.quires := rfl
@[simp] theorem State.setRing_tim (q : Nat) (x : Ring) (s : State) : (s.setRing q x).tim = s.tim := rfl
@[simp] theorem State.setRing_refs (q : Nat) (x : Ring) (s : State) : (s.setRing q x).refs = s.refs := rfl
@[simp] theorem State.setRing_mem (q : Nat) (x : Ring) (s : State) : (s.setRing q x).mem = s.mem := rfl
@[simp] theorem State.setRing_flt (q : Nat) (x : Ring) (s : State) : (s.setRing q x).flt = s.flt := rfl
@[simp] theorem State.setRing_thp (q : Nat) (x : Ring) (s : State) : (s.setRing q x).thp = s.thp := rfl
@[simp] theorem State.setRing_cal (q : Nat) (x : Ring) (s : State) : (s.setRing q x).cal = s.cal := rfl
@[simp] theorem State.setRing_upd (q : Nat) (x : Ring) (s : State) : (s.setRing q x).upd = s.upd := rfl
@[simp] theorem State.setRing_obs (q : Nat) (x : Ring) (s : State) : (s.setRing q x).obs = s.obs := rfl
@[simp] theorem State.setRing_sys (q : Nat) (x : Ring) (s : State) : (s.setRing q x).sys = s.sys := rfl

/-! ### State.setReg -/

@[simp] theorem State.setReg_pending (o : Nat) (v : Word) (s : State) : (s.setReg o v).pending = s.pending := rfl
@[simp] theorem State.setReg_clk (o : Nat) (v : Word) (s : State) : (s.setReg o v).clk = s.clk := rfl
@[simp] theorem State.setReg_regs (o : Nat) (v : Word) (s : State) : (s.setReg o v).regs = tput (rwReset o) s.regs o v := rfl
@[simp] theorem State.setReg_shadows (o : Nat) (v : Word) (s : State) : (s.setReg o v).shadows = s.shadows := rfl
@[simp] theorem State.setReg_rdata (o : Nat) (v : Word) (s : State) : (s.setReg o v).rdata = s.rdata := rfl
@[simp] theorem State.setReg_fresh (o : Nat) (v : Word) (s : State) : (s.setReg o v).fresh = s.fresh := rfl
@[simp] theorem State.setReg_out (o : Nat) (v : Word) (s : State) : (s.setReg o v).out = s.out := rfl
@[simp] theorem State.setReg_nextItem (o : Nat) (v : Word) (s : State) : (s.setReg o v).nextItem = s.nextItem := rfl
@[simp] theorem State.setReg_hif (o : Nat) (v : Word) (s : State) : (s.setReg o v).hif = s.hif := rfl
@[simp] theorem State.setReg_ing (o : Nat) (v : Word) (s : State) : (s.setReg o v).ing = s.ing := rfl
@[simp] theorem State.setReg_cmp (o : Nat) (v : Word) (s : State) : (s.setReg o v).cmp = s.cmp := rfl
@[simp] theorem State.setReg_leaves (o : Nat) (v : Word) (s : State) : (s.setReg o v).leaves = s.leaves := rfl
@[simp] theorem State.setReg_lmp (o : Nat) (v : Word) (s : State) : (s.setReg o v).lmp = s.lmp := rfl
@[simp] theorem State.setReg_imp (o : Nat) (v : Word) (s : State) : (s.setReg o v).imp = s.imp := rfl
@[simp] theorem State.setReg_slg (o : Nat) (v : Word) (s : State) : (s.setReg o v).slg = s.slg := rfl
@[simp] theorem State.setReg_win (o : Nat) (v : Word) (s : State) : (s.setReg o v).win = s.win := rfl
@[simp] theorem State.setReg_groups (o : Nat) (v : Word) (s : State) : (s.setReg o v).groups = s.groups := rfl
@[simp] theorem State.setReg_shown (o : Nat) (v : Word) (s : State) : (s.setReg o v).shown = s.shown := rfl
@[simp] theorem State.setReg_hdrs (o : Nat) (v : Word) (s : State) : (s.setReg o v).hdrs = s.hdrs := rfl
@[simp] theorem State.setReg_lanes (o : Nat) (v : Word) (s : State) : (s.setReg o v).lanes = s.lanes := rfl
@[simp] theorem State.setReg_quires (o : Nat) (v : Word) (s : State) : (s.setReg o v).quires = s.quires := rfl
@[simp] theorem State.setReg_tim (o : Nat) (v : Word) (s : State) : (s.setReg o v).tim = s.tim := rfl
@[simp] theorem State.setReg_refs (o : Nat) (v : Word) (s : State) : (s.setReg o v).refs = s.refs := rfl
@[simp] theorem State.setReg_mem (o : Nat) (v : Word) (s : State) : (s.setReg o v).mem = s.mem := rfl
@[simp] theorem State.setReg_flt (o : Nat) (v : Word) (s : State) : (s.setReg o v).flt = s.flt := rfl
@[simp] theorem State.setReg_thp (o : Nat) (v : Word) (s : State) : (s.setReg o v).thp = s.thp := rfl
@[simp] theorem State.setReg_cal (o : Nat) (v : Word) (s : State) : (s.setReg o v).cal = s.cal := rfl
@[simp] theorem State.setReg_upd (o : Nat) (v : Word) (s : State) : (s.setReg o v).upd = s.upd := rfl
@[simp] theorem State.setReg_obs (o : Nat) (v : Word) (s : State) : (s.setReg o v).obs = s.obs := rfl
@[simp] theorem State.setReg_sys (o : Nat) (v : Word) (s : State) : (s.setReg o v).sys = s.sys := rfl

/-! ### State.withPending -/

@[simp] theorem State.withPending_pending (s : State) (l : List Instr) : (s.withPending l).pending = l := rfl
@[simp] theorem State.withPending_clk (s : State) (l : List Instr) : (s.withPending l).clk = s.clk := rfl
@[simp] theorem State.withPending_regs (s : State) (l : List Instr) : (s.withPending l).regs = s.regs := rfl
@[simp] theorem State.withPending_shadows (s : State) (l : List Instr) : (s.withPending l).shadows = s.shadows := rfl
@[simp] theorem State.withPending_rdata (s : State) (l : List Instr) : (s.withPending l).rdata = s.rdata := rfl
@[simp] theorem State.withPending_fresh (s : State) (l : List Instr) : (s.withPending l).fresh = s.fresh := rfl
@[simp] theorem State.withPending_out (s : State) (l : List Instr) : (s.withPending l).out = s.out := rfl
@[simp] theorem State.withPending_nextItem (s : State) (l : List Instr) : (s.withPending l).nextItem = s.nextItem := rfl
@[simp] theorem State.withPending_hif (s : State) (l : List Instr) : (s.withPending l).hif = s.hif := rfl
@[simp] theorem State.withPending_ing (s : State) (l : List Instr) : (s.withPending l).ing = s.ing := rfl
@[simp] theorem State.withPending_cmp (s : State) (l : List Instr) : (s.withPending l).cmp = s.cmp := rfl
@[simp] theorem State.withPending_leaves (s : State) (l : List Instr) : (s.withPending l).leaves = s.leaves := rfl
@[simp] theorem State.withPending_lmp (s : State) (l : List Instr) : (s.withPending l).lmp = s.lmp := rfl
@[simp] theorem State.withPending_imp (s : State) (l : List Instr) : (s.withPending l).imp = s.imp := rfl
@[simp] theorem State.withPending_slg (s : State) (l : List Instr) : (s.withPending l).slg = s.slg := rfl
@[simp] theorem State.withPending_win (s : State) (l : List Instr) : (s.withPending l).win = s.win := rfl
@[simp] theorem State.withPending_groups (s : State) (l : List Instr) : (s.withPending l).groups = s.groups := rfl
@[simp] theorem State.withPending_shown (s : State) (l : List Instr) : (s.withPending l).shown = s.shown := rfl
@[simp] theorem State.withPending_hdrs (s : State) (l : List Instr) : (s.withPending l).hdrs = s.hdrs := rfl
@[simp] theorem State.withPending_lanes (s : State) (l : List Instr) : (s.withPending l).lanes = s.lanes := rfl
@[simp] theorem State.withPending_quires (s : State) (l : List Instr) : (s.withPending l).quires = s.quires := rfl
@[simp] theorem State.withPending_tim (s : State) (l : List Instr) : (s.withPending l).tim = s.tim := rfl
@[simp] theorem State.withPending_refs (s : State) (l : List Instr) : (s.withPending l).refs = s.refs := rfl
@[simp] theorem State.withPending_mem (s : State) (l : List Instr) : (s.withPending l).mem = s.mem := rfl
@[simp] theorem State.withPending_flt (s : State) (l : List Instr) : (s.withPending l).flt = s.flt := rfl
@[simp] theorem State.withPending_thp (s : State) (l : List Instr) : (s.withPending l).thp = s.thp := rfl
@[simp] theorem State.withPending_cal (s : State) (l : List Instr) : (s.withPending l).cal = s.cal := rfl
@[simp] theorem State.withPending_upd (s : State) (l : List Instr) : (s.withPending l).upd = s.upd := rfl
@[simp] theorem State.withPending_obs (s : State) (l : List Instr) : (s.withPending l).obs = s.obs := rfl
@[simp] theorem State.withPending_sys (s : State) (l : List Instr) : (s.withPending l).sys = s.sys := rfl

end Sys2Proof.Machine
end

