-- ==== Sys2Proof/Laws/Take.lean ====
section
/-! SUPPORT. Taking a command from a submission queue: not due, refused, accepted; and the item it becomes. -/

namespace Sys2Proof.Machine

open Sys2Proof

theorem takeItem_items (q : Nat) (d a : Slot) (s : State) : (s.takeItem q d a).2.hif.items = s.hif.items ++ [(s.takeItem q d a).1] := rfl
theorem takeItem_id (q : Nat) (d a : Slot) (s : State) : (s.takeItem q d a).1.id = s.nextItem := rfl

/-- A command that is not due changes nothing. -/
theorem takeCmd_skip (f : Form) (acc : Item → State → State) (s : State) (h : f.due s = false) : s.takeCmd f.op f.q f.desc f.auth f.late f.group f.own acc = s := by
  unfold State.takeCmd
  rw [if_neg]
  simpa [Form.due] using h

/-- A command accepted goes on from the state it was taken and checked in. -/
theorem takeCmd_accept (f : Form) (acc : Item → State → State) (s : State) (h : f.accepted s) :
    s.takeCmd f.op f.q f.desc f.auth f.late f.group f.own acc = acc (f.item s) (f.checked s).2 := by
  obtain ⟨h1, h2, h3⟩ := h
  unfold State.takeCmd
  rw [if_pos (by simpa [Form.due] using h1)]
  have e : firstRefusal ((s.takeItem f.q f.desc f.auth).2.commonRefusals (s.takeItem f.q f.desc f.auth).1 f.late f.group ++
      f.own (s.takeItem f.q f.desc f.auth).1 (s.takeItem f.q f.desc f.auth).2) = none := h2
  simp only [e]
  unfold Form.checked at h3 ⊢
  split
  · rename_i c
    rw [if_pos c] at h3
    simp only [Form.taken, Form.item] at h3 ⊢
    simp only [h3]
  · rename_i c
    rfl

/-- A command that a check of the first group refuses. -/
theorem takeCmd_refuse (f : Form) (acc : Item → State → State) (s : State) (st : Status) (det : Nat) (h1 : f.due s = true) (h2 : f.refusal s = some (st, det)) :
    s.takeCmd f.op f.q f.desc f.auth f.late f.group f.own acc = ((f.taken s).refuseWith (f.item s) st det).spoil f.q f.group := by
  unfold State.takeCmd
  rw [if_pos (by simpa [Form.due] using h1)]
  have e : firstRefusal ((s.takeItem f.q f.desc f.auth).2.commonRefusals (s.takeItem f.q f.desc f.auth).1 f.late f.group ++
      f.own (s.takeItem f.q f.desc f.auth).1 (s.takeItem f.q f.desc f.auth).2) = some (st, det) := h2
  simp only [e]
  rfl

/-- A command on SQ15 whose authentication fails. -/
theorem takeCmd_unauth (f : Form) (acc : Item → State → State) (s : State) (det : Nat) (h1 : f.due s = true) (h2 : f.refusal s = none) (h3 : (f.checked s).1 = some det) :
    s.takeCmd f.op f.q f.desc f.auth f.late f.group f.own acc = ((f.checked s).2.refuseWith (f.item s) .refusedAuth det).spoil f.q f.group := by
  unfold State.takeCmd
  rw [if_pos (by simpa [Form.due] using h1)]
  have e : firstRefusal ((s.takeItem f.q f.desc f.auth).2.commonRefusals (s.takeItem f.q f.desc f.auth).1 f.late f.group ++
      f.own (s.takeItem f.q f.desc f.auth).1 (s.takeItem f.q f.desc f.auth).2) = none := h2
  simp only [e]
  unfold Form.checked at h3 ⊢
  split
  · rename_i c
    rw [if_pos c] at h3
    simp only [Form.taken, Form.item] at h3 ⊢
    simp only [h3]
  · rename_i c
    rw [if_neg c] at h3
    cases h3

/-- Each of the 22 commands is taken as its form says. -/
theorem exec_form (c : Instr) (f : Form) (h : formOf c = some f) :
    ∃ acc, ∀ s : State, exec c s = .next ((s.elapse c.dt).takeCmd f.op f.q f.desc f.auth f.late f.group f.own acc) := by
  cases c <;> simp only [formOf, reduceCtorEq, Option.some.injEq] at h <;> subst h <;> exact ⟨_, fun _ => rfl⟩

/-- Authentication moves HIF_FSEQ alone. -/
theorem authenticate_items (i : Item) (buf : List Byte) (s : State) : (State.authenticate i buf s).2.hif.items = s.hif.items := by
  unfold State.authenticate
  dsimp only
  (repeat' split) <;> rfl

/-- The items of the state a command was checked in: those before, and its own. -/
theorem checked_items (f : Form) (s : State) : (f.checked s).2.hif.items = s.hif.items ++ [f.item s] := by
  unfold Form.checked
  split
  · exact authenticate_items _ _ _
  · rfl

/-- An item moved to a phase is among the items. -/
theorem phase_mem (p : Phase) (i : Item) (s : State) (h : i ∈ s.hif.items) : toPhase p i ∈ (s.phase i.id p).hif.items :=
  List.mem_map.2 ⟨i, h, if_pos rfl⟩

/-- The item of a command, moved to a phase from the state it was checked in. -/
theorem checked_phase (p : Phase) (f : Form) (s : State) : toPhase p (f.item s) ∈ ((f.checked s).2.phase (f.item s).id p).hif.items :=
  phase_mem p _ _ (by rw [checked_items]; exact List.mem_append_right _ (List.mem_singleton_self _))

end Sys2Proof.Machine
end

