-- ==== Sys2Proof/Tests/Slice0.lean ====
section
/-! SUPPORT. Tests: ill-formed commands refused, and for every statement a concrete state and operands that meet its hypotheses, clause by clause. Expected values are those of the spec's tables and rules. -/

set_option Elab.async false

open Sys2Proof Sys2Proof.Machine

/-! ### Small operands and states -/

def tIns : Ins := { quire := 0, dir := 0, leaf := 0, session := 9, check := 0, errored := false }
def tFrame : EthFrame := { len := 64, fcsOk := true, vlan := none, udpBad := false, body := .other }
def tQuery : McQuery := { old := false, ipv6 := false, group := none, sources := [] }
def tSheet : LinkSheet := { crcOk := true, rxFom := 0, loop := 0, eqLimit := false, fecCorr := 0, fecUnc := 0, echoValid := false, cumValid := false, turn := 0, asym := 0, cum := 0, rtt := 0 }
def tBreak : BreakRep := { port := 0, epoch := 1, lostS := 0, lostNs := 0 }
def tEnroll : Enroll := { proto := 1, maker := 1, model := 2, serial := 3, fw := 0, lamps := 256, n := 3, weights := 0, budget := 0, driveBits := 16, hopA := 0, hopB := 255 }
def tFlip : FlipRep := { sched := 0, shown := 0, gens := 0, flags := 0, missed := 0, frisket := 0, range := 0, rangeNo := 0, temp := 0, rejected := 0 }
def tResult : ResultRep := { seq := 1, status := 0, applied := 0, data := [] }
def tSrc : PtpSrc := { port := 0, ipv6 := false, addr := 7, domain := 3, clockId := 5, portNo := 1 }
def tAnn : Announce := { prio1 := 1, clkClass := 6, accuracy := 0, variance := 0, prio2 := 1, gm := 0, steps := 0, utcOffset := 37, utcValid := true, logInt := 0 }
def tAddr : DramAddr := { pc := 0, bank := 0, row := 0, col := 0 }
def tEyes : Eyes := { rd := [0, 0, 0, 0, 0], wr := [0, 0, 0, 0, 0] }
def tStraps : Straps := { pcieX4 := false, bankForce := 0, testLock := true }

/-- A slot of an opcode with fields at byte offsets. -/
def tSlot (op : Nat) (l : List (Nat × Nat)) : Slot := BitVec.ofNat 512 (l.foldl (fun v e => v + e.2 * 2 ^ (8 * e.1)) op)
/-- A state with registers that differ from their reset values. -/
def tRegs (l : Tab Word) (s : State) : State := { s with regs := l }
/-- The host section up: ENABLE, every queue enabled with 16 entries, a window over the low 2^40 bytes, and queue q holding three commands. -/
def tQregs : Tab Word := (0x00C, 1) :: (List.range 34).map fun k => (0x208 + 16 * k, 9)
def tWin : Win := { en := true, rd := true, wr := true, base := 0, lim := 2 ^ 40 - 1 }
def tWins : List Win := [tWin, {}, {}, {}, {}, {}, {}, {}]
def tUp (q : Nat) : State := { State.reset with
  clk := 1000 * secU
  regs := tQregs
  hif := { State.reset.hif with ready := true, keyLocked := true, sqs := [(q, { pi := 4 })], linkUp := true, busMaster := true, msixEn := true, wins := tWins }
  sys := { State.reset.sys with stage := 7, endpoint := true, supRun := true } }
/-- A command taken and accepted, refused by its checks, or failing its authentication. -/
def tAcc (c : Instr) (s : State) : Bool := match formOf c with
  | none => false
  | some f => f.due s && decide (f.refusal s = none) && decide ((f.checked s).1 = none)
theorem tAcc_met {c : Instr} {s : State} (h : tAcc c s = true) : ∃ f, formOf c = some f ∧ f.accepted s := by
  unfold tAcc at h
  cases hf : formOf c with
  | none => rw [hf] at h; cases h
  | some f => rw [hf] at h; simp only [Bool.and_eq_true, decide_eq_true_eq] at h; exact ⟨f, rfl, h.1.1, h.1.2, h.2⟩
/-- Every table, item and slug of a state in its form. -/
theorem test_reset_form : State.reset.wellFormed := ⟨by decide +kernel, by decide +kernel, by decide +kernel⟩

/-- Each term fails one check of Instr.wf, which refuses it. -/
theorem test_illFormed1 : ([.layerDefine 0 16 0 0,
    .layerUpdate 0 16 0 0,
    .layerRemove 0 16 0 0,
    .surfaceWrite 0 16 0 0,
    .fenceSignal 0 16 0 0,
    .sceneCommit 0 16 0 0,
    .streamAdmit 0 16 0 0,
    .streamRelease 0 16 0 0,
    .tableLoad 0 16 0 0,
    .tableVerify 0 16 0 0,
    .dimSet 0 16 0 0,
    .colourReference 0 16 0 0,
    .leafAdmit 0 16 0 0,
    .leafCommand 0 16 0 0,
    .quireRebalance 0 16 0 0,
    .leafRetire 0 16 0 0,
    .pulseRealign 0 16 0 0,
    .updateBlock 0 16 0 0,
    .updateActivate 0 16 0 0,
    .faultAck 0 16 0 0,
    .saveCalibration 0 16 0 0,
    .restoreCalibration 0 16 0 0,
    .opcodeRefused 0 16 0 0,
    .sweep 0 (List.replicate 135 0) []] : List Instr).all (fun i => !i.wf) = true := by decide +kernel

/-- Each term fails one check of Instr.wf, which refuses it. -/
theorem test_illFormed2 : ([.sweep 0 (List.replicate 136 0) [(448, List.replicate 8 0)],
    .sweep 0 (List.replicate 136 0) [(0, [])],
    .sweep 0 (List.replicate 136 0) (List.replicate 65 (0, List.replicate 8 0)),
    .holdoffExpiry 0 15,
    .holdoffExpiry 0 34,
    .overflowRecordWrite 0 31,
    .overflowRecordWrite 0 34,
    .queueEnable 0 34 0,
    .registerWrite 0 77824 0 0,
    .rolRead 0 ⟨77824, 0⟩,
    .macEnable 0 8 0,
    .portEnable 0 32 0,
    .packetReceive 0 32 tFrame,
    .membershipQuery 0 32 tQuery,
    .stateChangeReportRepeat 0 32,
    .joinGraceExpiry 0 64,
    .streamAbsenceExpiry 0 64,
    .frameHoldExpiry 0 64,
    .streamBuffersReturn 0 64,
    .tileComplete 0 18 0,
    .slugEncoded 0 9 0 0 0,
    .slugEncoded 0 0 1024 0 0,
    .slugEncoded 0 0 0 4096 0,
    .slugEncoded 0 0 0 0 16] : List Instr).all (fun i => !i.wf) = true := by decide +kernel

/-- Each term fails one check of Instr.wf, which refuses it. -/
theorem test_illFormed3 : ([.proofDecodeDone 0 9 0 0 0 true,
    .proofDecodeDone 0 0 1024 0 0 true,
    .proofDecodeDone 0 0 0 4096 0 true,
    .proofDecodeDone 0 0 0 0 16 true,
    .pageFetch 0 1024 0 true,
    .pageFetch 0 0 256 true,
    .tableVerifyDone 0 ⟨0, some 256⟩,
    .quadEnable 0 16 0,
    .quireEnable 0 16 0,
    .laneLoopWrite 0 80 0,
    .laneRestore 0 80 0,
    .laneAligned 0 80,
    .laneAlignmentLoss 0 80,
    .acquireTimeout 0 80,
    .realignTimeout 0 80,
    .idleNickReceive 0 80 0,
    .idleNickReceive 0 0 65536,
    .idleWakeReceive 0 80 0 true,
    .idleWakeReceive 0 0 65536 true,
    .idleBurstTimeout 0 80,
    .transmitterIdle 0 80,
    .transmitterWake 0 80,
    .linkSheetReceive 0 80 tSheet,
    .codewordUncorrectable 0 80] : List Instr).all (fun i => !i.wf) = true := by decide +kernel

/-- Each term fails one check of Instr.wf, which refuses it. -/
theorem test_illFormed4 : ([.laneFomUpdate 0 80 [0],
    .laneFomUpdate 0 0 [],
    .eqLimit 0 ⟨80, 0, true⟩,
    .eqLimit 0 ⟨0, 17, true⟩,
    .eqLimit 0 ⟨0, 4, true⟩,
    .sliceCheck 0 80 0 0 0 0,
    .sliceCheck 0 0 36 0 0 0,
    .sliceCheck 0 0 0 0 36 0,
    .sliceCheck 0 0 0 256 0 0,
    .sliceCheck 0 0 0 0 0 256,
    .sheetReceive 0 16 0 ⟨1, 0⟩ 0 true,
    .sheetReceive 0 0 2 ⟨1, 0⟩ 0 true,
    .sheetReceive 0 0 0 ⟨0, 0⟩ 0 true,
    .sheetReceive 0 0 0 ⟨1, 65520⟩ 0 true,
    .sheetMissing 0 16 0 0,
    .sheetMissing 0 0 2 0,
    .sheetMissing 0 0 0 65520,
    .breakReceive 0 { tIns with quire := 16 } tBreak true,
    .breakReceive 0 { tIns with dir := 2 } tBreak true,
    .breakReceive 0 { tIns with leaf := 64 } tBreak true,
    .replan 0 16,
    .healComplete 0 16 0,
    .healComplete 0 0 2,
    .rebalanceLaneCheck 0 16] : List Instr).all (fun i => !i.wf) = true := by decide +kernel

/-- Each term fails one check of Instr.wf, which refuses it. -/
theorem test_illFormed5 : ([.replayTimeout 0 1024 0 0,
    .replayTimeout 0 0 4096 0,
    .replayTimeout 0 0 0 16,
    .ackReceive 0 { tIns with quire := 16 } [],
    .ackReceive 0 { tIns with dir := 2 } [],
    .ackReceive 0 { tIns with leaf := 64 } [],
    .enrollReport 0 { tIns with quire := 16 } tEnroll,
    .enrollReport 0 { tIns with dir := 2 } tEnroll,
    .enrollReport 0 { tIns with leaf := 64 } tEnroll,
    .flipReport 0 { tIns with quire := 16 } tFlip,
    .flipReport 0 { tIns with dir := 2 } tFlip,
    .flipReport 0 { tIns with leaf := 64 } tFlip,
    .sensorReport 0 { tIns with quire := 16 } (List.replicate 4 0),
    .sensorReport 0 { tIns with dir := 2 } (List.replicate 4 0),
    .sensorReport 0 { tIns with leaf := 64 } (List.replicate 4 0),
    .sensorReport 0 tIns [0, 0, 0],
    .resultReport 0 { tIns with quire := 16 } tResult,
    .resultReport 0 { tIns with dir := 2 } tResult,
    .resultReport 0 { tIns with leaf := 64 } tResult,
    .checkwordReport 0 { tIns with quire := 16 } 0 0 0,
    .checkwordReport 0 { tIns with dir := 2 } 0 0 0,
    .checkwordReport 0 { tIns with leaf := 64 } 0 0 0,
    .mirrorReport 0 { tIns with quire := 16 } 0 0 0 0,
    .mirrorReport 0 { tIns with dir := 2 } 0 0 0 0] : List Instr).all (fun i => !i.wf) = true := by decide +kernel

/-- Each term fails one check of Instr.wf, which refuses it. -/
theorem test_illFormed6 : ([.mirrorReport 0 { tIns with leaf := 64 } 0 0 0 0,
    .quireAdoptStart 0 16,
    .adoptSend 0 16,
    .adoptingTimeout 0 16,
    .badCountTimeout 0 16,
    .leafLost 0 1024,
    .leafFlipLate 0 1024,
    .timePacketSend 0 16,
    .ptpAnnounce 0 { tSrc with port := 32 } tAnn,
    .ptpSync 0 { tSrc with port := 32 } .twoStep,
    .ptpDelayResp 0 { tSrc with port := 32 } 0 0,
    .pulseModeWrite 0 4 0,
    .pulseTargetCommit 0 4 0,
    .pulseDue 0 4,
    .esmcPdu 0 8 0 true,
    .esmcPdu 0 0 16 true,
    .refqlFrame 0 2 [],
    .qlTimeout 0 10,
    .candidateWindow 0 10 true 0 0,
    .candidateWindow 0 0 true 0 3,
    .candidateEligible 0 10,
    .candidateSignalLoss 0 10,
    .dramRead 0 { tAddr with pc := 64 } .clean .other true,
    .dramRead 0 { tAddr with bank := 32 } .clean .other true] : List Instr).all (fun i => !i.wf) = true := by decide +kernel

/-- Each term fails one check of Instr.wf, which refuses it. -/
theorem test_illFormed7 : ([.dramRead 0 { tAddr with row := 24576 } .clean .other true,
    .dramRead 0 { tAddr with col := 32 } .clean .other true,
    .dramActivate 0 64 0 0,
    .dramActivate 0 0 32 0,
    .dramActivate 0 0 0 24576,
    .refreshWindowEnd 0 2,
    .eyeCheck 0 64 ⟨tEyes, List.replicate 5 (0, 0)⟩,
    .eyeCheck 0 0 ⟨{ tEyes with rd := [0, 0, 0, 0] }, List.replicate 5 (0, 0)⟩,
    .eyeCheck 0 0 ⟨{ tEyes with wr := [0, 0, 0, 0] }, List.replicate 5 (0, 0)⟩,
    .eyeCheck 0 0 ⟨tEyes, []⟩,
    .scrubRead 0 { tAddr with pc := 64 } .clean .other true,
    .scrubRead 0 { tAddr with bank := 32 } .clean .other true,
    .scrubRead 0 { tAddr with row := 24576 } .clean .other true,
    .scrubRead 0 { tAddr with col := 32 } .clean .other true,
    .migrationDone 0 64,
    .sramReadError 0 0 65536 .clean .other,
    .thermalSample 0 [],
    .calrefRunDone 0 128 0,
    .engineBringInDone 0 18 true,
    .entropyHealth 0 0,
    .entropyHealth 0 4,
    .startupStageDone 0 { tStraps with bankForce := 3 } ⟨[], []⟩,
    .startupStageDone 0 tStraps ⟨[64], []⟩,
    .startupStageDone 0 tStraps ⟨[], [(64, 0, 0)]⟩] : List Instr).all (fun i => !i.wf) = true := by decide +kernel

/-- Each term fails one check of Instr.wf, which refuses it. -/
theorem test_illFormed8 : ([.startupStageDone 0 tStraps ⟨[], [(0, 32, 0)]⟩,
    .startupStageDone 0 tStraps ⟨[], [(0, 0, 24576)]⟩,
    .duplicateAddressDetection 0 32,
    .pcRestoreDone 0 64 true ⟨tEyes, []⟩,
    .pcRestoreDone 0 0 true ⟨{ tEyes with rd := [0, 0, 0, 0] }, []⟩,
    .pcRestoreDone 0 0 true ⟨{ tEyes with wr := [0, 0, 0, 0] }, []⟩,
    .pcRestoreDone 0 0 true ⟨tEyes, [(32, 0)]⟩,
    .pcRestoreDone 0 0 true ⟨tEyes, [(0, 24576)]⟩] : List Instr).all (fun i => !i.wf) = true := by decide +kernel

/-- Each term passes every check of Instr.wf. -/
theorem test_wellFormed1 : ([.layerDefine 0 0 0 0,
    .layerUpdate 0 0 0 0,
    .layerRemove 0 0 0 0,
    .surfaceWrite 0 0 0 0,
    .fenceSignal 0 0 0 0,
    .sceneCommit 0 0 0 0,
    .streamAdmit 0 0 0 0,
    .streamRelease 0 0 0 0,
    .tableLoad 0 0 0 0,
    .tableVerify 0 0 0 0,
    .dimSet 0 0 0 0,
    .colourReference 0 0 0 0,
    .leafAdmit 0 0 0 0,
    .leafCommand 0 0 0 0,
    .quireRebalance 0 0 0 0,
    .leafRetire 0 0 0 0,
    .pulseRealign 0 0 0 0,
    .updateBlock 0 0 0 0,
    .updateActivate 0 0 0 0,
    .faultAck 0 0 0 0,
    .saveCalibration 0 0 0 0,
    .restoreCalibration 0 0 0 0,
    .opcodeRefused 0 0 0 0,
    .sweep 0 (List.replicate 136 0) []] : List Instr).all (fun i => i.wf) = true := by decide +kernel

/-- Each term passes every check of Instr.wf. -/
theorem test_wellFormed2 : ([.doorbellStall 0,
    .bufferStaged 0 0 none,
    .holdoffExpiry 0 16,
    .overflowRecordWrite 0 32,
    .hostLinkLoss 0 .hotReset,
    .hostLinkReturn 0 ⟨true, true⟩,
    .hifEnable 0 0,
    .hifQuiesce 0 0,
    .queueEnable 0 0 0,
    .windowCommit 0 0,
    .windowCommitApply 0,
    .fkeyLock 0 0,
    .registerWrite 0 0 0 0,
    .rolRead 0 ⟨0, 0⟩,
    .macEnable 0 0 0,
    .portEnable 0 0 0,
    .packetReceive 0 0 tFrame,
    .membershipQuery 0 0 tQuery,
    .stateChangeReportRepeat 0 0,
    .joinGraceExpiry 0 0,
    .streamAbsenceExpiry 0 0,
    .frameHoldExpiry 0 0,
    .streamBuffersReturn 0 0,
    .commitPoint 0] : List Instr).all (fun i => i.wf) = true := by decide +kernel

/-- Each term passes every check of Instr.wf. -/
theorem test_wellFormed3 : ([.tileComplete 0 0 0,
    .pressCutoff 0,
    .walkerCutoff 0,
    .slugEncoded 0 0 0 0 0,
    .proofDecodeDone 0 0 0 0 0 true,
    .pageFetch 0 0 0 true,
    .tableLoadStaged 0 0,
    .tableVerifyDone 0 ⟨0, none⟩,
    .commitDeadline 0,
    .tick 0,
    .recordGroupClose 0,
    .lmpLeafSelect 0 0,
    .toneMapCommit 0 0,
    .soffsetWrite 0 0,
    .impCommit 0 0,
    .impCheckDone 0,
    .liveWrite 0 0,
    .quadEnable 0 0 0,
    .quireEnable 0 0 0,
    .eqEntryWrite 0 0,
    .laneLoopWrite 0 0 0,
    .laneRestore 0 0 0,
    .laneAligned 0 0,
    .laneAlignmentLoss 0 0] : List Instr).all (fun i => i.wf) = true := by decide +kernel

/-- Each term passes every check of Instr.wf. -/
theorem test_wellFormed4 : ([.acquireTimeout 0 0,
    .realignTimeout 0 0,
    .idleNickReceive 0 0 0,
    .idleWakeReceive 0 0 0 true,
    .idleBurstTimeout 0 0,
    .transmitterIdle 0 0,
    .transmitterWake 0 0,
    .linkSheetReceive 0 0 tSheet,
    .codewordUncorrectable 0 0,
    .laneFomUpdate 0 0 [0],
    .eqLimit 0 ⟨0, 0, true⟩,
    .sliceCheck 0 0 0 0 0 0,
    .sheetReceive 0 0 0 ⟨1, 0⟩ 0 true,
    .sheetMissing 0 0 0 0,
    .breakReceive 0 tIns tBreak true,
    .replan 0 0,
    .healComplete 0 0 0,
    .rebalanceLaneCheck 0 0,
    .replayTimeout 0 0 0 0,
    .ackReceive 0 tIns [],
    .enrollReport 0 tIns tEnroll,
    .flipReport 0 tIns tFlip,
    .sensorReport 0 tIns (List.replicate 4 0),
    .resultReport 0 tIns tResult] : List Instr).all (fun i => i.wf) = true := by decide +kernel

/-- Each term passes every check of Instr.wf. -/
theorem test_wellFormed5 : ([.checkwordReport 0 tIns 0 0 0,
    .mirrorReport 0 tIns 0 0 0 0,
    .quireAdoptStart 0 0,
    .adoptSend 0 0,
    .adoptingTimeout 0 0,
    .badCountTimeout 0 0,
    .leafLost 0 0,
    .leafFlipLate 0 0,
    .timePacketSend 0 0,
    .ptpAnnounce 0 tSrc tAnn,
    .ptpSync 0 tSrc .twoStep,
    .ptpDelayResp 0 tSrc 0 0,
    .delayReqSend 0,
    .announceReceiptTimeout 0 0,
    .timeSnap 0 0,
    .hostStart 0 0,
    .pCommit 0 0,
    .generatorStart 0,
    .pulseModeWrite 0 0 0,
    .pulseTargetCommit 0 0 0,
    .pulseDue 0 0,
    .esmcPdu 0 0 0 true,
    .refqlFrame 0 0 [],
    .qlTimeout 0 0] : List Instr).all (fun i => i.wf) = true := by decide +kernel

/-- Each term passes every check of Instr.wf. -/
theorem test_wellFormed6 : ([.candidateWindow 0 0 true 0 0,
    .candidateEligible 0 0,
    .candidateSignalLoss 0 0,
    .tcxoCompensation 0 0,
    .dramRead 0 tAddr .clean .other true,
    .dramActivate 0 0 0 0,
    .refreshWindowEnd 0 0,
    .eyeCheck 0 0 ⟨tEyes, List.replicate 5 (0, 0)⟩,
    .scrubRead 0 tAddr .clean .other true,
    .trainingTempRecheck 0,
    .migrationDone 0 0,
    .pcRestore 0 0,
    .sramReadError 0 0 0 .clean .other,
    .thermalSample 0 (List.replicate 20 0),
    .supplySample 0 0 0 0,
    .darkRepeat 0,
    .orderlyStopEnd 0,
    .resume 0 0,
    .supervisorWatchdog 0,
    .supervisorRestart 0,
    .calrefRun 0 0 0,
    .calrefRunDone 0 0 0,
    .unitRestore 0 0,
    .engineBringInDone 0 0 true] : List Instr).all (fun i => i.wf) = true := by decide +kernel

/-- Each term passes every check of Instr.wf. -/
theorem test_wellFormed7 : ([.encoderBringInDone 0 true,
    .spareRecordWrite 0,
    .packageVerifyDone 0,
    .activateWriteDone 0 true,
    .activateConditionTimeout 0,
    .warmRestart 0,
    .imageConfirm 0,
    .confirmationDeadline 0,
    .ownerProgram 0 0,
    .ownerLock 0 0,
    .nonceIssue 0,
    .entropyReady 0,
    .entropyHealth 0 1,
    .ingestTrace 0,
    .supplyValid 0,
    .perstRelease 0,
    .perstAssert 0,
    .startupStageDone 0 tStraps ⟨[], []⟩,
    .endpointReady 0,
    .prereadyShutdownRestart 0,
    .duplicateAddressDetection 0 0,
    .pcRestoreDone 0 0 true ⟨tEyes, []⟩,
    .unitRestoreSelftestDone 0 true,
    .resumeComplete 0 true true] : List Instr).all (fun i => i.wf) = true := by decide +kernel

/-- Each term passes every check of Instr.wf. -/
theorem test_wellFormed8 : ([.phaseBuildOutDone 0] : List Instr).all (fun i => i.wf) = true := by decide +kernel

/-! ### The host section -/

/-- HostAndQueuesEnabled (HostEnable): ENABLE asked for with and without the doorbell page in a window that grants READ, and not asked for. -/
theorem test_hostEnable_met :
    (let s : State := { State.reset with hif := { State.reset.hif with ready := true, wins := tWins } }
     (s.elapse 0).hif.ready = true ∧ bit (3 : Word) 0 = true ∧ (s.elapse 0).regBit 0x00C 0 = false ∧ (s.elapse 0).bufOk 0 4096 true false = true) ∧
    (let s : State := { State.reset with hif := { State.reset.hif with ready := true } }
     (s.elapse 0).hif.ready = true ∧ (s.elapse 0).regBit 0x00C 0 = false ∧ (s.elapse 0).bufOk 0 4096 true false = false) ∧ bit (2 : Word) 0 = false := by decide +kernel

/-- HostAndQueuesEnabled (QueueEnable): rings of 2^4 entries of SQ15, CQ0 and the TRQ asked for with and without a window, and at the bounds of LOG2_SIZE. -/
theorem test_queueEnable_met :
    let s : State := { State.reset with hif := { State.reset.hif with wins := tWins } }
    let ok (v : Word) (k : Nat) (s : State) : Prop := 4 ≤ bits v 1 5 ∧ bits v 1 5 ≤ 16 ∧ (s.elapse 0).ringOk k (2 ^ bits v 1 5 * entryBytes k) (decide (k < 16)) (decide (16 ≤ k)) = true
    (s.elapse 0).qEn 15 = false ∧ (s.elapse 0).qEn 16 = false ∧ (s.elapse 0).qEn 33 = false ∧ bit (9 : Word) 0 = true ∧ (s.elapse 0).hif.kept = [] ∧ ok 9 15 s ∧ ok 9 16 s ∧ ok 33 33 s ∧ tabWf (fun _ => ({} : Cq)) s.hif.cqs = true ∧
      bit (7 : Word) 0 = true ∧ ¬ok 7 0 s ∧ ¬ok 35 0 s ∧ ¬ok 9 0 State.reset ∧ tabWf rwReset State.reset.regs = true ∧ bit (8 : Word) 0 = false := by decide +kernel

/-- LinkAndWindows (WindowsCommitTogether): COMMIT with and without a buffer in flight outside the windows of the registers, and both ends of a wait. -/
theorem test_windowsCommitTogether_met :
    let i : Item := { id := 3, sq := 0, slot := 0, cq := 0, opcode := 0x0301, desc := tSlot 0x0301 [(24, 8)], auth := 0, target := 1, phase := .staging }
    let busy : State := { State.reset with hif := { State.reset.hif with items := [i], winPend := some tWins } }
    bit (1 : Word) 0 = true ∧ bit (2 : Word) 0 = false ∧ (State.reset.elapse 0).inFlightOk (State.reset.elapse 0).winRegs = true ∧ (busy.elapse 0).inFlightOk (busy.elapse 0).winRegs = false ∧
      (State.reset.elapse 0).hif.winPend = none ∧ (busy.elapse 0).hif.winPend = some tWins ∧ (busy.elapse 0).inFlightOk tWins = true ∧
      (let s : State := { busy with hif := { busy.hif with winPend := some [] } }
       (s.elapse 0).hif.winPend = some [] ∧ (s.elapse 0).inFlightOk [] = false) := by decide +kernel

/-- FrisketKeyLock: LOCK with the check word of 32 zero bytes and with another, and writes of the first and last register of a locked key. -/
theorem test_frisketKeyLock_met :
    let s (w : Word) : State := { State.reset with hif := { State.reset.hif with keyCheck := w } }
    (State.reset.elapse 0).hif.keyLocked = false ∧ bit (1 : Word) 0 = true ∧ bit (0 : Word) 0 = false ∧
      crc32c ((s 0x8A9136AA).elapse 0).keyBytes = ((s 0x8A9136AA).elapse 0).hif.keyCheck ∧ crc32c ((s 0).elapse 0).keyBytes ≠ ((s 0).elapse 0).hif.keyCheck ∧
      ((tUp 0).elapse 0).hif.keyLocked = true ∧ 0x040 ≤ 0x040 ∧ 0x064 ≤ 0x064 ∧ 0x064 % 4 = 0 := by decide +kernel

/-- Bar0Accesses: each kind of offset that a write leaves alone, and both kinds of read that return 0. -/
theorem test_bar0Accesses_met :
    (2 ≠ 4 ∨ False) ∧ 0x00E % 4 ≠ 0 ∧ regAccess 0x3FC0 = none ∧ regAccess 0x000 = some .ro ∧ regAccess 0x4010 = some .rol ∧ regAccess 0x4014 = some .part ∧ 0x3FC0 < 65536 ∧ 0x3FC0 % 4 = 0 := by decide +kernel

/-- A doorbell page in which every index is n. -/
def tPageOf (n : Nat) : List Byte := (List.range 34).flatMap fun _ => leBytes 4 n

/-- SweepReadsIndices: a sweep due with an index below the ring size and one at it, on submission and completion queues; a queue that is not enabled, and one with an error. -/
theorem test_sweepReadsIndices_met :
    let s : State := { tUp 0 with hif := { (tUp 0).hif with sqs := [(2, { err := true })] }, regs := [(0x00C, 1), (0x208, 9), (0x228, 9), (0x308, 9)] }
    let ix (page : List Byte) (n : Nat) : Nat := leNat ((page.drop (4 * n)).take 4)
    (s.elapse 0).sweepDue = true ∧ tabWf (fun _ => ({} : Sq)) (s.elapse 0).hif.sqs = true ∧ tabWf (fun _ => ({} : Cq)) (s.elapse 0).hif.cqs = true ∧
      (s.elapse 0).qEn 0 = true ∧ ((s.elapse 0).sq 0).err = false ∧ ix (tPageOf 15) 0 < (s.elapse 0).qSize 0 ∧ (s.elapse 0).qSize 0 ≤ ix (tPageOf 16) 0 ∧
      (s.elapse 0).qEn 1 = false ∧ ((s.elapse 0).sq 2).err = true ∧
      (s.elapse 0).qEn 16 = true ∧ ((s.elapse 0).cq 16).halted = false ∧ ix (tPageOf 15) 16 < (s.elapse 0).qSize 16 ∧ (s.elapse 0).qSize 16 ≤ ix (tPageOf 16) 16 := by decide +kernel

/-- SweepsOfTheDoorbellPage (SweepNotDue). -/
theorem test_sweepNotDue_met : (State.reset.elapse 0).sweepDue = false := by decide +kernel

/-- StallsHoldoffsOverflows (DoorbellStall), at the bound of 50 µs and just below it. -/
theorem test_doorbellStall_met :
    let s (d : Nat) : State := { tUp 0 with hif := { (tUp 0).hif with sweepAt := 1000 * secU - 50 * usU + d } }
    let e (d : Nat) := (s d).elapse 0
    (e 0).stallDue = true ∧ (e 1).clk < (e 1).hif.sweepAt + max (8 * (e 1).sweepInterval) (50 * usU) := by decide +kernel

/-- StallsHoldoffsOverflows (HoldoffMessage): IE = 1 and HOLDOFF = 1 µs, exactly elapsed on the EVQ, its vector unmasked and masked. -/
theorem test_holdoffMessage_met :
    let s (m : Tab Word) : State := { tUp 0 with hif := { (tUp 0).hif with msixTab := m, force := [(0x30C + 256, 0x10020)], cqs := [(32, { unsig := 1, firstAt := some (1000 * secU - usU) })] } }
    let e := (s [(3, 0)]).elapse 0
    e.holdoffDue 32 = true ∧ e.vectorOpen (bits (e.irq 32) 0 5) = true ∧ tabWf (fun _ => ({} : Cq)) e.hif.cqs = true ∧
      ((s []).elapse 0).holdoffDue 32 = true ∧ ((s []).elapse 0).vectorOpen (bits (((s []).elapse 0).irq 32) 0 5) = false := by decide +kernel

/-- StallsHoldoffsOverflows (OverflowRecord): room for one record on each of the two queues. -/
theorem test_overflowRecord_met :
    let s : State := { tUp 0 with hif := { (tUp 0).hif with cqs := [(32, { pi := 14, lostNew := 1 }), (33, { pi := 14, lostNew := 3 })] } }
    let e := s.elapse 0
    e.canWrite = true ∧ tabWf (fun _ => ({} : Cq)) e.hif.cqs = true ∧ 0 < (e.cq 32).lostNew ∧ 0 < e.qFree 32 ∧ 0 < (e.cq 33).lostNew ∧ 0 < e.qFree 33 := by decide +kernel

/-- LinkAndWindows (HostLink): a link that is up; one that returns with bus mastering, ENABLE, the supervisor and the EVQ and a record kept; and no endpoint yet. -/
theorem test_hostLink_met :
    let s : State := { tUp 0 with hif := { (tUp 0).hif with linkUp := false, linkLost := true, evqOnce := true, kept := [.rcds [.overflow 3]] } }
    let e := s.elapse 0
    ((tUp 0).elapse 0).hif.linkUp = true ∧ e.sys.endpoint = true ∧ e.regBit 0x00C 0 = true ∧ e.sys.supRun = true ∧ e.hif.evqOnce = true ∧ e.qEn 32 = true ∧ (State.reset.elapse 0).sys.endpoint = false := by decide +kernel

/-- StallsHoldoffsOverflows (EntryBytes): queues of the range, an absent trace and one that is there. -/
theorem test_entryBytes_met : 15 < 16 ∧ (none : Option Trace) = none ∧ 5 < 6 := by decide +kernel

/-- RegistersStoreAndRead (RegistersStore): INTERVAL, and SLG_CTRL. -/
theorem test_registersStore_met : 0x018 ∈ plainRegs ∧ regAccess 0x018 = some .rw ∧ 0x5004 ∈ plainRegs ∧ regAccess 0x5004 = some .rw ∧ tabWf rwReset ((State.reset.elapse 0).regs) = true := by decide +kernel

/-- RegisterWriteIsCommand: the last of each row of registers. -/
theorem test_registerWriteIsCommand_met : 33 ≤ 33 ∧ 7 < 8 ∧ 31 < 32 ∧ 15 < 16 ∧ 79 < 80 ∧ 3 < 4 := by decide +kernel

/-- RegistersStoreAndRead (RolReadsAreCoherent): the partners of IMP_COUNT, and tables in their form. -/
theorem test_rolReadsAreCoherent_met : tabWf (fun _ => (0 : Word)) (State.reset.elapse 0).shadows = true ∧ 0x4014 < 65536 ∧ 0x4014 % 4 = 0 ∧ regAccess 0x4014 = some .part ∧ regAccess 0x4020 = some .part := by decide +kernel

/-- RegistersStoreAndRead (OtherSpaces): the last word of the MSI-X table, and the table in its form. -/
theorem test_otherSpaces_met : 127 < 128 ∧ 31 < 32 ∧ tabWf msixDflt ((tUp 0).elapse 0).hif.msixTab = true ∧ ((tUp 0).elapse 0).sys.endpoint = true := by decide +kernel

/-- Little-endian bytes of a completion, of an EVQ record and of a TRQ record (R5, R67, Tables 2-11, 13-5, 16-2). -/
theorem test_entry_bytes :
    let c : Completion := { tag := 0x04030201, sq := 3, slot := 0x0605, opcode := 0x0101, status := .done, detail := 0, imp := 9, result := 0, final := true, unknown := false, clamped := false }
    (c.bytes true).take 10 = [1, 2, 3, 4, 3, 0, 5, 6, 1, 1] ∧ (c.bytes true).drop 30 = [1, 0x80] ∧ ((Rec.overflow 3).bytes false).take 2 = [4, 0] ∧ (trqBytes none 3 true).drop 30 = [1, 0] := by decide +kernel

/-! ### The host commands -/

/-- A live module with something for every command to act on: layers 0 (a stream) and 1 (a surface), a stream of every state, a quire with one enrolled leaf in use, its table, a drive and a photometry reading of it, a running servo, an entropy source that is up and a verified package. -/
def tFmt : Nat := 1 * 2 ^ 64 + 1 * 2 ^ 80 + 1 * 2 ^ 96 + 8 * 2 ^ 104 + 60 * 2 ^ 128 + 1 * 2 ^ 160 + 2 * 2 ^ 200 + 96 * 2 ^ 224
def tStream (st : StreamSt) : Stream := { st := st, fmt := BitVec.ofNat 256 tFmt }
def tLeg (p : Nat) : Leg := { port := p, ipv6 := false, group := 0xE0000200, src := 0x0A000002, udp := 9 }
def tLeaf : Leaf := { State.reset.leaf 0 with unit := .inService, newSession := false, enrolled := true, q := [(5, 1000 * secU), (5, 1000 * secU), (5, 1000 * secU), (5, 1000 * secU)], drive := [(0, [16, 16, 16, 16], [1, 1, 1, 1])], table := some { id := 1, crc := 0, pages := [], alloc := 9 } }
def tSq (q : Nat) : State :=
  let s := tUp q
  { s with
    nextItem := 50
    regs := (0x00C, 1) :: (List.range 34).map (fun k => (0x208 + 16 * k, (9 : Word))) ++ [(0x1020, 0x120), (0x1800, 7), (0x7100, 3)]
    cmp := { s.cmp with layers := [(0, { st := .placed, dstW := 16, dstH := 16 }), (1, { st := .defined, surface := true, surfW := 4, surfH := 4 })] }
    ing := { s.ing with streams := [(0, tStream .receiving), (1, { tStream .defined with red := some (tLeg 1) }), (3, { tStream .joining with frisket := true })] }
    leaves := [(0, tLeaf)]
    quires := [(0, { st := .running })]
    tim := { s.tim with valid := true, genRun := true }
    thp := { s.thp with writeOk := true, samples := (List.range 12).map fun k => (k, [400]) }
    upd := { s.upd with entReady := true, nonceOnce := true, st := .verified, staged := some { total := 4096, granules := [], alloc := 1, verified := true, version := 5, manifest := 1 } } }

/-- An authentication block with a tag over the descriptor, itself and no buffer (R85), under the key of 32 zero bytes. -/
def tAuth (d : Slot) (n : Nat) : Slot := BitVec.ofNat 512 (n + leNat (hmac256 (leBytes 32 0) (slotBytes d ++ (leBytes 32 n))) * 2 ^ 256)

/-- CommandsWaitToLand, ItemTaken, LayerCommandsTaken, BuffersAreStaged, StreamAdmitted, FenceSignalled, FaultsAcknowledged, CalibrationSaved: a command of each opcode accepted, fields at their bounds. -/
theorem test_sceneCommands_accepted :
    tAcc (.layerDefine 0 0 (tSlot 0x0101 [(32, 2), (35, 1), (36, 4), (44, 4), (46, 4)]) 0) (tSq 0) = true ∧
    tAcc (.layerDefine 0 0 (tSlot 0x0101 [(32, 62)]) 0) (tSq 0) = true ∧ tAcc (.layerDefine 0 0 (tSlot 0x0101 [(32, 62), (33, 255)]) 0) (tSq 0) = true ∧
    tAcc (.layerUpdate 0 0 (tSlot 0x0102 [(35, 2), (60, 5)]) 0) (tSq 0) = true ∧ tAcc (.layerUpdate 0 0 (tSlot 0x0102 [(33, 1), (35, 2), (60, 5)]) 0) (tSq 0) = true ∧
    tAcc (.layerRemove 0 0 (tSlot 0x0103 []) 0) (tSq 0) = true ∧ tAcc (.layerRemove 0 0 (tSlot 0x0103 [(33, 1)]) 0) (tSq 0) = true ∧
    tAcc (.surfaceWrite 0 0 (tSlot 0x0104 [(24, 4), (32, 1), (40, 1), (42, 1), (44, 4)]) 0) (tSq 0) = true ∧
    (let d := tSlot 0x0104 [(24, 4), (32, 1), (35, 1), (40, 1), (42, 1), (44, 4), (48, 447), (52, 7)]
     tAcc (.surfaceWrite 0 0 d 0) (tSq 0) = true ∧ wrFenced d = true ∧ (tSq 0).fenceReached (prm d 16 2) (prm d 20 8) = false) ∧
    tAcc (.fenceSignal 0 0 (tSlot 0x0105 [(32, 447), (40, 5)]) 0) (tSq 0) = true ∧ (∀ x ∈ (tSq 0).hif.items, x.id ≠ (tSq 0).nextItem) := by decide +kernel

theorem test_streamCommands_accepted :
    tAcc (.streamAdmit 0 0 (tSlot 0x0201 [(32, tFmt), (33, 63)]) 0) (tSq 0) = true ∧
    tAcc (.streamAdmit 0 0 (tSlot 0x0201 [(32, 1), (33, 0), (36, 0xE5), (39, 1), (48, 10), (51, 1), (40, 9)]) 0) (tSq 0) = true ∧
    tAcc (.streamRelease 0 0 (tSlot 0x0202 [(33, 1)]) 0) (tSq 0) = true ∧ tabWf (fun _ => ({} : Stream)) ((tSq 0).elapse 0).ing.streams = true := by decide +kernel

theorem test_tableAndLeafCommands_accepted :
    tAcc (.tableLoad 0 0 (tSlot 0x0301 [(24, 4), (34, 1)]) 0) (tSq 0) = true ∧ tAcc (.tableVerify 0 0 (tSlot 0x0302 []) 0) (tSq 0) = true ∧
    tAcc (.dimSet 0 0 (tSlot 0x0303 [(32, 1), (33, 15), (34, 63), (35, 31)]) 0) (tSq 0) = true ∧ tAcc (.dimSet 0 0 (tSlot 0x0303 []) 0) (tSq 0) = true ∧
    tAcc (.colourReference 0 0 (tSlot 0x0304 [(32, 0), (35, 3), (36, 100)]) 0) (tSq 0) = true ∧ tAcc (.colourReference 0 0 (tSlot 0x0304 [(32, 1)]) 0) (tSq 0) = true ∧
    tAcc (.leafAdmit 0 0 (tSlot 0x0401 [(34, 1)]) 0) (tSq 0) = true ∧ tAcc (.leafCommand 0 0 (tSlot 0x0402 [(34, 0x8000)]) 0) (tSq 0) = true ∧
    tAcc (.leafCommand 0 0 (tSlot 0x0402 [(24, 1024), (34, 0xFFFF), (36, 1024)]) 0) (tSq 0) = true ∧
    tAcc (.quireRebalance 0 0 (tSlot 0x0403 [(33, 3), (34, 1)]) 0) (tSq 0) = true ∧ tAcc (.leafRetire 0 0 (tSlot 0x0404 []) 0) (tSq 0) = true := by decide +kernel

theorem test_moduleCommands_accepted :
    tAcc (.pulseRealign 0 0 (tSlot 0x0502 [(32, 15)]) 0) (tSq 0) = true ∧ tAcc (.updateBlock 0 0 (tSlot 0x0601 [(24, 4096), (33, 1), (40, 4096)]) 0) (tSq 0) = true ∧
    tAcc (.updateBlock 0 0 (tSlot 0x0601 [(24, 228), (32, 1)]) 0) (tSq 0) = true ∧ tAcc (.faultAck 0 0 (tSlot 0x0701 [(32, 0x0101), (40, 1)]) 0) (tSq 0) = true ∧
    tAcc (.faultAck 0 0 (tSlot 0x0701 []) 0) (tSq 0) = true ∧ tAcc (.saveCalibration 0 0 (tSlot 0x0702 [(24, 0x100000), (32, 31)]) 0) (tSq 0) = true ∧
    tAcc (.restoreCalibration 0 0 (tSlot 0x0703 [(24, 64)]) 0) (tSq 0) = true := by decide +kernel

/-- UpdateActivated (ActivationStarts): a verified package of VERSION 5, with the other bank empty and with it WRITTEN with the staged manifest. -/
theorem test_activationStarts_met :
    let c : Instr := .updateActivate 0 0 (tSlot 0x0602 [(32, 5)]) 0
    let s := tSq 0
    let b : Bank := { st := .written, manifest := 1 }
    let t : State := { s with upd := { s.upd with bankA := b, bankB := b } }
    tAcc c s = true ∧ (s.elapse 0).upd.staged.isSome = true ∧ ¬((s.elapse 0).upd.other.st = .written) ∧ tAcc c t = true ∧ (t.elapse 0).upd.other.st = .written ∧ (t.elapse 0).upd.other.manifest = 1 := by decide +kernel

/-- SceneCommitTaken: a group of one held member taken, spoiled and abandoned, with wall settings and without. -/
theorem test_sceneCommitTaken_met :
    let s := tSq 3
    let it : Item := { id := 3, sq := 3, slot := 0, cq := 0, opcode := 0x0102, desc := tSlot 0x0102 [(33, 1)], auth := 0, target := 1, phase := .held }
    let t : State := { s with hif := { s.hif with items := [it] } }
    let c := tSlot 0x0110 [(32, 1)]
    let ab := tSlot 0x0110 [(32, 1), (33, 1)]
    tAcc (.sceneCommit 0 3 c 0) t = true ∧ (t.elapse 0).itemsOk = true ∧ cmAbandon c = false ∧ (3, prm c 0 1) ∉ (t.elapse 0).cmp.spoiled ∧ t.heldMembers 3 1 = [it] ∧ it.phase = .held ∧ isFenced it.desc = false ∧ cmWall c = false ∧
      (let z : State := { t with cmp := { t.cmp with spoiled := [(3, 1)] } }
       tAcc (.sceneCommit 0 3 c 0) z = true ∧ (3, prm c 0 1) ∈ (z.elapse 0).cmp.spoiled) ∧
      tAcc (.sceneCommit 0 3 ab 0) t = true ∧ cmAbandon ab = true ∧ cmWall ab = false ∧ (∀ x ∈ (t.elapse 0).hif.items, x.phase ≠ .waiting) := by decide +kernel

/-- SceneCommitTaken: on SQ15, a commit of no member with wall settings. -/
theorem test_wallCommit_met :
    let d := tSlot 0x0110 [(32, 1), (33, 2), (36, 10000)]
    tAcc (.sceneCommit 0 15 d (tAuth d 9)) (tUp 15) = true ∧ cmWall d = true ∧ (tUp 15).heldMembers 15 1 = [] := by decide +kernel

/-- RefusedAtTake (NotTaken): no ENABLE, and another opcode at the head; SQ15 with one slot of two. -/
theorem test_notTaken_met :
    let f : Form := ⟨0x0105, 0, tSlot 0x0105 [], 0, false, 0, fenceRefusals⟩
    f.due (State.reset.elapse 0) = false ∧ ({ f with desc := tSlot 0x0106 [] } : Form).due ((tUp 0).elapse 0) = false ∧ (State.reset.elapse 0).takes 0 = false ∧
      (let s : State := { tUp 15 with hif := { (tUp 15).hif with sqs := [(15, { pi := 1 })] } }
       (s.elapse 0).takes 15 = false) := by decide +kernel

/-- RefusedAtTake: a fence beyond the last, a Frisket fence on SQ0, and on SQ15 a tag that fails; a grouped layer command refused. -/
theorem test_refusedAtTake_met :
    let f (q : Nat) (d : Slot) : Form := ⟨0x0105, q, d, 0, false, 0, fenceRefusals⟩
    let a := f 0 (tSlot 0x0105 [(32, 480)])
    let b := f 0 (tSlot 0x0105 [(32, 448)])
    let c := f 15 (tSlot 0x0105 [(32, 479)])
    let g : Form := ⟨0x0103, 0, tSlot 0x0103 [(32, 5), (33, 7)], 0, true, 7, removeRefusals⟩
    a.due ((tUp 0).elapse 0) = true ∧ a.refusal ((tUp 0).elapse 0) = some (.refusedMalformed, 0) ∧ b.refusal ((tUp 0).elapse 0) = some (.refusedAuth, 3) ∧
      c.due ((tUp 15).elapse 0) = true ∧ c.refusal ((tUp 15).elapse 0) = none ∧ (c.checked ((tUp 15).elapse 0)).1 = some 0 ∧
      g.due ((tUp 0).elapse 0) = true ∧ g.refusal ((tUp 0).elapse 0) = some (.refusedState, 1) ∧ g.group ≠ 0 ∧ (∀ x ∈ ((tUp 0).elapse 0).hif.items, x.id ≠ ((tUp 0).elapse 0).nextItem) := by decide +kernel

/-- A fence.signal with a good tag is taken on SQ15, and one whose SEQ was used is refused (R85). -/
theorem test_sq15_tag :
    let d := tSlot 0x0105 [(32, 448), (40, 5)]
    tAcc (.fenceSignal 0 15 d (tAuth d 9)) (tUp 15) = true ∧
      (let s : State := { tUp 15 with hif := { (tUp 15).hif with fseq := 9 } }
       tAcc (.fenceSignal 0 15 d (tAuth d 9)) s = false) := by decide +kernel

/-- OpcodeRefused: an opcode of no table, and table.load on SQ15. -/
theorem test_opcodeRefused_met :
    cmdInfo (dOp (tSlot 0 [])) = none ∧ ((tUp 0).elapse 0).takes 0 = true ∧ ((cmdInfo (dOp (tSlot 0x0301 []))).any fun x => !x.1) = true ∧ ((tUp 15).elapse 0).takes 15 = true ∧
      (∀ x ∈ ((tUp 0).elapse 0).hif.items, x.id ≠ ((tUp 0).elapse 0).nextItem) := by decide +kernel

/-- An item whose buffer of two bytes is being read, of opcode op with fields at byte offsets; and a state in which it is. -/
def tIt (q op : Nat) (l : List (Nat × Nat)) : Item := { id := 3, sq := q, slot := 0, cq := 0, opcode := BitVec.ofNat 16 op, desc := tSlot op ((24, 2) :: l), auth := 0, target := 1, phase := .staging }
def tOn (i : Item) : State := let s := tSq 0; { s with hif := { s.hif with items := [i] } }
/-- An item of the package block of bytes 1 and 2, and a state receiving a package. -/
def tBlk (total kind first : Nat) : Item := tIt 0 0x0601 [(32, kind), (33, first), (40, total), (44, (crc32c [1, 2]).toNat)]
def tPack (i : Item) (g : Staged) : State := let s := tOn i; { s with upd := { s.upd with st := .receiving, staged := some g } }
/-- A surface.write of one pixel being read, to layer 1 with the versions given. -/
def tWr : Item := { tIt 0 0x0104 [] with desc := tSlot 0x0104 [(24, 4), (32, 1), (40, 1), (42, 1), (44, 4)] }
def tSurf (vs : List SurfVer) : State := let s := tOn tWr; { s with cmp := { s.cmp with layers := [(1, { st := .placed, surface := true, surfW := 4, surfH := 4, vers := vs, allocs := vs.map fun v => v.id })] } }
def tVer (n : Nat) : SurfVer := { id := n, item := 90 + n, sq := 0, stagedAt := 0, from_ := 0, rect := (0, 0, 1, 1), own := [0], px := [], blocks := [] }

/-- BufferRead: the first staging item of its queue of each kind of buffer, on SQ0 and on SQ15; no such item; an item that only waits. -/
theorem test_bufferRead_met :
    let a := tIt 0 0x0301 []
    let e := (tOn a).elapse 0
    let q := tIt 15 0x0104 []
    e.item? 3 = some a ∧ a.phase = .staging ∧ e.stagesNext a = true ∧ e.hif.linkUp = true ∧ [(1 : Byte), 2].length = dLen a.desc ∧ a.sq ≠ 15 ∧
      (let c := tIt 0 0x0402 []
       ((tOn c).elapse 0).item? 3 = some c ∧ ((tOn c).elapse 0).stagesNext c = true ∧ c.opcode = 0x0402) ∧
      ((tOn q).elapse 0).item? 3 = some q ∧ ((tOn q).elapse 0).stagesNext q = true ∧ q.sq = 15 ∧ dLen q.desc ≠ 0 ∧
      e.item? 4 = none ∧ ((tOn (toPhase .waiting a)).elapse 0).item? 3 = some (toPhase .waiting a) ∧ (toPhase .waiting a).phase ≠ .staging := by decide +kernel

/-- BufferRead, surface.write: a place for its version, none left, and an earlier write that waits. -/
theorem test_surfaceRead_met :
    let e := (tSurf []).elapse 0
    let f := (tSurf [tVer 1, tVer 2, tVer 3]).elapse 0
    let g : State := ({ tSurf [] with hif := { (tSurf []).hif with items := [{ tWr with id := 2, phase := .waiting }, tWr] } } : State).elapse 0
    e.item? 3 = some tWr ∧ e.stagesNext tWr = true ∧ [(1 : Byte), 2, 3, 4].length = dLen tWr.desc ∧ e.waitsAhead tWr = false ∧ (e.makeRoom tWr).isSome = true ∧
      f.item? 3 = some tWr ∧ f.stagesNext tWr = true ∧ f.makeRoom tWr = none ∧ g.item? 3 = some tWr ∧ g.stagesNext tWr = true ∧ g.waitsAhead tWr = true := by decide +kernel

/-- BufferRead, package blocks: one that completes a package, one that leaves it open, one of a package already complete, a wrong CRC-32C, and a first block with room, over a package whose last block is still being checked. -/
theorem test_blockRead_met :
    let b := tBlk 2 0 0
    let g : Staged := { total := 2, granules := [], alloc := 1 }
    let ok (i : Item) (g : Staged) : Prop := ((tPack i g).elapse 0).item? 3 = some i ∧ ((tPack i g).elapse 0).stagesNext i = true ∧ ubKind i.desc = 0 ∧ (crc32c [1, 2]).toNat = prm i.desc 12 4 ∧ ubFirst i.desc = false ∧
      ((tPack i g).elapse 0).upd.staged = some g ∧ ((tPack i g).elapse 0).noBlock i.desc = false
    let full (i : Item) (g : Staged) : Bool := ({ g with granules := putBlock (ubOff i.desc) [1, 2] g.granules } : Staged).full
    let k := tBlk 8192 0 0
    let h : Staged := { g with total := 8192 }
    ok b g ∧ full b g = true ∧ g.item = none ∧ ok k h ∧ full k h = false ∧ ok b { g with item := some 7 } ∧ (some 7 : Option Nat) ≠ none ∧ (crc32c [2, 2]).toNat ≠ prm b.desc 12 4 := by decide +kernel

theorem test_firstBlockRead_met :
    let b := tBlk 2 0 1
    let j : Item := { id := 60, sq := 1, slot := 0, cq := 0, opcode := 0x0601, desc := tSlot 0x0601 [], auth := 0, target := 1, phase := .working }
    let g : Staged := { total := 2, granules := [], alloc := 1, item := some 60 }
    let s := tPack b g
    let e := ({ s with hif := { s.hif with items := [b, j] } } : State).elapse 0
    e.item? 3 = some b ∧ e.stagesNext b = true ∧ ubFirst b.desc = true ∧ ((e.release e.stagedAllocs).alloc clsBulk (extents (ubTotal b.desc))).isSome = true ∧ e.upd.staged = some g ∧ g.item = some j.id ∧
      e.item? j.id = some j ∧ j.id ≠ 3 ∧ j.late = false := by decide +kernel

/-- BufferRead, tokens and calibration images: a token without a live nonce; an image that is none, one of another module, one of this module, with a run in progress and without. -/
theorem test_tokenAndImageRead_met :
    let k := tBlk 2 1 0
    let c : Item := { tIt 0 0x0703 [] with desc := tSlot 0x0703 [(24, 64)] }
    ubKind k.desc ≠ 0 ∧ ((tOn k).elapse 0).item? 3 = some k ∧ ((tOn k).elapse 0).stagesNext k = true ∧ ((tOn k).elapse 0).upd.nonceLive = false ∧
      ((tOn c).elapse 0).item? 3 = some c ∧ ((tOn c).elapse 0).stagesNext c = true ∧ (List.replicate 64 (0 : Byte)).length = dLen c.desc ∧ imageOf (List.replicate 64 0) = none ∧ ((tOn c).elapse 0).cal.running = false := by decide +kernel

/-- The 64 bytes of a calibration image without sections, of module 0 (R477, Table 17-4). -/
def tImage : List Byte :=
  let b : List Byte := leBytes 4 0x4B43414C ++ leBytes 2 1 ++ leBytes 2 0 ++ leBytes 4 64 ++ leBytes 4 0 ++ List.replicate 48 0
  b.take 12 ++ leBytes 4 (crc32c b).toNat ++ b.drop 16
theorem test_image_good : (imageOf tImage).isSome = true := by decide +kernel

/-- FenceSignalled: a write that awaits the fence with a value at the signalled one; the commit point not here and here. -/
theorem test_fenceSignalled_met :
    let d := tSlot 0x0105 [(32, 447), (40, 5)]
    let w : Item := { tIt 0 0x0104 [] with desc := tSlot 0x0104 [(24, 4), (32, 1), (35, 1), (40, 1), (42, 1), (44, 4), (48, 447), (52, 5)], phase := .fencing }
    let s := tSq 0
    let t : State := { s with hif := { s.hif with items := [w] } }
    let due : State := { t with tim := { t.tim with ticks := 1, time := 1000 * secU } }
    tAcc (.fenceSignal 0 0 d 0) t = true ∧ (∀ x ∈ (t.elapse 0).hif.items, x.id ≠ (t.elapse 0).nextItem) ∧ (t.elapse 0).commitDue = false ∧ w ∈ (t.elapse 0).hif.items ∧ w.phase = .fencing ∧ (fenceOf w).1 = prm d 0 2 ∧ (fenceOf w).2 ≤ prm d 8 8 ∧
      tAcc (.fenceSignal 0 0 d 0) due = true ∧ (∀ x ∈ (due.elapse 0).hif.items, x.id ≠ (due.elapse 0).nextItem) ∧ (due.elapse 0).commitDue = true := by decide +kernel

/-- FaultsAckedCalibrationSaved (FaultsAcknowledged): an entry with an occurrence at UPTO, named by the command. -/
theorem test_faultsAcknowledged_met :
    let s := tSq 0
    let x : Entry := { src := .streamLoss, inst := 1, occs := [{ seq := 2, level := 1, open_ := 1 }, { seq := 5, level := 1, open_ := 1 }] }
    let e := ({ s with flt := { s.flt with seq := 5, entries := [(3, x)] } } : State).elapse 0
    tabWf (fun _ => noEntry) e.flt.entries = true ∧ (∀ x ∈ e.hif.items, x.id ≠ e.nextItem) ∧ ackNames (tSlot 0x0701 []) x = true ∧ serLe 5 (5 : Word) = true := by decide +kernel

/-- CommandsWait and LayerCommandsTaken through their acceptance. -/
theorem test_accepted_form : ∃ f, formOf (.layerDefine 0 0 (tSlot 0x0101 [(32, 62), (33, 255)]) 0) = some f ∧ f.accepted (tSq 0) ∧ grpNo (tSlot 0x0101 [(32, 62), (33, 255)]) ≠ 0 := by
  obtain ⟨f, h, k⟩ := tAcc_met test_sceneCommands_accepted.2.2.1
  exact ⟨f, h, k, by decide +kernel⟩

/-! ### Ingest -/

def tMacOk (v : Word) (s : State) : Bool := bit v 8 && bits v 4 2 != 3 && (s.elapse 0).quadEth (bits v 0 4) &&
  (List.range 8).all fun n => n == 7 || !(s.elapse 0).regBit (0x1020 + 4 * n) 8 || (s.elapse 0).regBits (0x1020 + 4 * n) 0 4 != bits v 0 4

/-- MacAndPortEnable (MacEnable): EN taken, refused for each of its conditions, kept, and kept by an enabled port. -/
theorem test_macEnable_met :
    let s : State := { State.reset with regs := [(0x6040, 3)] }
    (s.elapse 0).regBit (macReg 7) 8 = false ∧ tMacOk 0x120 s = true ∧ tMacOk 0x130 s = false ∧ tMacOk 0x12F s = false ∧ tMacOk 0x020 s = false ∧
      tMacOk 0x120 { s with regs := [(0x1020, 0x100), (0x6040, 3)] } = false ∧ ((s.elapse 0).lane 3).unit = .inService ∧ ((s.elapse 0).lane 4).subst = false ∧
      ((tSq 0).elapse 0).regBit (macReg 0) 8 = true ∧ ((tSq 0).elapse 0).regBit (portReg 0) 0 = true := by decide +kernel

/-- MacAndPortEnable (MacEnable): EN cleared with lanes at work and no port of the MAC enabled. -/
theorem test_macDisable_met :
    let s := tSq 0
    let e := ({ s with regs := [(0x1020, 0x120), (0x6040, 3)], lanes := [(0, { State.reset.lane 0 with func := 1, link := .up })], ing := { s.ing with ports := [(0, { link := true })] } } : State).elapse 0
    e.regBit (macReg 0) 8 = true ∧ bit (0x020 : Word) 8 = false ∧ (∀ k < 4, e.regBit (portReg (4 * 0 + k)) 0 = false) ∧ (e.lane (5 * e.regBits (macReg 0) 0 4 + 0)).func = 1 ∧ tabWf (fun _ => ({} : Port)) e.ing.ports = true := by decide +kernel

/-- MacAndPortEnable (PortEnable): addresses of either family, a multicast MAC address, and an enabled port. -/
theorem test_portEnable_met :
    let on (mac : Word) : State := { State.reset with regs := [(0x1FC8, 5), (0x1FCC, mac), (0x1FD0, 0x0A000001), (0x1FE0, 5)] }
    let ok (v mac : Word) : Prop :=
      let e := (on mac).elapse 0
      let m := bits (e.reg (portReg 31 + 0xC)) 0 16 * 2 ^ 32 + (e.reg (portReg 31 + 8)).toNat
      bit v 0 = true ∧ m ≠ 0 ∧ m / 2 ^ 40 % 2 = 0 ∧ (bit v 1 = true ∧ e.portV4 31 ≠ 0 ∨ bit v 2 = true ∧ e.portV6 31 ≠ 0)
    portReg 31 = 0x1FC0 ∧ ((on 2).elapse 0).regBit (portReg 31) 0 = false ∧ ok 3 2 ∧ ok 5 2 ∧ ok 7 2 ∧ ¬ok 1 2 ∧ ¬ok 3 0x102 ∧ ¬ok 2 2 ∧ tabWf (fun _ => ({} : Port)) ((on 2).elapse 0).ing.ports = true ∧
      (let e := ({ tSq 0 with regs := [(0x1020, 0x120), (0x1800, 6)] } : State).elapse 0
       e.portActive 0 = false ∧ e.regBit (portReg 0) 0 = false) ∧ ((tSq 0).elapse 0).regBit (portReg 0) 0 = true := by decide +kernel

/-- FramesReceived (FramesDropped): every reason to drop a frame, a stranger, and a port that is not active. -/
theorem test_framesDropped_met :
    let e := (tSq 0).elapse 0
    e.portActive 0 = true ∧ 9216 < ({ tFrame with len := 9217 } : EthFrame).len ∧ ¬9216 < ({ tFrame with len := 9216 } : EthFrame).len ∧ tabWf (fun _ => (0 : DWord)) e.obs.cnt = true ∧
      tFrame.body = .other ∧ e.vlanOk 0 (some 1) = false ∧ e.vlanOk 0 none = true ∧ (e.port 0).strangerAt = none ∧ e.portActive 1 = false := by decide +kernel

def tMedia : MediaPkt := { ipv6 := false, src := 0x0A000002, dst := 0xE0000200, odd := false, udpPort := 9, rtpVersion := 2, pt := 96, ssrc := 3, ts := 4, seq := 5, marker := true, rows := [{ line := 0, x := 0, px := [⟨1, 2, 3⟩] }] }
def tOpen : OpenFrame := { ts := 4, rows := [], marker := false, keys := [(4, 0, 0)], first := 1000 * secU }
/-- A state whose stream 0 is x, with the leg of port 0 as its red (n = 0) or blue leg. -/
def tRy (x : Stream) (n : Nat) : State :=
  let l := some (tLeg 0)
  { tSq 0 with ing := { (tSq 0).ing with streams := [(0, if n = 0 then { x with red := l } else { x with blue := l })] } }

/-- A packet taken on leg n of stream 0; and its frame open, with what the packet makes of it. -/
def tMedOk (m : MediaPkt) (n : Nat) (x : Stream) : Bool :=
  let e := (tRy x n).elapse 0
  e.portActive 0 && e.vlanOk 0 tFrame.vlan && !m.odd && decide ((e.legs.find? fun l => legMatch 0 m (e.stream l.1) l.2.2) = some (0, n, tLeg 0)) && ssrcOk (e.stream 0) (tLeg 0) m.ssrc
def tTimed (n : Nat) (x : Stream) : Stream := (((tRy x n).elapse 0).streamTimers 0).stream 0
def tMedFrame (m : MediaPkt) (n : Nat) (whole seen : Bool) : Bool :=
  let x : Stream := { tStream .receiving with opens := [tOpen], lastAt := 1000 * secU }
  tMedOk m n x && decide (((tTimed n x).opens.find? fun y => y.ts == m.ts) = some tOpen) && (tOpen.keys.any fun y => y.1 == m.seq) == seen &&
    ((tOpen.marker || m.marker) && frameFull x.fmt (if seen then tOpen.rows else tOpen.rows ++ m.rows)) == whole

/-- MediaPacketMerged: a packet that makes its frame whole, one that does not, and a second copy, on the red and on the blue leg; a first packet; and one of a frame that has closed. -/
theorem test_mediaPacketMerged_met : tMedFrame tMedia 0 true false = true ∧ tMedFrame tMedia 1 true false = true ∧ tMedFrame { tMedia with marker := false } 0 false false = true ∧ tMedFrame { tMedia with seq := 4, rows := [] } 1 false true = true := by decide +kernel

theorem test_firstAndLatePacket_met :
    let z := tStream .joining
    let y : Stream := { tStream .receiving with gone := [{ ts := 4, keys := [(5, 0, 0)] }], lastAt := 1000 * secU }
    tMedOk { tMedia with marker := false } 0 z = true ∧ (tTimed 0 z).opens = [] ∧ (tTimed 0 z).gone = [] ∧ tMedOk tMedia 0 y = true ∧ (tTimed 0 y).opens = [] ∧ ((tTimed 0 y).gone.find? fun g => g.ts == tMedia.ts).isSome = true := by decide +kernel

/-- MembershipAndAddresses: queries of either version for a leg of the port, a report due at its interval, and a port in every stage of its detection. -/
theorem test_membershipAndAddresses_met :
    let f (y : Port) : State := ({ tSq 0 with regs := [(0x1020, 0x120), (0x1800, 7), (0x1808, 5), (0x180C, 2), (0x1810, 0x0A000001), (0x1820, 5)], ing := { (tSq 0).ing with ports := [(0, y)], streams := [(0, { tStream .joining with red := some (tLeg 0) })] } } : State).elapse 0
    let r : Report := { ipv6 := false, join := true, group := 5, src := 7, left := 1, sentAt := 1000 * secU - (f {}).uri }
    let v4 (n : Nat) : Prop := bit ((f { probes := n }).reg (portReg 0)) 1 = true ∧ ((f { probes := n }).port 0).v4Conf = false ∧ ((f { probes := n }).port 0).probes = n
    (f { reports := [r] }).portActive 0 = true ∧ tabWf (fun _ => ({} : Port)) (f { reports := [r] }).ing.ports = true ∧ tQuery.old = false ∧ r ∈ ((f { reports := [r] }).port 0).reports ∧ r.sentAt + (f {}).uri ≤ (f { reports := [r] }).clk ∧
      v4 2 ∧ v4 3 ∧ v4 4 ∧ bit ((f { tentative := true }).reg (portReg 0)) 2 = true ∧ ((f { tentative := true }).port 0).tentative = true ∧ ((f { tentative := true }).port 0).nsSent = 0 ∧ ((f { tentative := true, nsSent := 1 }).port 0).nsSent ≠ 0 ∧
      (0, 0, tLeg 0) ∈ (f {}).legs ∧ (tLeg 0).port = 0 ∧ (tLeg 0).ipv6 = tQuery.ipv6 ∧ tQuery.group = none ∧ tQuery.sources = [] := by decide +kernel

/-- StreamsTimedAndTraced (StreamTimers): a join of exactly 2 s, silence of exactly the absence time and one unit less, on either leg, and a release with and without a frame held. -/
theorem test_streamTimers_met :
    let e (x : Stream) : State := ({ tSq 0 with ing := { (tSq 0).ing with streams := [(63, x)] } } : State).elapse 0
    let at_ (d : Nat) : Nat := 1000 * secU - absence (tStream .receiving).fmt + d
    let l : Leg := { tLeg 0 with lastAt := some (at_ 0), up := true }
    let j : Stream := { tStream .joining with joinAt := 998 * secU }
    let r (d : Nat) : Stream := { tStream .receiving with lastAt := at_ d, red := some l }
    let b : Stream := { tStream .receiving with lastAt := at_ 1, blue := some l }
    let x : Stream := tStream .releasing
    63 < 64 ∧ ((e j).stream 63).st = .joining ∧ ((e j).stream 63).joinAt + 2 * secU ≤ (e j).clk ∧ ((e (r 0)).stream 63).st = .receiving ∧ ((e (r 0)).stream 63).lastAt + absence (r 0).fmt ≤ (e (r 0)).clk ∧
      (e (r 1)).clk < ((e (r 1)).stream 63).lastAt + absence (r 1).fmt ∧ ((e (r 1)).stream 63).st ≠ .free ∧ ((e (r 0)).stream 63).red = some l ∧ legSilent (r 0) (e (r 0)).clk l = true ∧ ((e b).stream 63).blue = some l ∧
      ((e x).stream 63).st = .releasing ∧ (e x).frameHeld 63 = false ∧ ((e j).stream 63).st ≠ .receiving ∧ ((e j).stream 63).st ≠ .releasing := by decide +kernel

/-- StreamsTimedAndTraced (FramesHeldAndTraced): a frame held for exactly its hold time beside a new one, and a second gone by, and not. -/
theorem test_framesHeldAndTraced_met :
    let x : Stream := { tStream .receiving with opens := [{ tOpen with newerAt := some (1000 * secU - holdTime (tStream .receiving)) }, { tOpen with ts := 9 }] }
    let e : State := ({ tSq 0 with ing := { (tSq 0).ing with streams := [(63, x)], traceAt := 999 * secU } } : State).elapse 0
    (∃ o ∈ (e.stream 63).opens, (match o.newerAt with | none => false | some t => decide (t + holdTime (e.stream 63) ≤ e.clk)) = true) ∧
      (∃ o ∈ (e.stream 63).opens, ∀ y ∈ (e.stream 63).opens, y.ts = o.ts → (match y.newerAt with | none => false | some t => decide (t + holdTime (e.stream 63) ≤ e.clk)) = false) ∧
      e.ing.traceAt + secU ≤ e.clk ∧ (e.stream 63).st ≠ .free ∧ (e.stream 62).st = .free ∧ (State.reset.elapse 0).clk < (State.reset.elapse 0).ing.traceAt + secU := by
  refine ⟨⟨_, List.mem_cons_self, by decide +kernel⟩, ⟨_, List.mem_cons_of_mem _ List.mem_cons_self, by decide +kernel⟩, by decide +kernel⟩

/-! ### The press and the walker -/

/-- A leaf of w by h lamps at the canvas's corner, one for each pixel. -/
def tGeom (w h : Nat) : Geom := { cfg := BitVec.ofNat 32 (1 + 16 * 2 + 65536), origin := 0, size := BitVec.ofNat 32 (w - 1 + 65536 * (h - 1)), runs := [(0, 0), (1, BitVec.ofNat 32 (w + 65536 * h)), (2, 1)] }
def tSetup : Setup := { canvas := BitVec.ofNat 32 (31 + 65536 * 31), leaves := [(0, tGeom 2 2), (64, tGeom 1 1)] }
/-- The window of impression 1 open on a period of 1/60 s, at module time u; quires 0 and 1 RUNNING with a leaf each, one page of staging. -/
def tPress (u : Nat) : State :=
  let s := tSq 0
  { s with
    leaves := [(0, tLeaf), (64, tLeaf)]
    quires := [(0, { st := .running, ready := true }), (1, { st := .running, ready := true })]
    cmp := { s.cmp with layers := [], gen := 0 }
    imp := { s.imp with setup := tSetup }
    regs := [(0x7100, 1), (0x7120, 1)]
    win := { open_ := true, imp := 1, t0 := 0, tFlip := secU / 60, p := secU / 60, s := 1000 * usU }
    slg := { s.slg with rings := [(0, { pages := 2 }), (1, { pages := 0 })], poolFree := 0, ctrl := 5 }
    tim := { s.tim with genRun := true, time := u, tickAt := 0, ticks := 1, pUse := some (1, 60, 0) } }

/-- A state in which a layer command with TARGET 1 joins the window in hand. -/
def tJoin (q : Nat) : State := { tPress 0 with regs := (tSq 0).regs, hif := (tSq q).hif, cmp := { (tSq 0).cmp with gen := 0, layers := [(0, { st := .placed, dstW := 16, dstH := 16 })] } }
def tJoins (c : Instr) (d : Slot) (s : State) : Bool := match formOf c with
  | none => false
  | some f =>
    let e := s.elapse c.dt
    let i := toPhase .landing (f.item e)
    ((f.inFlight e i).tryJoin d [i]).isSome

/-- LayerCommandsTaken: an update, a removal and a definition that join the window in hand, each with its TARGET, and the same without a window. -/
theorem test_layerJoins_met :
    let u := tSlot 0x0102 [(2, 1), (8, 1), (60, 5)]
    let r := tSlot 0x0103 [(2, 1), (8, 1)]
    tAcc (.layerUpdate 0 0 u 0) (tJoin 0) = true ∧ grpNo u = 0 ∧ tJoins (.layerUpdate 0 0 u 0) u (tJoin 0) = true ∧ tAcc (.layerRemove 0 0 r 0) (tJoin 0) = true ∧ grpNo r = 0 ∧ tJoins (.layerRemove 0 0 r 0) r (tJoin 0) = true ∧
      tAcc (.layerUpdate 0 0 u 0) (tSq 0) = true ∧ tJoins (.layerUpdate 0 0 u 0) u (tSq 0) = false ∧ tAcc (.layerRemove 0 0 r 0) (tSq 0) = true ∧ tJoins (.layerRemove 0 0 r 0) r (tSq 0) = false := by decide +kernel

/-- LayerCommandsTaken: the item a layer.define leaves, its surface reserved or not, and whether it joins. -/
def tDefJoins (d : Slot) (s : State) : Bool := match formOf (.layerDefine 0 0 d 0) with
  | none => false
  | some f =>
    let e := s.elapse 0
    let c := (f.checked e).2
    let asked := prm d 4 1 % 4
    let least := bits (e.sqCtrl 0) 6 2
    let i (n : Nat) (p : Phase) : Item := { f.item e with cls := max asked least, clamped := decide (asked < least) && !isFrisk d, aux := n, phase := p }
    let b (n : Nat) (p : Phase) (m : Mem) : State := { f.inFlight e (i n p) with mem := m }
    match defSurf d with
    | false => ((b 0 .landing c.mem).tryJoin d [i 0 .landing]).isSome
    | true => match c.alloc (surfCls (isFrisk d)) (extents (4 * prm d 12 2 * prm d 14 2)) with
      | none => false
      | some (n, c1) => match c1.alloc (surfCls (isFrisk d)) (extents (4 * prm d 12 2 * prm d 14 2)) with
        | none => false
        | some (_, c2) => ((b n .landing c2.mem).tryJoin d [i n .landing]).isSome
theorem test_defineJoins_met :
    let v := tSlot 0x0101 [(2, 1), (8, 1), (32, 62)]
    let w := tSlot 0x0101 [(2, 1), (8, 1), (32, 2), (35, 1), (36, 4), (44, 4), (46, 4)]
    tAcc (.layerDefine 0 0 v 0) (tJoin 0) = true ∧ defSurf v = false ∧ grpNo v = 0 ∧ tDefJoins v (tJoin 0) = true ∧ tAcc (.layerDefine 0 0 w 0) (tJoin 0) = true ∧ defSurf w = true ∧ grpNo w = 0 ∧ tDefJoins w (tJoin 0) = true ∧
      tAcc (.layerDefine 0 0 v 0) (tSq 0) = true ∧ tDefJoins v (tSq 0) = false ∧ tAcc (.layerDefine 0 0 w 0) (tSq 0) = true ∧ tDefJoins w (tSq 0) = false := by decide +kernel

/-- SceneCommitTaken: a group of one held update whose commit joins the window in hand, and one whose commit waits. -/
def tCommitJoins (d : Slot) (s : State) : Bool := match formOf (.sceneCommit 0 3 d 0) with
  | none => false
  | some f =>
    let e := s.elapse 0
    let b := (f.checked e).2
    let ci := toPhase .landing (f.item e)
    let ms := b.heldMembers 3 (prm d 0 1)
    let taken (x : Item) : Item := if ms.any (fun y => y.id == x.id) then { x with commitId := some e.nextItem } else x
    let c : State := { b with hif := { b.hif with items := e.hif.items.map taken ++ [ci] } }
    (c.tryJoin d (c.members e.nextItem ++ [ci])).isSome && (c.members e.nextItem).all (fun x => decide (x.phase = .held) && !isFenced x.desc)
theorem test_commitJoins_met :
    let it : Item := { id := 3, sq := 3, slot := 0, cq := 0, opcode := 0x0102, desc := tSlot 0x0102 [(2, 1), (8, 1), (33, 1)], auth := 0, target := 1, phase := .held }
    let f (s : State) : State := { s with hif := { s.hif with items := [it] } }
    let d := tSlot 0x0110 [(2, 1), (8, 1), (32, 1)]
    tAcc (.sceneCommit 0 3 d 0) (f (tJoin 3)) = true ∧ ((f (tJoin 3)).elapse 0).itemsOk = true ∧ ((f (tJoin 3)).elapse 0).heldMembers 3 1 ≠ [] ∧ cmWall d = false ∧ tCommitJoins d (f (tJoin 3)) = true ∧
      tAcc (.sceneCommit 0 3 d 0) (f (tSq 3)) = true ∧ tCommitJoins d (f (tSq 3)) = false := by decide +kernel

/-- A commit point at module time u, changed by f. -/
def tCp (u : Nat) (f : State → State) : State := (f (let s := tPress u; { s with win := {}, cmp := { s.cmp with sUs := 1000 }, imp := { s.imp with snap := some { canvas := 0, leaves := [] }, pend := true } })).elapse 0
/-- 64 leaves of 8,192 by 4,320 lamps. -/
def tBig : Setup := { canvas := BitVec.ofNat 32 (31 + 65536 * 31), leaves := (List.range 64).map fun k => (k, { (tGeom 2 2) with size := BitVec.ofNat 32 (8191 + 65536 * 4319), runs := [(0, 0), (1, BitVec.ofNat 32 (8192 + 65536 * 4320)), (2, 1)] }) }

/-- CommitPointOpens: a commit point due at its instant with a snapshot for which there is room, one without room, one beyond its egress, and one that has not come. -/
theorem test_commitPointOpens_met :
    let a := tCp (1000 * usU) id
    let snap (u : Setup) (m : List Alloc) := tCp (1000 * usU) fun s => { s with imp := { s.imp with snap := some u }, mem := { s.mem with allocs := m } }
    let b := snap tBig []
    let c := snap tSetup [{ id := 1, cls := 0, ext := (List.range 64).map fun k => (k, 1000000) }]
    a.commitDue = true ∧ (tCp (1000 * usU - 1) id).commitDue = false ∧ a.imp.snap = some { canvas := 0, leaves := [] } ∧ a.imp.pend = true ∧
      ({ canvas := 0, leaves := [] } : Setup).egressFail a.leaves a.tim.pUse a.cmp.sUs = none ∧ (a.reserveStaging { canvas := 0, leaves := [] }).isRight = true ∧
      b.commitDue = true ∧ (tBig.egressFail b.leaves b.tim.pUse b.cmp.sUs).isSome = true ∧ c.commitDue = true ∧ tSetup.egressFail c.leaves c.tim.pUse c.cmp.sUs = none ∧ (c.reserveStaging tSetup).isLeft = true := by decide +kernel

/-- CommitPointOpens: a waiting CMP_SOFFSET that the set-up in force allows, and one it does not; tone registers written and not. -/
theorem test_registersAtCommitPoint_met :
    let f (v : Nat) (u : Setup) := tCp (1000 * usU) fun s => { s with imp := { s.imp with pend := false, setup := u }, cmp := { s.cmp with sPend := some (v, true), toneCommit := true } }
    let a := f 2000 tSetup
    let b := f 2000 tBig
    a.imp.pend = false ∧ a.cmp.sPend = some (2000, true) ∧ a.tim.pUse = some (1, 60, 0) ∧ a.imp.setup.egressFail a.leaves (some (1, 60, 0)) (a.capS 2000) = none ∧
      b.imp.setup.egressFail b.leaves (some (1, 60, 0)) (b.capS 2000) ≠ none ∧ a.cmp.toneCommit = true ∧ tabWf rwReset a.cmp.tone = true ∧ (tCp (1000 * usU) id).cmp.toneCommit = false := by decide +kernel

/-- A window with the jobs given and layer 0 placed. -/
def tJobs (l : List Job) (f : State → State) : State := f ({ tPress 0 with cmp := { (tPress 0).cmp with jobs := l, layers := [(0, { st := .placed, dstW := 16, dstH := 16 })] } } : State)
/-- TileComplete: a tile outside a group, one of a group with another still open, the last of a group, one of a late join, a retired engine, and an engine without the tile. -/
theorem test_tileComplete_met :
    let f (l : List Job) : State := ((tJobs l id).elapse 0).strayUnit 9 0 0
    let a : Job := { tile := 0, layers := [], engine := some 0 }
    let b : Job := { a with group := some 7 }
    let c : Job := { a with tile := 1, group := some 7 }
    let j : LateJoin := { gen := 1, items := [], layers := [], tiles := [0], regions := [], cycles := 0 }
    let l := ((tJobs [{ a with gen := 1 }] fun s => { s with cmp := { s.cmp with late := [j] } }).elapse 0).strayUnit 9 0 0
    (f [a]).win.open_ = true ∧ (f [a]).running? 0 0 = some a ∧ a.gen = 0 ∧ a.group = none ∧ (f [b, c]).running? 0 0 = some b ∧ b.gen = 0 ∧ b.group = some 7 ∧
      (c ∈ (f [b, c]).cmp.jobs ∧ c.group = some 7 ∧ ¬(c.engine = some 0 ∧ c.tile = 0)) ∧ ((f [b]).running? 0 0 = some b ∧ ∀ k ∈ (f [b]).cmp.jobs, k.group = some 7 → k.engine = some 0 ∧ k.tile = 0) ∧
      l.running? 0 0 = some { a with gen := 1 } ∧ l.join? 1 = some j ∧ (f [a]).running? 1 0 = none ∧ (((tJobs [a] fun s => s.modUnit 0 fun u => { u with st := .retired }).elapse 0).unit 0).st.out = true := by decide +kernel

/-- CutoffsHold (PressCutoff), CutoffsHold (WalkerCutoff) and DeadlineAndRecords (CommitDeadline): each at its own instant and one unit before. -/
theorem test_cutoffs_met :
    let s := tPress 0
    let p := (tPress s.pressAt).elapse 0
    let j : Job := { tile := 0, layers := [0] }
    let pj := ({ tPress s.pressAt with cmp := { s.cmp with jobs := [j], layers := [(0, { st := .placed, dstW := 16, dstH := 16 })] } } : State).elapse 0
    let wk (u : Nat) (r : Tab RefEntry) : State := ({ tPress u with win := { s.win with pressCut := true }, slg := { s.slg with refs := r } } : State).elapse 0
    let w := wk s.walkAt []
    let x := wk s.walkAt [(0, { codes := [], bad := true })]
    let dl (u : Nat) : State := ({ tPress u with win := { s.win with pressCut := true, walkCut := true } } : State).elapse 0
    let d := dl s.deadlineAt
    (p.win.open_ = true ∧ p.win.pressCut = false ∧ p.pressAt ≤ p.tim.time) ∧ (((tPress (s.pressAt - 1)).elapse 0).tim.time < ((tPress (s.pressAt - 1)).elapse 0).pressAt) ∧
      (pj.cmp.heldTiles ++ heldAtCutoff pj.cmp.jobs pj.cmp.side ≠ [] ∧ j ∈ pj.cmp.jobs ∧ j.engine = none ∧ j.gen = 0 ∧ j.extra = false ∧ tabWf (fun _ => ({} : Layer)) pj.cmp.layers = true ∧ pj.layer 0 ≠ {} ∧ 15 < 16) ∧
      (w.win.open_ = true ∧ w.win.pressCut = true ∧ w.win.walkCut = false ∧ w.walkAt ≤ w.tim.time ∧ (0, 0) ∈ w.unproduced 0 ∧ (w.refEntry 0 0).bad = false ∧ (w.ring 0).failedFor ≠ some w.m) ∧
      ((0, 0) ∈ x.unproduced 0 ∧ (x.refEntry 0 0).bad = true) ∧ ((wk (s.walkAt - 1) []).tim.time < (wk (s.walkAt - 1) []).walkAt) ∧
      (d.win.open_ = true ∧ d.win.walkCut = true ∧ d.win.deadline = false ∧ d.deadlineAt ≤ d.tim.time) ∧ ((dl (s.deadlineAt - 1)).tim.time < (dl (s.deadlineAt - 1)).deadlineAt) := by decide +kernel

/-- SlugsEncodedAndDecoded (SlugEncoded): a slug with room in its staging, one without, and one whose page is not in the cache. -/
theorem test_slugEncoded_met :
    let st (s : State) : State := (s.elapse 0).strayUnit 10 0 32
    let e := st (tPress 0)
    let t := st { tPress 0 with leaves := [(0, { tLeaf with tableUsed := true })] }
    let room (s : State) (k : Nat) : Bool := (s.stage (k / 64) (stagedBytes (encodeSlug (s.refOk k 0) (bit s.slg.ctrl 3) (s.slg.level - s.lowered 0) (s.geom k).n ((s.geom k).lineOf 0) (s.slugCodes 0 k 0) (s.refCodes k 0)).payload.length)).isSome
    e.canEncode 0 0 0 0 = true ∧ e.pageHere 0 0 = true ∧ room e 0 = true ∧ tabWf (fun _ => ({} : RefEntry)) e.slg.refs = true ∧ e.canEncode 0 64 0 0 = true ∧ e.pageHere 64 0 = true ∧ room e 64 = false ∧
      t.canEncode 0 0 0 0 = true ∧ t.pageHere 0 0 = false ∧ e.canEncode 0 1 0 0 = false := by decide +kernel

def tSlug : Slug := { leaf := 0, slug := 0, imp := 1, gen := 0, method := 1, level := 0, len := 0, flags := 0, ageIx := 0, age := 0, cap := .none, crc := 0, codes := [], payload := [], encoder := 8, checking := true }

/-- SlugsEncodedAndDecoded (ProofDecoded): a slug held for its encoder's check, with room to code it again; another encoder; no check; no slug. -/
theorem test_proofDecoded_met :
    let f (x : Slug) : State := ({ tPress 0 with slg := { (tPress 0).slg with slugs := [x] } } : State).elapse 0
    (f tSlug).slug? 0 0 0 = some tSlug ∧ tSlug.checking = true ∧ tSlug.encoder = 8 ∧ ((f tSlug).stage 0 (stagedBytes (literal tSlug.codes).length)).isSome = true ∧ tSlug.encoder ≠ 7 ∧
      (f { tSlug with checking := false }).slug? 0 0 0 = some { tSlug with checking := false } ∧ ((tPress 0).elapse 0).slug? 0 0 0 = none := by decide +kernel

/-- Tick: the first tick, a later one, P pending before and at its t_c, and a tick that has not come. -/
theorem test_tick_met :
    let f (u n : Nat) (p : Option ((Nat × Nat × Nat) × Nat)) : State := ({ tPress u with tim := { (tPress u).tim with ticks := n, pPend := p } } : State).elapse 0
    let e (n : Nat) (p : Option ((Nat × Nat × Nat) × Nat)) : State := f (tPress 0).nextTick n p
    (e 0 none).tim.pUse = some (1, 60, 0) ∧ (e 0 none).tim.genRun = true ∧ (e 0 none).nextTick ≤ (e 0 none).tim.time ∧ (e 0 none).tim.ticks = 0 ∧ (e 5 none).tim.ticks ≠ 0 ∧ (e 5 none).tim.pPend = none ∧
      (e 5 (some ((1, 120, 0), 2))).tim.tickK + 1 < 2 ∧ 1 ≤ (e 5 (some ((1, 120, 0), 1))).tim.tickK + 1 ∧ (f ((tPress 0).nextTick - 1) 5 none).tim.time < (f ((tPress 0).nextTick - 1) 5 none).nextTick := by decide +kernel

/-- DeadlineAndRecords (RecordGroupClosed): a group due half a period after its flip, with no report missing and room on the EVQ; one that is not due, and none. -/
theorem test_recordGroupClosed_met :
    let g : RecGroup := { w := { imp := 0 }, gen := 0, merged := false, level := 0, deliveries := [] }
    let f (u : Nat) : State := ({ tPress u with groups := [g] } : State).elapse 0
    let q : State := ({ tPress (secU / 120) with groups := [g], regs := tQregs, leaves := [], hif := { (tPress 0).hif with evqOnce := true } } : State).elapse 0
    (f (secU / 120)).groups = [g] ∧ (f (secU / 120)).groupDue g = true ∧ (f (secU / 120 - 2)).groupDue g = false ∧ ((tPress 0).elapse 0).groups = [] ∧
      q.groupDue g = true ∧ q.missingProofs g = [] ∧ q.hif.evqOnce = true ∧ q.canWrite = true ∧ (q.cq 32).lostNew = 0 ∧ (groupRecs (q.limit q.cmp.friskAge) g (dedup g.proofLeaves)).length ≤ q.qFree 32 := by decide +kernel

/-- SetUpsCommitted: every write with its bit set and clear, and a check that ends well and one that fails. -/
theorem test_setUpsCommitted_met :
    let s := (tPress 0).elapse 0
    let c (u : Setup) : State := ({ tPress 0 with imp := { (tPress 0).imp with snap := some u, checking := true } } : State).elapse 0
    let good : Setup := { canvas := 0x001F001F, leaves := [] }
    let bad : Setup := { canvas := 0, leaves := [(0, { tGeom 2 2 with runs := [] })] }
    bit (1 : Word) 0 = true ∧ bit (2 : Word) 0 = false ∧ s.imp.checking = false ∧ s.imp.pend = false ∧ (c good).imp.snap = some good ∧ (c good).imp.checking = true ∧
      good.check (c good).leaves (c good).tim.pUse (c good).cmp.sUs = none ∧ (bad.check (c bad).leaves (c bad).tim.pUse (c bad).cmp.sUs).isSome = true ∧ s.friskDefined = false ∧ s.imp.live = false ∧
      tabWf rwReset s.regs = true ∧ ((({ tPress 0 with imp := { (tPress 0).imp with live := true } } : State).elapse 0).imp.live = true) ∧
      ((({ tPress 0 with cmp := { (tPress 0).cmp with layers := [(64, { st := .defined })] } } : State).elapse 0).friskDefined = true) := by decide +kernel

/-! ### Makeready pages -/

/-- Block no of a compressed page: 512 words of 0 by method 3, one run (Tables 5-4, 7-1 and 7-2, R246). -/
def tZero (no : Nat) : List Byte := [0, 0, BitVec.ofNat 8 (4 * no), 0, 0, 48, 0, 0, 208, 0, 0, 0, 238, 174, 222, 124, 127, 192, 0, 0]
/-- Block 0 with the header of the one page of leaf 0: LAMPS 8,192 and N 1, then words of 0. -/
def tHead : List Byte := [0, 0, 0, 0, 0, 48, 0, 3, 64, 0, 0, 0, 139, 80, 18, 120, 0, 64, 0, 0, 2, 0, 0, 0, 4, 1, 251, 0, 0]
def tHeadWords : List Half := [0, 0, 8192, 256] ++ List.replicate 508 0
def tBlocks : Nat → Nat → List Byte
  | 0, _ => []
  | n + 1, no => tZero no ++ tBlocks n (no + 1)
def tPage : List Byte := tHead ++ tBlocks 63 1

set_option maxRecDepth 100000 in
theorem tZero_crc : crcCodes (List.replicate 512 0) = BitVec.ofNat 32 0xEEAEDE7C := by decide +kernel
set_option maxRecDepth 100000 in
theorem tHead_crc : crcCodes tHeadWords = BitVec.ofNat 32 0x8B501278 := by decide +kernel
theorem tZero_fields : ∀ no < 64, (fun h : BitVec 128 => bits h 59 14 = 26 ∧ bits h 118 10 = 0 ∧ bits h 90 16 = 0 ∧ bits h 73 8 = 0 ∧ bits h 106 12 = no ∧ bits h 84 2 = 3 ∧ bits h 0 32 = 0xEEAEDE7C)
    (BitVec.ofNat 128 (beNat ((tZero no).take 16))) := by decide +kernel
theorem tZero_words : decodeSlug 3 1 ((byteBits [127, 192, 0, 0]).take 26) none = some (List.replicate 512 0) := by decide +kernel
theorem tHead_words : decodeSlug 3 1 ((byteBits [0, 64, 0, 0, 2, 0, 0, 0, 4, 1, 251, 0, 0]).take 104) none = some tHeadWords := by decide +kernel

theorem tZero_take {no : Nat} (hn : no < 64) (t : List Byte) : takeBlock no (tZero no ++ t) = some (List.replicate 512 0, t) := by
  obtain ⟨h1, h2, h3, h4, h5, h6, h7⟩ := tZero_fields no hn
  have e1 : (tZero no ++ t).take 16 = (tZero no).take 16 := rfl
  have e2 : ((tZero no ++ t).drop 16).take 4 = [127, 192, 0, 0] := rfl
  have e3 : (tZero no ++ t).drop 20 = t := rfl
  have e4 : ¬(tZero no ++ t).length < 16 := by simp [tZero]
  have hw := tZero_words
  have hc := tZero_crc
  generalize (List.replicate 512 0 : List Half) = v at hw hc ⊢
  simp only [takeBlock, e1, h1, h2, h3, h4, h5, h6, h7, e4, e2, e3, hw, hc, if_false, ne_eq, not_true_eq_false, false_or, Nat.reduceAdd, Nat.reduceDiv]
  simp
theorem tHead_take (t : List Byte) : takeBlock 0 (tHead ++ t) = some (tHeadWords, t) := by
  have hf : (fun h : BitVec 128 => bits h 59 14 = 104 ∧ bits h 118 10 = 0 ∧ bits h 90 16 = 0 ∧ bits h 73 8 = 0 ∧ bits h 106 12 = 0 ∧ bits h 84 2 = 3 ∧ bits h 0 32 = 0x8B501278)
    (BitVec.ofNat 128 (beNat (tHead.take 16))) := by decide +kernel
  obtain ⟨h1, h2, h3, h4, h5, h6, h7⟩ := hf
  have e1 : (tHead ++ t).take 16 = tHead.take 16 := rfl
  have e2 : ((tHead ++ t).drop 16).take 13 = [0, 64, 0, 0, 2, 0, 0, 0, 4, 1, 251, 0, 0] := rfl
  have e3 : (tHead ++ t).drop 29 = t := rfl
  have e4 : ¬(tHead ++ t).length < 16 := by simp [tHead]
  have hw := tHead_words
  have hc := tHead_crc
  generalize tHeadWords = v at hw hc ⊢
  simp only [takeBlock, e1, h1, h2, h3, h4, h5, h6, h7, e4, e2, e3, hw, hc, if_false, ne_eq, not_true_eq_false, false_or, Nat.reduceAdd, Nat.reduceDiv]
  simp
theorem tBlocks_take : ∀ n no, no + n ≤ 64 → takePage n no (tBlocks n no) = some (List.replicate (512 * n) 0)
  | 0, _, _ => rfl
  | n + 1, no, h => by
    rw [tBlocks, takePage, tZero_take (by omega)]
    show (takePage n (no + 1) (tBlocks n (no + 1))).map _ = _
    rw [tBlocks_take n (no + 1) (by omega)]
    simp only [Option.map_some, List.replicate_append_replicate, Option.some.injEq]
    congr 1
    omega
/-- The page decompresses to its header and zeros. -/
theorem test_page_decompresses : decompressPage tPage = some (codeBytes (tHeadWords ++ List.replicate (512 * 63) 0)) := by
  have h : ¬66560 < tPage.length := by decide +kernel
  rw [decompressPage, if_neg h, tPage, takePage, tHead_take]
  show ((takePage 63 1 (tBlocks 63 1)).map _).map _ = _
  rw [tBlocks_take 63 1 (by omega)]
  rfl

theorem tCodeBytes_pad (a : List Half) (n : Nat) : codeBytes (a ++ List.replicate n 0) = codeBytes a ++ List.replicate (2 * n) 0 := by
  have h : ∀ n, codeBytes (List.replicate n 0) = List.replicate (2 * n) 0 := by
    intro n
    induction n with
    | zero => rfl
    | succ n ih =>
      show beBytes 2 0 ++ codeBytes (List.replicate n 0) = _
      rw [ih]
      rfl
  rw [← h]
  simp [codeBytes]
/-- The page as it is in the cache: its header, then zeros. -/
def tPageBytes (n : Nat) : List Byte := [0, 0, 0, 0, 32, 0, 1] ++ List.replicate n 0
theorem tHead_pad (n : Nat) : codeBytes (tHeadWords ++ List.replicate n 0) = tPageBytes (2 * n + 1017) := by
  rw [tHeadWords, List.append_assoc, List.replicate_append_replicate, tCodeBytes_pad, show 2 * (508 + n) = 2 * n + 1016 by omega]
  rw [show 2 * n + 1017 = (2 * n + 1016) + 1 by omega]
  generalize 2 * n + 1016 = k
  rfl
theorem tPage_bytes : decompressPage tPage = some (tPageBytes (2 * (512 * 63) + 1017)) := by rw [test_page_decompresses, tHead_pad]
theorem tPage_ok (m : Nat) : pageOk 0 0 1 1 (tPageBytes m) = true := by
  have z (o n : Nat) (ho : 7 ≤ o) : (slice (tPageBytes m) o n).all (fun b => b == 0) = true := by
    rw [List.all_eq_true]
    intro b hb
    have h := List.mem_of_mem_take hb
    rw [show o = 7 + (o - 7) by omega, ← List.drop_drop] at h
    have h2 := List.mem_of_mem_drop h
    have h3 : (tPageBytes m).drop 7 = List.replicate m 0 := rfl
    rw [h3] at h2
    rw [(List.mem_replicate.mp h2).2]
    rfl
  have hl : pageLamps (tPageBytes m) = 8192 := rfl
  have hf : pageLeaf (tPageBytes m) = 0 ∧ pageNo (tPageBytes m) = 0 ∧ pageN (tPageBytes m) = 1 := ⟨rfl, rfl, rfl⟩
  rw [pageOk, z _ _ (by omega), z _ _ (by omega), hl, hf.1, hf.2.1, hf.2.2]
  rfl
/-- A table.load of that page with the CRC of its bytes. -/
def tLoad (c : Nat) : Slot := BitVec.ofNat 512 ((0x0301 + 1 * 2 ^ (8 * 34)) + c * 2 ^ (8 * 36))
theorem tFld_ofNat (v o n : Nat) : fld (BitVec.ofNat 512 v) o n = v % 2 ^ 512 / 2 ^ (8 * o) % 2 ^ (8 * n) := by simp only [fld, bits, BitVec.toNat_ushiftRight, BitVec.toNat_ofNat, Nat.shiftRight_eq_div_pow]
theorem tFld_add {a c x y : Nat} (m : Nat) (hk : y = x * m) (hx : 0 < x) : (a + c * y) / x = a / x + c * m := by rw [hk, Nat.mul_comm x m, ← Nat.mul_assoc, Nat.add_mul_div_right _ _ hx]
theorem tFld_mod {a c k m : Nat} (x : Nat) (hk : k = x * m) : (a + c * k) % m = a % m := by rw [hk, ← Nat.mul_assoc, Nat.add_mul_mod_self_right]
theorem tLoad_fields {c : Nat} (h : c < 2 ^ 32) : prm (tLoad c) 0 1 = 0 ∧ prm (tLoad c) 1 1 = 0 ∧ prm (tLoad c) 2 2 = 1 ∧ prm (tLoad c) 4 4 = c := by
  have hm : ((0x0301 + 1 * 2 ^ (8 * 34)) + c * 2 ^ (8 * 36)) % 2 ^ 512 = (0x0301 + 1 * 2 ^ (8 * 34)) + c * 2 ^ (8 * 36) := by
    apply Nat.mod_eq_of_lt
    calc _ < 2 ^ 289 + 2 ^ 32 * 2 ^ (8 * 36) := Nat.add_lt_add_of_lt_of_le (by decide +kernel) (Nat.mul_le_mul_right _ (Nat.le_of_lt h))
      _ < 2 ^ 512 := by decide +kernel
  simp only [prm, tLoad, tFld_ofNat, hm]
  refine ⟨?_, ?_, ?_, ?_⟩
  · rw [tFld_add (2 ^ 32) (by decide +kernel) (by decide +kernel), tFld_mod (2 ^ 24) (by decide +kernel)]
    decide +kernel
  · rw [tFld_add (2 ^ 24) (by decide +kernel) (by decide +kernel), tFld_mod (2 ^ 16) (by decide +kernel)]
    decide +kernel
  · rw [tFld_add (2 ^ 16) (by decide +kernel) (by decide +kernel), tFld_mod (1) (by decide +kernel)]
    decide +kernel
  · rw [tFld_add 1 (by decide +kernel) (by decide +kernel), show (0x0301 + 1 * 2 ^ (8 * 34)) / 2 ^ (8 * (32 + 4)) = 0 by decide +kernel, Nat.zero_add, Nat.mul_one]
    exact Nat.mod_eq_of_lt h
def tLoadItem (b : List Byte) : Item := { id := 3, sq := 0, slot := 0, cq := 0, opcode := 0x0301, desc := tLoad (crc32c b).toNat, auth := 0, target := 1, phase := .working, buf := leBytes 4 1289 ++ tPage }
theorem tLoad_pages (b : List Byte) : tblPages (tLoadItem b).desc (tLoadItem b).buf = some [tPage] := by
  obtain ⟨-, -, h, -⟩ := tLoad_fields (crc32c b).isLt
  have hb : (tLoadItem b).buf = leBytes 4 1289 ++ tPage := rfl
  have hd : (tLoadItem b).desc = tLoad (crc32c b).toNat := rfl
  rw [tblPages, hd, h, hb]
  decide +kernel
theorem tLoad_good {b : List Byte} (hp : decompressPage tPage = some b) (hk : pageOk 0 0 1 1 b = true) (hn : pageN b = 1) : tblGood (tLoadItem b).desc [tPage] = true := by
  obtain ⟨h1, h2, -, h4⟩ := tLoad_fields (crc32c b).isLt
  have hl : tblLeaf (tLoad (crc32c b).toNat) = 0 := by rw [tblLeaf, h1, h2]
  have hd : (tLoadItem b).desc = tLoad (crc32c b).toNat := rfl
  simp only [tblGood, hd, h4, hl, List.map_cons, List.map_nil, hp, List.filterMap_cons, List.filterMap_nil, id, List.headD_cons, hn, List.zipIdx_cons, List.zipIdx_nil,
    List.all_cons, List.all_nil, List.length_cons, List.length_nil, Option.isSome_some, hk, List.flatten_cons, List.flatten_nil, List.append_nil, BitVec.ofNat_toNat, BitVec.setWidth_eq, beq_self_eq_true,
    Bool.and_true, Nat.zero_add]

def tStage (i : Item) (l : Leaf) : State := { State.reset with hif := { State.reset.hif with items := [i] }, leaves := [(0, l)] }
def tTable : Table := { id := 1, crc := 0, pages := [tPage] }

theorem tElapse_reset {s : State} (h : s.tim = State.reset.tim) : s.elapse 0 = s := by
  have e1 : (((0 : Nat) : Int) * (2 ^ 40 + s.tim.rate) + s.tim.resid).toNat = 0 := by
    rw [h]
    decide +kernel
  have e2 : ({ s.tim with time := s.tim.time, resid := 0 } : Tim) = s.tim := by
    rw [h]
    decide +kernel
  unfold State.elapse State.ns
  rw [e1]
  simp only [Nat.zero_div, Nat.add_zero, Nat.zero_mod, if_true, e2]

/-- TablesChecked: the load of the page above with room for it: its item, its pages, their check, and the extents. -/
theorem test_tableLoaded_met (b : List Byte) (hp : decompressPage tPage = some b) (hk : pageOk 0 0 1 1 b = true) (hn : pageN b = 1) :
    let i := tLoadItem b
    let e := (tStage i {}).elapse 0
    e.item? 3 = some i ∧ i.phase = .working ∧ (∀ x ∈ e.hif.items, x.id = 3 → x = i) ∧ i.opcode = 0x0301 ∧ tblPages i.desc i.buf = some [tPage] ∧ tblGood i.desc [tPage] = true ∧ sumN ([tPage].map List.length) ≤ 2 ^ 32 := by
  intro i e
  have he : e = tStage i {} := tElapse_reset rfl
  rw [he]
  refine ⟨rfl, rfl, ?_, rfl, tLoad_pages b, tLoad_good hp hk hn, by decide +kernel⟩
  intro x hx _
  exact List.mem_singleton.mp hx
theorem test_tablesChecked_met : decompressPage tPage = some (tPageBytes (2 * (512 * 63) + 1017)) ∧ pageOk 0 0 1 1 (tPageBytes (2 * (512 * 63) + 1017)) = true ∧ pageN (tPageBytes (2 * (512 * 63) + 1017)) = 1 :=
  ⟨tPage_bytes, tPage_ok _, rfl⟩
/-- Room for the load, and none; a directory that does not match; and table.verify of a good page, of a page that failed twice and of one that does not decompress. -/
theorem test_tablesChecked_others_met :
    let v : Item := { tLoadItem [] with opcode := 0x0302, desc := tSlot 0x0302 [] }
    let e := (tStage v { table := some { tTable with bad := [0] } }).elapse 0
    let g := (tStage v { table := some tTable }).elapse 0
    let full : State := { tStage v {} with mem := { State.reset.mem with allocs := [⟨7, 0, (List.range 64).map (fun p => (p, 384)), []⟩] } }
    ((tStage v {}).elapse 0).tableBytes 0 = 0 ∧ (((tStage v {}).elapse 0).alloc clsPaging (extents tPage.length)).isSome = true ∧ (full.elapse 0).alloc clsPaging (extents tPage.length) = none ∧
      tblPages (tSlot 0x0301 [(34, 1)]) [1, 0, 0, 0] = none ∧ e.item? 3 = some v ∧ v.phase = .working ∧ v.opcode = 0x0302 ∧ (e.leaf (tblLeaf v.desc)).table = some { tTable with bad := [0] } ∧ 0 < [tPage].length ∧
      (g.leaf (tblLeaf v.desc)).table = some tTable ∧ decompressPage [1, 2, 3] = none ∧ (((tStage v { unit := .spare }).leaf (tblLeaf v.desc)).table = none) := by decide +kernel

/-- MakereadyTables (PageFetched): the page above fetched, a first failure, a second one, a page no table in use has, and a leaf without a table. -/
theorem test_pageFetched_met :
    let g (x : Table) : State := ({ State.reset with leaves := [(0, { tableUsed := true, table := some x })] } : State).elapse 0
    let f (r : List Nat) : State := g { tTable with retry := r }
    256 * 0 + 0 ∈ (f []).pageKeys ∧ (f []).mayFetch = true ∧ ((f []).leaf 0).table = some tTable ∧ 0 ∉ tTable.retry ∧ ((f [0]).leaf 0).table = some { tTable with retry := [0] } ∧ 256 * 0 + 0 ∈ (f [0]).pageKeys ∧ 256 * 0 + 1 ∉ (f []).pageKeys ∧
      tabWf (fun _ => ({} : Leaf)) (f []).leaves = true ∧ ((g { tTable with pages := [[]] }).leaf 0).table = some { tTable with pages := [[]] } ∧ tTable.lost = false ∧ 0 < tTable.pages.length ∧
      (true && (decompressPage (nthD [] [[]] 0)).isSome) = false ∧ ((f []).leaf 1).table = none := by decide +kernel
theorem test_pageGood_met : (true && (decompressPage (nthD [] tTable.pages 0)).isSome) = true := by
  show (true && (decompressPage tPage).isSome) = true
  rw [tPage_bytes]
  rfl
/-- The pages of the table above are all good, and one that fails to be read is not (TABLE_VERIFY_DONE). -/
theorem test_pageVerifies_met : tTable.pageBad none 0 = false ∧ tTable.pageBad (some 0) 0 = true ∧ tTable.pages.length = 1 := by
  refine ⟨?_, rfl, rfl⟩
  show (decide (0 ∈ []) || decide (none = some 0) || (decompressPage tPage).isNone) = false
  rw [tPage_bytes]
  rfl

/-! ### Quires and lanes -/

/-- Quire 15 of two positions, its ends UP on lanes 75 and 76, in session 9 with the leaf given at position 0. -/
def tRing (x : Quire) (l : Leaf) : State :=
  let s := tPress 0
  { s with
    regs := [(0x6008, 0x10000), (0x60BC, 0x14C4B), (0x72E0, 2)]
    lanes := [(75, { State.reset.lane 75 with func := 2, quire := 15, link := .up }), (76, { State.reset.lane 76 with func := 3, quire := 15, link := .up })]
    quires := [(15, { x with tag := 9 })]
    leaves := [(960, l)] }
def tAt15 : Ins := { tIns with quire := 15 }
/-- A packet of the leaf at position 0 of quire 15 with the CHECK of its type and body. -/
def tSent (ty : Nat) (body : List Byte) : Ins := { tAt15 with check := crc32c (insBytes tAt15 ty body) }
/-- A leaf from which a packet came just now over direction B. -/
def tHeard (ty : Nat) (body : List Byte) (l : Leaf) : Leaf := { l with copies := [(1, 1000 * secU, insBytes tAt15 ty body)] }
/-- A packet passes R308, and is a first copy or not. -/
def tPasses (ty : Nat) (body : List Byte) (l : Leaf) (fst : Bool) : Bool :=
  let e := (tRing { st := .running } l).elapse 0
  let i := tSent ty body
  e.insPass i ty body && (((((e.leaf 960).copies.filter fun c => decide (e.clk < c.2.1 + msU)).findIdx? (secondOf i (insBytes i ty body) e.clk)).isNone) == fst)

/-- SessionsBegin: each way a session begins or turns RUNNING, at its instant and before, with the entropy source ready and not, and an ADOPT due. -/
theorem test_sessionsBegin_met :
    let e (x : Quire) (l : Leaf) : State := (tRing x l).elapse 0
    let l : Leaf := { unit := .inService }
    let w := e { st := .wait } l
    let b := e { st := .badCount, since := 999 * secU } l
    let a := e { st := .adopting, since := 999 * secU } l
    let r := e { st := .adopting, since := 999 * secU } { enrolled := true }
    let n := ({ tRing { st := .badCount, since := 999 * secU } l with upd := { (tSq 0).upd with entReady := false } } : State).elapse 0
    w.upd.tags.length < 2 ^ 63 ∧ tabWf (fun _ => ({} : Leaf)) r.leaves = true ∧ tabWf (fun _ => ({} : Leaf)) w.leaves = true ∧ (w.quire 15).st = .wait ∧ (w.upDirs 15).isSome = true ∧ w.upd.entReady = true ∧ 6 ≤ w.sys.stage ∧ w.sys.txOffTo ≤ w.clk ∧
      (b.quire 15).st = .badCount ∧ (b.quire 15).since + secU ≤ b.clk ∧ n.upd.entReady = false ∧ (a.quire 15).st = .adopting ∧ (a.quire 15).since + secU ≤ a.clk ∧ a.enrolledAt 15 = [] ∧ r.enrolledAt 15 ≠ [] ∧ r.adoptDue 15 = true ∧
      (e { st := .adopting, since := 1000 * secU } l).clk < ((e { st := .adopting, since := 1000 * secU } l).quire 15).since + secU ∧ w.adoptDue 15 = false ∧ w.endUp 15 0 = true ∧ w.endUp 15 1 = true := by decide +kernel

/-- AcksAndReplays (PacketsDiscarded): another session, an errored packet and a failed check on a quire in session; a quire that is OFF; and no quire 16. -/
theorem test_packetsDiscarded_met :
    let e := (tRing { st := .running } {}).elapse 0
    let b := ackBody []
    let i := tSent 8 b
    e.insPass i 8 b = true ∧ e.insPass { i with session := 8 } 8 b = false ∧ e.insPass { i with errored := true } 8 b = false ∧ e.insPass { i with check := 0 } 8 b = false ∧ i.quire < 16 ∧ (e.quire i.quire).st ≠ .off ∧
      e.insPass { i with quire := 3 } 8 b = false ∧ (e.quire 3).st = .off ∧ e.insPass { i with quire := 16 } 8 b = false := by decide +kernel

/-- SessionsAndEnrollment (LeafEnrolled): an ENROLL taken while ADOPTING and while RUNNING, one that is not consistent, and a second copy. -/
theorem test_leafEnrolled_met :
    let e (st : QSt) (l : Leaf) : State := (tRing { st := st } l).elapse 0
    let r : Enroll := { tEnroll with hopA := 0, hopB := 1 }
    let z : Enroll := { r with hopB := 0 }
    let i := tSent 9 (enrollBody r)
    let l : Leaf := { unit := .inService }
    let cp : Leaf := { enrolled := true, maker := 1, model := 2, serial := 3, enrDir := 1, enrAt := 1000 * secU }
    (e .adopting l).insPass i 9 (enrollBody r) = true ∧ (e .adopting l).secondCopy i r = false ∧ (e .adopting l).enrollOk 15 0 r = true ∧ (e .running l).insPass i 9 (enrollBody r) = true ∧ (e .running l).secondCopy i r = false ∧ (e .running l).enrollOk 15 0 r = true ∧
      (e .adopting l).insPass (tSent 9 (enrollBody z)) 9 (enrollBody z) = true ∧ (e .adopting l).secondCopy (tSent 9 (enrollBody z)) z = false ∧ (e .adopting l).enrollOk 15 0 z = false ∧
      (e .running cp).secondCopy i r = true ∧ (e .running cp).insPass i 9 (enrollBody r) = true ∧ tabWf (fun _ => ({} : Leaf)) (e .running cp).leaves = true ∧ tabWf (fun _ => ({} : Leaf)) (e .adopting l).leaves = true := by decide +kernel

/-- LeafReportsAndWatch (LeafReports), FLIP: a report in time of the impression shown last, with its record group open. -/
theorem test_flipReport_met :
    let h : Hdr := { imp := 0, friskAge := 250000, invA := 0, invB := 57343, pAge := 0, hold := 2, mask := [], ages := [], genAges := [], setup := tSetup }
    let g : RecGroup := { w := { imp := 0 }, gen := 0, merged := false, level := 0, deliveries := [] }
    let s := tRing { st := .running } { unit := .inService }
    let e := ({ s with groups := [g], hdrs := [h], imp := { s.imp with counter := 0 } } : State).elapse 0
    e.insPass (tSent 9 (flipBody tFlip)) 9 (flipBody tFlip) = true ∧ tabWf (fun _ => ({} : Leaf)) e.leaves = true ∧ (e.leaf 960).inUse = true ∧ bit tFlip.flags 0 = false ∧ bit ({ tFlip with flags := 1 } : FlipRep).flags 0 = true ∧
      tFlip.sched = e.imp.counter ∧ e.tim.time ≤ e.tim.tickAt + e.periodNow / 2 ∧ (e.groups.find? fun g => g.w.imp == tFlip.sched) = some g ∧ (e.hdrs.find? fun h => h.imp == tFlip.shown) = some h ∧ 960 ∉ g.reported ∧
      (e.expected h 960 { tFlip with frisket := 77 }).1 ≠ 77 := by decide +kernel

/-- LeafReportsAndWatch (LeafReports), SENSOR: a first copy with the keeper at work and without, and a second one. -/
theorem test_sensorReport_met :
    let b := sensorBody [9, 0, 9, 9]
    let l : Leaf := { unit := .inService, q := [(5, 5), (5, 0), (5, 0), (5, 0)], trim := [1, 2, 3, 4], e0 := [some 0, some 0, some 0, some 0], reports := [9, 9, 9, 9] }
    let s := tRing { st := .running } l
    let e (r : Bool) : State := ({ s with sys := { s.sys with supRun := r }, lmp := { s.lmp with force := [(0x3004, 1)] } } : State).elapse 0
    tPasses 9 b l true = true ∧ tPasses 9 b (tHeard 9 b l) false = true ∧ (e false).sys.supRun = false ∧ (e true).sys.supRun = true ∧ bit ((e true).lmpReg 0x3004) 0 = true ∧ l.trim.length = 4 ∧ nthD none l.e0 3 = some 0 ∧
      (nthD 0 ([9, 0, 9, 9] : List Word) 3).toNat ≠ 0 ∧ bits ((e true).lmpReg 0x3018) 8 8 ≤ nthD 0 l.reports 3 + 1 := by decide +kernel

/-- LeafReportsAndWatch (LeafReports), RESULT, CHECKWORD and MIRROR: the answer of a command that a leaf.command caused, with data to write and without, one of no command, and first and second copies. -/
theorem test_leafReports_met :
    let c : LCmd := { seq := 1, opcode := 0x8000, target := 1, data := [], firstImp := 0, item := some 3, sent := true }
    let i (n : Nat) : Item := { id := 3, sq := 0, slot := 0, cq := 0, opcode := 0x0402, desc := tSlot 0x0402 [(32, 15), (16, 4096), (38, n)], auth := 0, target := 1, phase := .leaves }
    let l : Leaf := { unit := .inService, cmds := [c] }
    let s := tRing { st := .running } l
    let e (n : Nat) : State := ({ s with hif := { s.hif with items := [i n] } } : State).elapse 0
    let r : ResultRep := { tResult with data := [1, 2, 3] }
    (e 0).insPass (tSent 9 (resultBody r)) 9 (resultBody r) = true ∧ (((e 0).leaf 960).cmds.find? fun c => c.seq == r.seq && c.sent && !c.dead) = some c ∧ (((e 0).leaf 960).cmds.find? fun c => c.seq == 2 && c.sent && !c.dead) = none ∧
      c.item = some 3 ∧ (e 0).item? 3 = some (i 0) ∧ (e 2).item? 3 = some (i 2) ∧ (i 0).opcode = 0x0402 ∧ prm (i 0).desc 6 2 = 0 ∧ r.data.take (prm (i 2).desc 6 2) ≠ [] ∧
      (let x := checkwordBody 1 0 2
       tPasses 9 x l true = true ∧ tPasses 9 x (tHeard 9 x l) false = true) ∧
      (let y := mirrorBody 1 0 2 3
       tPasses 9 y l true = true ∧ tPasses 9 y (tHeard 9 y l) false = true) := by decide +kernel

/-- LeafReportsAndWatch (LeavesWatched): 8 impressions of silence and 7, a flip report missing, and a TIME due. -/
theorem test_leavesWatched_met :
    let f (n u : Nat) : State := ({ tRing { st := .running } { unit := .inService } with imp := { (tPress 0).imp with counter := n }, tim := (tPress u).tim } : State).elapse 0
    ((f 9 0).leaf 960).inUse = true ∧ ((f 9 0).leaf 960).lostEp = false ∧ max (((f 9 0).leaf 960).lastHeard + 1) ((f 9 0).leaf 960).inUseFrom + 8 ≤ (f 9 0).imp.counter ∧
      (f 8 0).imp.counter < max (((f 8 0).leaf 960).lastHeard + 1) ((f 8 0).leaf 960).inUseFrom + 8 ∧ (f 1 (secU / 120)).flipMissing 960 = true ∧ (f 1 0).flipMissing 960 = false ∧ 15 < 16 ∧ (f 1 0).timeDue 15 = true ∧
      (f 1 0).endUp 15 0 = true ∧ (f 1 0).timeDue 0 = false := by decide +kernel

/-- AcksAndReplays: an acknowledgement of a waiting slug and of the header parts, in a first and a second copy, and replays due of a first, a second and a third copy. -/
theorem test_acksAndReplays_met :
    let x (n : Nat) : Slug := { tSlug with leaf := 960, checking := false, sentOn := some 0, copies := n, sentAt := 0 }
    let f (n p : Nat) (z : Leaf) : State :=
      let s := tRing { st := .running, ready := true } z
      ({ s with slg := { s.slg with slugs := [x n], rings := [(15, { pages := p })] } } : State).elapse 0
    let l : Leaf := { unit := .inService, feed := 1 }
    let a : AckEntry := { imp := 1, gen := 0, batch := 0, bitmap := 1 }
    let h : AckEntry := { imp := 1, gen := 0, batch := 255, bitmap := 1 }
    let b := ackBody [a, h]
    tPasses 8 b l true = true ∧ tPasses 8 b (tHeard 8 b l) false = true ∧ ackCovers a 960 (x 1) = true ∧ (x 1).waiting = true ∧ bit a.bitmap ((x 1).slug % 64) = true ∧ (x 1) ∈ (f 1 1 l).slg.slugs ∧
      h.imp.toNat = (f 1 1 l).m % 65536 ∧ 16 < 17 ∧ bit h.bitmap 0 = true ∧ ((f 1 1 { l with unit := .retired }).leaf 960).unit = .retired ∧
      (f 1 1 l).slug? 960 0 0 = some (x 1) ∧ (x 1).sentAt + (f 1 1 l).replayU ≤ (f 1 1 l).clk ∧ (f 1 1 l).delivering = true ∧ (f 1 1 l).slugDir (x 1) = some 0 ∧ (f 1 1 l).roomFor (x 1) 0 = true ∧ (x 1).copies ≠ 2 ∧
      (x 2).copies = 2 ∧ (f 2 1 l).slugDir (x 2) = some 0 ∧ (f 2 1 l).roomFor (asLiteral (x 2)) 0 = true ∧ ((f 2 1 l).stage 15 (stagedBytes 8192)).isSome = true ∧ ((f 2 0 l).stage 15 (stagedBytes 8192)).isSome = false ∧
      ((tSq 0).elapse 0).delivering = false := by decide +kernel

/-- RingClosure: a quire in session and one that is OFF, a third bad sheet that opens its direction and one that does not, a lane that is UP and none, and a break report that passes. -/
theorem test_ringClosure_met :
    let e (x : Quire) : State := (tRing x { unit := .inService }).elapse 0
    let r (y : Dir) : State := e { st := .running, dirA := y }
    let b := breakBody tBreak
    ((r {}).quire 15).st ≠ .off ∧ dataSeq 1 = true ∧ dataSeq 0 = false ∧ (((r {}).quire 15).dir 0).badRun ≠ 2 ∧ (((r { badRun := 2 }).quire 15).dir 0).badRun = 2 ∧ (((r { badRun := 2 }).quire 15).dir 0).broken = false ∧ (r { badRun := 2 }).endUp 15 1 = true ∧
      (((r { badRun := 2 }).quire 15).dir 0).mismEp = false ∧ (((r {}).quire 15).dir 0).st = .closed ∧ (r {}).rxLane 15 0 = some 76 ∧ ((r {}).lane 76).link = .up ∧ ((e { st := .off }).quire 15).st = .off ∧ ((e { st := .off }).rxLane 15 0).isSome = true ∧
      tBreak.port = 0 ∧ insCheckOk (tSent 10 b) 10 b = true ∧ (tSent 10 b).errored = false ∧ (tSent 10 b).leaf < (r {}).nLeaves 15 ∧ (tSent 10 b).session = ((r {}).quire 15).tag ∧ (((r {}).quire 15).dir 0).breakEp = false := by decide +kernel

/-- ReplanAndHeal: evidence of exactly 1 µs and of less, a direction healing for its time, and the end of a rebalance with a standby lane and without, at its time and before. -/
theorem test_replanAndHeal_met :
    let e (x : Quire) : State := (tRing x { unit := .inService }).elapse 0
    let a := e { st := .running, evid := [.leafU 1], evidAt := 1000 * secU - usU }
    let h := e { st := .running, dirA := { st := .healing }, dirB := { st := .healing } }
    let r := e { st := .running, rebal := some (3, 0, 1000 * secU - 50 * msU + 1) }
    let z := e { st := .running, rebal := some (3, 0, 1000 * secU - 50 * msU + 2) }
    let v (l : Link) := ({ tRing { st := .running, rebal := some (3, 0, 1000 * secU - 50 * msU + 1) } { unit := .inService } with lanes := [(75, { State.reset.lane 75 with func := 2, quire := 15, standby := true, link := l })] } : State).elapse 0
    let y := v .acquire
    let u := v .up
    tabWf (fun _ => ({} : Leaf)) a.leaves = true ∧ (a.quire 15).st = .running ∧ (a.quire 15).evid ≠ [] ∧ (a.quire 15).evidAt + usU ≤ a.clk ∧ (h.quire 15).evid = [] ∧ (h.quire 15).st ≠ .off ∧ ((h.quire 15).dir 0).st = .healing ∧ ((h.quire 15).dir 1).st = .healing ∧
      ((h.quire 15).dir 1).healAt + h.regBits 0x7008 0 10 * msU ≤ h.clk ∧ h.nLeaves 15 ≤ 64 ∧ ((a.quire 15).dir 0).st ≠ .healing ∧ (r.quire 15).rebal = some (3, 0, (1000 * secU - 50 * msU) + 1) ∧
      (1000 * secU - 50 * msU) + 50 * msU ≤ r.clk ∧ (∀ d < 2, (r.endLane 15 d).all (fun w => !(r.lane w).standby) = true) ∧ y.endLane 15 0 = some 75 ∧ (y.lane 75).standby = true ∧ 75 % 5 ≠ 4 ∧ y.endUp 15 0 = false ∧ u.endUp 15 0 = true ∧ (u.quire 15).dirA.st = .closed ∧ (u.quire 15).dirB.st = .closed ∧
      (z.quire 15).rebal = some (3, 0, (1000 * secU - 50 * msU + 1) + 1) ∧ z.clk < (1000 * secU - 50 * msU + 1) + 50 * msU ∧ (a.quire 15).rebal = none := by decide +kernel

/-- AcksAndReplays (PacketBytes): the header of an ADOPT to quire 15 begins with its TYPE, LENGTH 52 and LEAF (Tables 9-2, 9-3 and 9-10); the directions of a packet. -/
theorem test_packetBytes :
    let p : QPkt := .adopt 9 2 0 15
    p.body.length = 32 ∧ (p.bytes 0 9).length = 52 ∧ slice (p.bytes 0 9) 2 2 = [0, 52] ∧ slice (p.bytes 0 9) 8 8 = [0, 0, 0, 0, 0, 0, 0, 9] ∧ slice (p.bytes 0 9) 32 8 = [0, 0, 0, 0, 0, 0, 0, 9] ∧ p.type ≠ 2 := by decide +kernel

/-- QuiresAndLaneSettings (QuadsAndQuires): quad 15 and quire 15 enabled and cleared, in either mode, with lanes that may be its ends and with lanes that may not, and a spare in the place of one. -/
theorem test_quadsAndQuires_met :
    let s := tRing { st := .running } { unit := .inService }
    let e := s.elapse 0
    let eq (k : Nat) : Lane := { State.reset.lane k with eqValid := true }
    let g (l : Tab Lane) : State := ({ s with regs := [(0x607C, 2), (0x72E0, 2)], lanes := l } : State).elapse 0
    let f := g [(75, eq 75), (76, eq 76)]
    let z := g [(75, { eq 75 with unit := .retired }), (76, eq 76), (79, { State.reset.lane 79 with subst := true, for_ := 0 })]
    tabWf laneDflt f.lanes = true ∧ tabWf (fun _ => ({} : Quire)) f.quires = true ∧ tabWf (fun _ => ({} : Leaf)) f.leaves = true ∧ e.regBit (0x6040 + 4 * 15) 1 = false ∧ bit (2 : Word) 1 = true ∧ bit (1 : Word) 1 = false ∧
      f.regBit (0x6040 + 4 * 15) 1 = true ∧ f.macOf 15 = none ∧ f.quireNames 15 = false ∧
      e.regBit (0x6080 + 4 * 15) 16 = true ∧ f.regBit (0x6080 + 4 * 15) 16 = false ∧ bit (0x14C4B : Word) 16 = true ∧ (f.endOk 15 75 && f.endOk 15 76 && decide (75 ≠ 76)) = true ∧
      (f.endOk 15 79 && f.endOk 15 76 && decide (79 ≠ 76)) = false ∧ (f.lane 75).unit = .inService ∧ (f.lane (spareOf 75)).subst = false ∧ 1 ≤ f.nLeaves 15 ∧ (z.lane (spareOf 75)).subst = true ∧ (z.lane (spareOf 75)).for_ = 75 % 5 ∧
      (z.endOk 15 75 && z.endOk 15 76 && decide (75 ≠ 76)) = true ∧ (e.lane 75).isEnd = true ∧ (e.lane 75).quire = 15 := by decide +kernel

/-- QuiresAndLaneSettings (LaneSettings): a lane without function, one with, one in its loop, a RETIRED and a SPARE one, and each value of RESTORE and LOOP that its clauses name; a receiver that adapts and one that does not. -/
theorem test_laneSettings_met :
    let s := tRing { st := .running } {}
    let f (r : Tab Word) (x : Lane) : State := ({ s with regs := r, lanes := [(5, x), (75, { State.reset.lane 75 with func := 2, quire := 15, link := .up })] } : State).elapse 0
    let l : Lane := { State.reset.lane 5 with eqValid := true }
    let e := f [] l
    let up := f [] { l with func := 2, link := .up, quire := 3 }
    let lp := f [(laneReg 5, 2)] { l with func := 4, link := .up }
    let rt := f [] { l with unit := .retired }
    tabWf laneDflt e.lanes = true ∧ tabWf rwReset lp.regs = true ∧ e.regBits 0x60C0 0 7 < 80 ∧ (e.lane (e.regBits 0x60C0 0 7)).link = .off ∧ (f [(0x60C0, 80)] l).regBits 0x60C0 0 7 = 80 ∧
      bits (8 : Word) 0 2 = 0 ∧ bit (8 : Word) 3 = true ∧ e.loop 5 = 0 ∧ lp.loop 5 = 2 ∧ (lp.lane 5).func = 4 ∧ bits (3 : Word) 0 2 ≠ 0 ∧ (e.lane 5).func = 0 ∧ (e.lane 5).unit ≠ .retired ∧ bits (3 : Word) 0 2 ≠ e.loop 5 ∧
      bits (2 : Word) 0 2 = lp.loop 5 ∧ (lp.lane 5).link ≠ .off ∧ (rt.lane 5).unit = .retired ∧ bit (3 : Word) 3 = false ∧ ((up.lane 5).func ≠ 0 ∧ (up.lane 5).func ≠ 4 ∧ (up.lane 5).unit ≠ .spare) ∧
      (f [] { l with unit := .degraded }).lane 5 = { l with unit := .degraded } ∧ up.adapting 5 = true ∧ 16 < 17 ∧ e.adapting 5 = false := by decide +kernel

/-- The lanes of port 0 of MAC 0 in quad 0, in the link state given. -/
def tPort (l : Link) : State :=
  { tSq 0 with
    regs := [(0x1020, 0x110), (0x6040, 3)]
    lanes := [(0, { State.reset.lane 0 with func := 1, link := l }), (1, { State.reset.lane 1 with func := 1, link := l }), (2, { State.reset.lane 2 with func := 1, link := .up }), (3, { State.reset.lane 3 with func := 1, link := .up }),
      (5, { State.reset.lane 5 with func := 2, quire := 0, link := l, since := 1000 * secU - 50 * msU })]
    quires := [(0, { st := .running })] }
/-- The two ends of quire 15, in the link states given. -/
def tEnds (a b : Link) (u : Unit4) : State :=
  { tRing { st := .running } { unit := .inService } with
    lanes := [(75, { State.reset.lane 75 with func := 2, quire := 15, link := a, since := 1000 * secU - 50 * msU, unit := u }), (76, { State.reset.lane 76 with func := 3, quire := 15, link := b })] }

/-- LaneAlignment: a quire's end and the lanes of a port that align, lose alignment and time out, a port short of a lane, a RETIRED lane, and a quire whose other end is DOWN. -/
theorem test_laneAlignment_met :
    let a := (tPort .acquire).elapse 0
    let r := (tPort .realign).elapse 0
    let u := (tPort .up).elapse 0
    let z := ({ tPort .acquire with lanes := [(0, { State.reset.lane 0 with func := 1, link := .acquire })] } : State).elapse 0
    let w := (tEnds .realign .down .inService).elapse 0
    tabWf laneDflt a.lanes = true ∧ canAlign (a.lane 5).link = true ∧ a.portOf 5 = none ∧ (a.lane 5).link ≠ .realign ∧ canAlign (r.lane 5).link = true ∧ (r.lane 5).trans.length < 2 ∧ a.portOf 0 = some 0 ∧ (a.peers 0).length = a.portWidth 0 ∧
      (∀ k ∈ a.peers 0, (a.lane k).trans.length < 2) ∧ z.portOf 0 = some 0 ∧ (z.peers 0).length ≠ z.portWidth 0 ∧ canAlign (u.lane 0).link = false ∧ (u.lane 5).link = .up ∧ (u.lane 5).isEnd = true ∧ (u.quire 0).st ≠ .off ∧
      (a.lane 5).losRaised = false ∧ (a.lane 5).since + 50 * msU ≤ a.clk ∧ (r.lane 5).since + msU ≤ r.clk ∧ (r.lane 0).isEnd = false ∧ (((tEnds .off .up .retired).elapse 0).lane 75).unit = .retired ∧
      ((w.lane 75).link = .realign ∧ (w.lane 75).since + msU ≤ w.clk ∧ (w.lane 75).isEnd = true ∧ (w.quire 15).st = .running ∧ w.endLane 15 0 = some 75 ∧ w.endLane 15 1 = some 76 ∧ (w.lane 76).link = .down) := by decide +kernel

/-- LaneIdleAndMargins (ElectricalIdle): a nick of a lane that is UP and one of an Ethernet lane, a wake and a burst in time, and a transmitter that may idle, and not. -/
theorem test_electricalIdle_met :
    let f (x : Lane) : State := ({ tRing { st := .running } {} with lanes := [(75, { x with func := 2, quire := 15 })] } : State).elapse 0
    let u := f { State.reset.lane 75 with link := .up }
    let i := f { State.reset.lane 75 with link := .idle, idleSeq := some 65519 }
    let t := f { State.reset.lane 75 with link := .up, txIdle := some 0 }
    tabWf laneDflt u.lanes = true ∧ (u.lane 75).link = .up ∧ (u.lane 75).func ≠ 1 ∧ 65519 < 65520 ∧ 65519 % 20 ≠ 0 ∧ (((tPort .up).elapse 0).lane 0).func = 1 ∧ (i.lane 75).link = .idle ∧ (i.lane 75).idleSeq = some 65519 ∧ 0 = (65519 + 1) % 65520 ∧ (u.lane 75).idleSeq = none ∧
      (i.lane 75).since + i.idleMax + 10 * usU ≤ i.clk ∧ u.regBit 0x6008 16 = true ∧ (u.lane 75).isEnd = true ∧ (u.lane 75).txIdle = none ∧ (u.lane 75).txBusyTo ≤ u.clk ∧ (t.lane 75).txIdle = some 0 ∧ (i.quire 15).st ≠ .off := by decide +kernel

/-- An SNR whose figure of merit lies between RETIRE_FOM and LOW_FOM. -/
def tLowSnr : Int := 19500

/-- LaneMargins: a link sheet on a lane that is UP; means that are low for exactly 100 ms and below RETIRE_FOM for exactly 1 s, in REALIGN too; a lane at rest; and a slice in use beside one that is not. -/
theorem test_laneMargins_met :
    let f (x : Lane) : State := ({ tRing { st := .running } {} with lanes := [(75, { x with func := 2, quire := 15 })] } : State).elapse 0
    let u := f { State.reset.lane 75 with link := .up }
    let l := f { State.reset.lane 75 with link := .up, lowSince := some (1000 * secU - 100 * msU) }
    let r := f { State.reset.lane 75 with link := .up, retSince := some (999 * secU) }
    let w := f { State.reset.lane 75 with link := .realign, retSince := some (999 * secU) }
    let i := f { State.reset.lane 75 with link := .idle }
    let n := f { State.reset.lane 75 with link := .realign }
    tSheet.crcOk = true ∧ (u.lane 75).link = .up ∧ (u.lane 75).func ≠ 1 ∧ tSheet.echoValid = false ∧ (∀ k ∈ u.peers 75, (u.lane k).trans.length < 2) ∧ u.retireFom ≤ fomMean [25000] ∧ (u.lane 75).trans.length < 2 ∧ u.adapting 75 = true ∧ i.adapting 75 = false ∧
      (i.lane 75).link = .idle ∧ fomMean [tLowSnr] < l.lowFom ∧ l.retireFom ≤ fomMean [tLowSnr] ∧ (l.lane 75).lowSince = some (1000 * secU - 100 * msU) ∧ 1000 * secU - 100 * msU + 100 * msU ≤ l.clk ∧ (l.lane 75).lowEp = false ∧
      fomMean [-99999] < r.retireFom ∧ (r.lane 75).retSince = some (999 * secU) ∧ 999 * secU + secU ≤ r.clk ∧ 2 ≤ r.severity .laneRetired ∧ (w.lane 75).link = .realign ∧ (w.lane 75).retSince = some (999 * secU) ∧ 2 ≤ w.severity .laneRetired ∧
      heldFor (n.lane 75).retSince secU n.clk = false ∧ (((tEnds .off .up .inService).elapse 0).lane 75).link = .off ∧ u.loop 75 ≠ 1 ∧ u.loop 75 ≠ 2 ∧ (u.lane 75).inUse 31 = true ∧ (u.lane 75).inUse 35 = false := by decide +kernel

/-! ### Time and references -/

/-- PTP enabled in domain 3 on port 0, which is active, with one acceptable master; module time 1,000 s. -/
def tPtp (t : Tim) : State :=
  let s := tSq 0
  { s with
    regs := [(0x1020, 0x120), (0x1800, 7), (0x8004, 0x301), (0x8008, 1), (0x8108, 0x10001), (0x810C, 7), (0x8100, 5)]
    tim := { t with valid := true, time := 1000 * secU } }
def tMaster (at_ : Nat) : Master := { src := tSrc, entry := 0, ann := tAnn, heard := [at_], qualified := true }

/-- MastersSelected: intervals of -3 and 1, an Announce that qualifies, one of another source, and the last master lost and not yet lost. -/
theorem test_mastersSelected_met :
    let e := (tPtp { masters := [tMaster (996 * secU)], sel := some tSrc, servo := .locked }).elapse 0
    let n := (tPtp { masters := [tMaster (998 * secU)] }).elapse 0
    (e.ptpEntry tSrc).isSome = true ∧ -3 ≤ tAnn.logInt ∧ tAnn.logInt ≤ 1 ∧ tMaster (996 * secU) ∈ e.tim.masters ∧ e.clk ≤ 996 * secU + 4 * logSec tAnn.logInt ∧ e.ptpEntry { tSrc with addr := 8 } = none ∧
      e.tim.masters[0]? = some (tMaster (996 * secU)) ∧ 996 * secU + 3 * (tMaster 0).interval ≤ e.clk ∧ e.tim.sel ≠ none ∧ e.tim.servo = .locked ∧ n.clk < 998 * secU + 3 * (tMaster 0).interval ∧ n.tim.masters[0]? = some (tMaster (998 * secU)) := by decide +kernel

/-- ServoAndPathDelay (ServoFollows): an exchange in QUALIFY before the 16th and the 16th, one while LOCKED, and a Follow_Up. -/
theorem test_servoFollows_met :
    let f (v : Servo) (n : Nat) : State := (tPtp { sel := some tSrc, servo := v, exch := List.replicate n 0, syncAt := some 5 }).elapse 0
    let l := f .locked 0
    (l.ptpEntry tSrc).isSome = true ∧ l.tim.sel = some tSrc ∧ l.sys.supRun = true ∧ l.tim.servo = .locked ∧ l.tim.rate.natAbs ≤ 109951163 ∧ (f .qualify 14).tim.servo = .qualify ∧ (f .qualify 14).tim.exch.length < 15 ∧
      15 ≤ (f .qualify 15).tim.exch.length ∧ l.tim.syncAt = some 5 ∧ ((tPtp {}).elapse 0).tim.sel ≠ some tSrc := by decide +kernel

/-- MastersSelected and ServoAndPathDelay (ServoFollows): no third master, a servo that is UNSET or in HOLDOVER, after a host start too, a supervisor in reset, no Sync waiting, and a master that does not qualify by its interval. -/
theorem test_servoStates_met :
    let f (x : Tim) : State := (tPtp { x with sel := some tSrc }).elapse 0
    let r := ({ tPtp { sel := some tSrc, servo := .locked, syncAt := some 5 } with sys := { (tSq 0).sys with supRun := false } } : State).elapse 0
    ((tPtp { masters := [tMaster 0] }).elapse 0).tim.masters[1]? = none ∧ ((tPtp { servo := .holdover }).elapse 0).tim.servo = .holdover ∧ ((tPtp {}).elapse 0).tim.servo = .unset ∧ -4 < (-3 : Int) ∧ (1 : Int) < 2 ∧
      (f {}).tim.servo = .unset ∧ (f { servo := .holdover }).tim.atStart = false ∧ (f { servo := .holdover, atStart := true }).tim.atStart = true ∧ (f { servo := .tracking }).tim.servo = .tracking ∧ r.sys.supRun = false ∧ (f {}).tim.syncAt = none ∧
      ((f {}).ptpEntry { tSrc with addr := 8 }) = none := by decide +kernel

/-- ServoAndPathDelay (PathDelay): a Delay_Resp of an open request, a request due and one that is not, and no master. -/
theorem test_pathDelay_met :
    let e := (tPtp { sel := some tSrc, reqAt := some 9, lastSync := some (3, 5), nextReq := 1000 * secU }).elapse 0
    let n := (tPtp { sel := some tSrc, nextReq := 1000 * secU + 1 }).elapse 0
    (e.ptpEntry tSrc).isSome = true ∧ e.tim.sel = some tSrc ∧ e.tim.reqAt = some 9 ∧ e.tim.lastSync = some (3, 5) ∧ n.tim.reqAt = none ∧ e.ptpPort tSrc.port = true ∧ e.tim.nextReq ≤ e.clk ∧ n.clk < n.tim.nextReq ∧ ((tPtp {}).elapse 0).tim.sel = none ∧
      ((tPtp { sel := some tSrc, reqAt := some 9 }).elapse 0).tim.lastSync = none ∧ (({ tPtp { sel := some tSrc } with regs := [(0x8004, 0x301)] } : State).elapse 0).ptpPort 0 = false := by decide +kernel

/-- TimeAndPeriod: every case of a host start, of a P taken, kept for its t_c and refused, and of the generator's start. -/
theorem test_timeAndPeriod_met :
    let r (d : Word) : Tab Word := [(0x8004, 8), (0x8050, 1), (0x8054, d)]
    let f (d : Word) (t : Tim) : State := ({ tSq 0 with regs := r d, imp := { State.reset.imp with setup := {} }, tim := t } : State).elapse 0
    let p := (1, 60, 0)
    let g := f 60 { pUse := some p, readyAt := some 0, time := secU }
    let k := (firstTick p (0 + 10 * msU)).toNat
    bits (999999999 : Word) 0 30 ≤ 999999999 ∧ 999999999 < bits (1000000000 : Word) 0 30 ∧ (f 60 {}).timCtrl 3 = true ∧ (f 60 {}).tim.servo = .unset ∧ (f 60 { servo := .locked }).tim.servo ≠ .unset ∧ (f 60 { servo := .locked }).tim.servo ≠ .qualify ∧
      bit (1 : Word) 0 = true ∧ bit (2 : Word) 0 = false ∧ (f 60 { servo := .qualify }).tim.servo = .qualify ∧ (({ tSq 0 with regs := [] } : State).elapse 0).timCtrl 3 = false ∧ (f 60 {}).tim.readyAt = none ∧ (f 60 {}).periodOk p = true ∧ (f 60 {}).tim.genRun = false ∧ ((f 60 {}).reg 0x8054).toNat = 60 ∧ (f 60 { genRun := true, pUse := some p }).tim.genRun = true ∧ (f 60 { genRun := true, pUse := some p }).periodOk p = true ∧ (f 241 {}).periodOk (1, 241, 0) = false ∧
      g.tim.genRun = false ∧ g.tim.pUse = some p ∧ g.tim.readyAt = some 0 ∧ g.tim.ticks = 0 ∧ g.tim.pPend = none ∧ tickTime p k ≤ g.tim.time ∧ (f 60 { pUse := some p, readyAt := some 0, time := 10 * msU }).tim.time < tickTime p k := by decide +kernel

/-- PulseOutputs: an output of each mode, targets ahead and past, armed pulses due and not yet due, and a periodic one at its instant. -/
theorem test_pulseOutputs_met :
    let f (x : Pout) (u : Nat) : State := ({ tSq 0 with tim := { time := u, genRun := true, pouts := [(3, x)] } } : State).elapse 0
    let a : Pout := { mode := 3, armed := true, tgt := 5 }
    let b : Pout := { mode := 2, lastAt := some 0, pDen := 1 }
    let c : Pout := { mode := 1, lastAt := some 0, pNum := 1, pDen := 60 }
    tabWf (fun _ => ({} : Pout)) (f a 0).tim.pouts = true ∧ ((f a 0).pout 3).mode = 3 ∧ bits (999999999 : Word) 0 30 ≤ 999999999 ∧ 999999999 < bits (1000000000 : Word) 0 30 ∧ ((f a (5 * nsU)).pout 3).armed = true ∧
      ((f a (5 * nsU)).pout 3).tgt * nsU ≤ (f a (5 * nsU)).tim.time ∧ (f a (5 * nsU - 1)).tim.time < ((f a (5 * nsU - 1)).pout 3).tgt * nsU ∧ b.after 0 = some (secU : Int) ∧ (secU : Int) ≤ (f b secU).tim.time ∧
      c.after 0 = some ((secU / 60 : Nat) : Int) ∧ ((secU / 60 : Nat) : Int) ≤ (f c secU).tim.time ∧ (f c secU).tim.genRun = true ∧ ((f c 0).pout 3).mode ≠ 3 ∧ ((f c 0).pout 2).mode = 0 ∧ bits (1 : Word) 0 2 ≠ ((f a 0).pout 3).mode := by decide +kernel

/-- PulseOutputs: pulses in progress when the next one is due, for each kind of write that can cut them, and outputs that are not due. -/
theorem test_pulseCuts_met :
    let f (x : Pout) (u : Nat) (g : Bool) (r : Tab Word) : State := ({ tSq 0 with regs := r, tim := { time := u, genRun := g, pouts := [(3, x)] } } : State).elapse 0
    let a : Pout := { mode := 3, last := some (0, 100 * nsU) }
    let e := f a (3 * nsU) true []
    let c : Pout := { mode := 1, lastAt := some 0, pNum := 1, pDen := 60, last := some (secU - 10, 3 * secU) }
    let k := f c secU true []
    let y := k.poutCopy 3 { (k.pout 3) with mode := 2, armed := false }
    (e.pout 3).last = some (0, 100 * nsU) ∧ (0 : Int) < Int.ofNat (5 * nsU) ∧ Int.ofNat (5 * nsU) < ((100 * nsU : Nat) : Int) ∧ e.tim.time < 100 * nsU ∧ e.tim.time < 5 * nsU ∧
      bits (2 : Word) 0 2 ≠ (k.pout 3).mode ∧ bits (2 : Word) 0 2 ≠ 0 ∧ y.after k.tim.time = some (2 * secU : Int) ∧
      (e.pout 3).armed = false ∧ (f c secU false []).tim.genRun = false ∧ ((f { mode := 2, lastAt := some 0, pDen := 1 } 3 true []).tim.time : Int) < (secU : Int) := by decide +kernel

/-- ReferencesFollowed: PDUs on a port that is active and on one that is not, REFQL frames good and bad, 5 s of silence, a wait that ends, and the phase build-out. -/
theorem test_referencesFollowed_met :
    let f (c : Nat) (x : Cand) (b : Bool) : State := ({ tPtp {} with refs := { cands := [(c, x)], buildout := b } } : State).elapse 0
    let g : List Byte := [0xA5, 0x5A, 1, 2, 0, 0]
    let crc := (crc16 0xFFFF g).toNat
    let good := g ++ [BitVec.ofNat 8 (crc / 256), BitVec.ofNat 8 (crc % 256)]
    let v : Cand := { validSince := some 0, ql := 2, qlFailed := false, signal := true, inRange := true }
    let e := f 9 v true
    tabWf (fun _ => ({} : Cand)) e.refs.cands = true ∧ e.portActive (4 * 0) = true ∧ e.portActive (4 * 7) = false ∧ good.length = 8 ∧ good.take 2 = [0xA5, 0x5A] ∧ refqlGood good = some (1, 2) ∧ refqlGood (g ++ [0, 0]) = none ∧
      (e.cand 9).qlTimeout = false ∧ (e.cand 9).qlAt + 5 * secU ≤ e.clk ∧ ((f 9 { v with qlTimeout := true } true).cand 9).qlTimeout = true ∧ (e.cand 9).validSince = some 0 ∧ (e.cand 9).eligible = false ∧ 0 + (e.cand 9).wait ≤ e.clk ∧
      ((f 9 { v with eligible := true } false).cand 9).eligible = true ∧ e.refs.sel = 15 ∧ e.refs.freeEp = false ∧ e.refs.buildout = true ∧ (f 9 v false).refs.buildout = false := by decide +kernel

/-- ReferencesFollowed: a frame of another version, one of another length, no candidate 10, a wait that has not ended, a candidate already eligible or not valid, and a better candidate than the one followed. -/
theorem test_references_others_met :
    let f (c : Nat) (x : Cand) : State := ({ tPtp {} with refs := { cands := [(c, x)] } } : State).elapse 0
    let g : List Byte := [0xA5, 0x5A, 2, 2, 0, 0]
    let crc := (crc16 0xFFFF g).toNat
    let v : Cand := { validSince := some (1000 * secU), ql := 2, qlFailed := false, signal := true, inRange := true }
    refqlGood (g ++ [BitVec.ofNat 8 (crc / 256), BitVec.ofNat 8 (crc % 256)]) = some (2, 2) ∧ g.length ≠ 8 ∧ 10 ≤ 10 ∧ 2 ≤ 2 ∧ (f 9 v).clk < 1000 * secU + ((f 9 v).cand 9).wait ∧ ((f 9 { v with validSince := none }).cand 9).validSince = none ∧
      ((f 0 { v with eligible := true }).bestCand = some 0 ∧ 0 ≠ (f 0 { v with eligible := true }).refs.sel) ∧ (f 9 v).bestCand = none := by decide +kernel

/-! ### Memory -/

def tMem (x : Pc) : State := { tSq 0 with regs := [(0xA004, 1)], mem := { State.reset.mem with pcs := [(63, x)], tempHold := false } }
def tLast : DramAddr := { pc := 63, bank := 31, row := 24575, col := 31 }

/-- DramErrors: the last word of the stacks, one address beyond it, a RETIRED pseudo-channel, the scrubber on and off, a second corrected read within the hour, and a word of the canvas and of the reference image. -/
theorem test_dramErrors_met :
    let e := (tMem { corr := [(31, 24575, 999 * secU), (31, 24575, 998 * secU)] }).elapse 0
    addrOk tLast = true ∧ (e.pc 63).unit ≠ .retired ∧ e.regBit 0xA004 0 = true ∧ addrOk { tLast with row := 24576 } = false ∧ (((tMem { unit := .retired }).elapse 0).pc 63).unit = .retired ∧ (({ tMem {} with regs := [(0xA004, 0)] } : State).elapse 0).regBit 0xA004 0 = false ∧
      2 ≤ ((e.pc 63).corr.filter fun y => y.1 == tLast.bank && y.2.1 == tLast.row && decide (e.clk < y.2.2 + hour)).length ∧ tget 0 (e.pc 63).sparesUsed 31 < 2 ∧ (∀ r ∈ (e.pc 63).repairs, r.1 = tLast.bank → r.2.1 ≠ tLast.row) ∧
      e.paired (.canvas 0) = false ∧ e.paired .other = false := by decide +kernel

/-- DramErrors: an uncorrectable word of each owner: a tile of the canvas without a twin, an entry of the reference image, a staged slug, and a table being staged; and a first error after more than a second. -/
theorem test_dramOwners_met :
    let x : Slug := { tSlug with slug := 3, checking := false }
    let i : Item := { id := 3, sq := 0, slot := 0, cq := 0, opcode := 0x0301, desc := tSlot 0x0301 [], auth := 0, target := 1, phase := .working }
    let s := tMem { ceAt := some (1000 * secU - 1) }
    let e := ({ s with win := (tPress 0).win, slg := { s.slg with slugs := [x], certain := [3], refs := [(3, { codes := [1, 2, 3] })] }, hif := { s.hif with items := [i] } } : State).elapse 0
    addrOk tLast = true ∧ (e.pc 63).unit ≠ .retired ∧ e.paired (.canvas 5) = false ∧ e.slug? 0 3 0 = some x ∧ e.item? 3 = some i ∧ i.opcode = 0x0301 ∧ (e.refEntry 0 3).codes = [1, 2, 3] ∧
      duePerSec (e.pc 63).ceAt e.clk = false ∧ duePerSec (e.pc 63).ueAt e.clk = true ∧ (∀ r ∈ (e.pc 63).repairs, r.1 = tLast.bank → r.2.1 ≠ tLast.row) := by decide +kernel

/-- RowsAndPseudoChannels (RowActivates): a row in its ledger and a row that is not, a full ledger, both modes, and rows and stacks at their bounds. -/
theorem test_rowActivates_met :
    let f (l : List (Nat × Nat)) (m : Nat) : State := ({ tMem {} with mem := { (tMem {}).mem with ledgers := [(32 * 63 + 31, l)], mode := [0, m], delayed := [(63, 31, 5, 7)] } } : State).elapse 0
    let full := (List.range 32).map fun k => (k, k + 1)
    let l (s : State) := tget [] s.mem.ledgers (32 * 63 + 31)
    ((l (f [(5, 2048)] 0)).find? fun y => y.1 == 5) = some (5, 2048) ∧ ((l (f [(5, 1)] 0)).find? fun y => y.1 == 6) = none ∧ (l (f [(5, 1)] 0)).length < 32 ∧ ((l (f full 0)).find? fun y => y.1 == 99) = none ∧ 32 ≤ (l (f full 0)).length ∧
      nthD 0 (f full 0).mem.mode (63 / 32) ≠ 1 ∧ nthD 0 (f full 1).mem.mode (63 / 32) = 1 ∧ (ledgerHit 99 (l (f full 0))).2 < nthD 2048 (f full 0).mem.thr 1 ∧ nthD 2048 (f [(5, 2048)] 0).mem.thr 1 ≤ (ledgerHit 5 (l (f [(5, 2048)] 0))).2 ∧
      nthD 2048 (f [(5, 2048)] 1).mem.thr 1 ≤ 2048 ∧ ((f full 1).mem.delayed.find? fun y => y.1 == 63 && y.2.1 == 31 && y.2.2.1 == 5) = some (63, 31, 5, 7) := by decide +kernel

/-- RowsAndPseudoChannels (RowActivates): the last row and one beyond it, and a refresh window that has ended, one that has not, and no third stack. -/
theorem test_refreshWindows_met :
    let s := tMem {}
    let f (n : Nat) : State := ({ s with mem := { s.mem with winAt := [0, n] } } : State).elapse 0
    24575 < 24576 ∧ 24576 ≤ 24576 ∧ 1 < 2 ∧ 2 ≤ 2 ∧ nthD 0 (f 0).mem.winAt 1 + (f 0).refreshWindow 1 ≤ (f 0).clk ∧ (f (1000 * secU)).clk < nthD 0 (f (1000 * secU)).mem.winAt 1 + (f (1000 * secU)).refreshWindow 1 := by decide +kernel

/-- RowsAndPseudoChannels (PseudoChannels): eyes on either side of the margin and of its hysteresis, a hold of exactly 100 ms, a DEGRADED pseudo-channel without an extent, and a return that ends. -/
theorem test_pseudoChannels_met :
    let e (x : Pc) : State := (tMem x).elapse 0
    let m (y : Eyes) := min (minEye (eyes5 y.rd)) (minEye (eyes5 y.wr))
    let at_ (n : Nat) : Eyes := { rd := List.replicate 5 n, wr := List.replicate 5 n }
    let g := (e {}).regBits 0xA010 0 8
    let h := ({ tMem {} with mem := { (tMem {}).mem with tempHold := true, holdAt := 1000 * secU - 100 * msU } } : State).elapse 0
    let r := ({ tMem { unit := .retired } with regs := [(0xA080, 63)] } : State).elapse 0
    ((e {}).pc 63).unit = .inService ∧ ((e {}).pc 63).lowMargin = false ∧ m (at_ (g - 1)) < g ∧ g ≤ m (at_ g) ∧ ((e { lowMargin := true }).pc 63).lowMargin = true ∧ g + 8 ≤ m (at_ (g + 8)) ∧ m (at_ (g + 7)) < g + 8 ∧ 2 ≤ ({ e {} with flt := { State.reset.flt with sev := [(0x0605, 2)] } } : State).severity .memTrainMargin ∧
      h.mem.tempHold = true ∧ h.mem.holdAt + 100 * msU ≤ h.clk ∧ (e {}).mem.tempHold = false ∧ ((e { unit := .degraded }).pc 63).unit = .degraded ∧ (∀ a ∈ (e { unit := .degraded }).mem.allocs, tget 0 a.ext 63 + tget 0 a.twin 63 = 0) ∧
      bit (1 : Word) 0 = true ∧ r.regBits 0xA080 0 6 = 63 ∧ (r.pc 63).unit = .retired ∧ ((e { restoring := true }).pc 63).restoring = true ∧ ((e {}).pc 63).restoring = false := by decide +kernel

/-- RowsAndPseudoChannels (PseudoChannels): the end of a return with every failing row repaired, with one that cannot be, and with TEMP_HOLD; and a write of MEM_PC_CTRL for one in service. -/
theorem test_returns_met :
    let e (x : Pc) : State := (tMem x).elapse 0
    let r : Pc := { restoring := true, unit := .retired }
    let h := ({ tMem r with mem := { (tMem r).mem with tempHold := true } } : State).elapse 0
    let w := ({ tMem {} with regs := [(0xA080, 63)] } : State).elapse 0
    tabWf (fun _ => ({} : Pc)) (e r).mem.pcs = true ∧ ((e r).pc 63).restoring = true ∧ (e r).mem.tempHold = false ∧ ((e r).testRows 63 [(3, 4)]).1 = false ∧ ((e { r with sparesUsed := [(3, 2)] }).testRows 63 [(3, 4)]).1 = true ∧ h.mem.tempHold = true ∧
      w.regBits 0xA080 0 6 = 63 ∧ (w.pc 63).unit ≠ .retired ∧ (w.pc 63).unit ≠ .degraded := by decide +kernel

/-! ### Temperature, supply and stops -/

def tThp (x : Thp) : State := { tSq 0 with thp := x }
/-- The state a command leaves. -/
def tNext (c : Instr) (s : State) : State := match exec c s with
  | .next t => t
  | _ => s
/-- 20 sensors at a temperature. -/
def tAll (n : Int) : Tab (List Int) := (List.range 20).map fun k => (k, [n])
/-- Writes are permitted: the supply in its window, the die at 31.25 °C. -/
def tOk : Thp := { writeOk := true, samples := tAll 500 }

/-- SensorsAndSupply: readings at and beyond both ends of the range, a hottest mean at each threshold and below it, no reading at all, and samples of the supply at each count and stretch. -/
theorem test_sensorsAndSupply_met :
    let e (x : Thp) : State := (tThp x).elapse 0
    let c : State := ({ tSq 0 with cal := { State.reset.cal with running := true } } : State).elapse 0
    let t (n : Int) : State := tNext (.thermalSample 0 [n]) (tThp {})
    let n (v : Nat) (x : Thp) : Thp := (e x).thp.noted (e x).clk v 0 0
    let far (x : Option Nat) (k : Nat) : Bool := lasted x k (1000 * secU)
    1 ≤ (e {}).sys.stage ∧ (e {}).cal.running = false ∧ c.cal.running = true ∧ ((State.reset.elapse 0).sys.stage = 0) ∧ ([-880, 2400, -881, 2401] : List Int)[3]? = some 2401 ∧ ([-880, 2400, -881, 2401] : List Int)[0]? = some (-880) ∧
      hottest (t 1520).readings = some (0, 1520) ∧ hottest (t 1600).readings = some (0, 1600) ∧ hottest (t 1760).readings = some (0, 1760) ∧ hottest (t 1759).readings = some (0, 1759) ∧ hottest (tNext (.thermalSample 0 []) (tThp {})).readings = none ∧
      (e {}).thp.warn = false ∧ (e {}).thp.throttle = false ∧ (e {}).thp.shut = false ∧ (e { shut := true, resumedFlip := true }).thp.resumedFlip = true ∧ (e {}).hif.ready = true ∧ (e {}).thp.stopping = false ∧ (e {}).thp.stopped = false ∧ State.reset.hif.ready = false ∧
      (n 2799 { n28 := 2 }).n28 < 4 ∧ 4 ≤ (n 2799 { n28 := 3 }).n28 ∧ far (n 3599 { outLow := some (1000 * secU - 100 * msU) }).outLow (100 * msU) = true ∧ far (n 3599 { outLow := some (1000 * secU - 100 * msU + 1) }).outLow (100 * msU) = false ∧
      (e { low := true }).thp.low = true ∧ far (n 3700 { inLow := some (999 * secU) }).inLow secU = true ∧ far (n 3700 { inLow := some (999 * secU + 1) }).inLow secU = false ∧ 4 ≤ (n 3299 { n33 := 3 }).n33 ∧ 4 ≤ (n 10001 { n100 := 3 }).n100 ∧
      (n 3299 { n33 := 2 }).n33 < 4 ∧ (n 10000 { n100 := 3 }).n100 < 4 := by decide +kernel

/-- SensorsAndSupply: a trigger during a stop, when stopped and while a resume is in progress. -/
theorem test_triggers_met :
    let e (x : Thp) : State := (tThp x).elapse 0
    let r := e { stopped := true, resuming := true }
    let s := e { stopped := true }
    let d := e { stopping := true }
    (r.hif.ready = true ∧ r.thp.stopped = true ∧ r.thp.resuming = true ∧ r.thp.shut = false ∧ r.thp.fail = false) ∧ (s.hif.ready = true ∧ s.thp.stopped = true ∧ s.thp.resuming = false) ∧ d.thp.stopping = true ∧ d.thp.stopped = false ∧
      hottest (tNext (.thermalSample 0 [1760]) (tThp { stopped := true, resuming := true })).readings = some (0, 1760) ∧ 4 ≤ (({ stopped := true, resuming := true, n33 := 3 } : Thp).noted r.clk 3299 0 0).n33 := by decide +kernel

/-- A thermal sample at the shut-down threshold begins the orderly stop with cause 1 (Table 13-9). -/
theorem test_shutdown_stops : (tNext (.thermalSample 0 [1760]) (tThp {})).thp.stopping = true ∧ (tNext (.thermalSample 0 [1760]) (tThp {})).thp.cause = 1 := by decide +kernel

/-- StopsResumesRestarts (StopsAndResumes): a DARK due and not due, one leaf with a feed, a stop that ends with an item not landed, RESUME with and without RESUME_OK, and a resume in progress with and without TEMP_HOLD. -/
theorem test_stopsAndResumes_met :
    let i : Item := { id := 3, sq := 0, slot := 0, cq := 0, opcode := 0x0301, desc := 0, auth := 0, target := 1, phase := .landing }
    let f (x : Thp) (u : Bool) (l : Leaf) : State := ({ tPress 0 with thp := x, mem := { State.reset.mem with tempHold := u }, leaves := [(64, l)], hif := { (tPress 0).hif with items := [i] } } : State).elapse 0
    let l : Leaf := { tLeaf with feed := 1, table := some { id := 0, crc := 0, pages := [] } }
    let e := f { stopping := true, darkAt := 1000 * secU - 100 * usU } false l
    let r : Thp := { stopped := true, samples := tAll 1439, ok36 := some (999 * secU) }
    e.thp.stopping = true ∧ e.thp.darkAt + 100 * usU ≤ e.clk ∧ (e.quire 1).st = .running ∧ 0 ∈ e.usedLeaves 1 ∧ (e.leaf 64).feed ≠ 0 ∧ (e.leaf 64).foreign = false ∧ (∀ c ∈ (e.leaf 64).cmds, c.opcode ≠ 4) ∧
      (f { stopping := true, darkAt := 1000 * secU - 100 * usU + 1 } false l).clk < (f { stopping := true, darkAt := 1000 * secU - 100 * usU + 1 } false l).thp.darkAt + 100 * usU ∧ tabWf laneDflt e.lanes = true ∧ i ∈ e.hif.items ∧ hasLanded i = false ∧
      (∀ x ∈ e.hif.items, x.id = i.id → x = i) ∧ (f {} false l).thp.stopping = false ∧ bit (1 : Word) 0 = true ∧ bit (2 : Word) 0 = false ∧ (f r false l).resumeOk = true ∧ (f { r with samples := tAll 1440 } false l).resumeOk = false ∧
      (f { r with resuming := true } false l).thp.resuming = true ∧ (f { r with resuming := true } false l).mem.tempHold = false ∧ tabWf (fun _ => ({} : Leaf)) e.leaves = true ∧ (e.leaf 64).table = some { id := 0, crc := 0, pages := [] } ∧
      (f r false l).thp.resuming = false ∧ (f { r with resuming := true } true l).mem.tempHold = true := by decide +kernel

/-- StopsResumesRestarts (StopsAndResumes): a DARK to send again under its SEQ, a stop that ends with an item landed and an activation in WRITING, and a resume of an enabled quire. -/
theorem test_stopEnds_met :
    let c : LCmd := { seq := 7, opcode := 4, target := 0, data := [], firstImp := 0, item := none, sent := true }
    let i : Item := { id := 4, sq := 0, slot := 0, cq := 0, opcode := 0x0402, desc := 0, auth := 0, target := 1, phase := .landed }
    let s := tPress 0
    let e := ({ s with thp := { stopping := true }, leaves := [(64, { tLeaf with feed := 1, cmds := [c] })], hif := { s.hif with items := [i] }, upd := { s.upd with st := .writing, act := some 4 } } : State).elapse 0
    let r := ({ s with thp := { stopped := true, resuming := true }, regs := [(0x6084, 0x14C4B)], quires := [(1, { st := .running, ready := true, tag := 7 })] } : State).elapse 0
    (c ∈ (e.leaf 64).cmds ∧ c.opcode = 4 ∧ c.sent = true ∧ c.dead = false) ∧ (i ∈ e.hif.items ∧ hasLanded i = true ∧ i.commitId = none ∧ ∀ x ∈ e.hif.items, x.id = i.id → x = i) ∧ e.upd.st = .writing ∧ tabWf laneDflt e.lanes = true ∧
      r.thp.resuming = true ∧ r.mem.tempHold = false ∧ tabWf (fun _ => ({} : Leaf)) r.leaves = true ∧ tabWf (fun _ => ({} : Quire)) r.quires = true ∧ 64 < 1024 ∧ r.regBit (0x6080 + 4 * (64 / 64)) 16 = true := by decide +kernel

/-- StopsResumesRestarts (SupervisorRestarts): the supervisor running and stopped, WDOG set and clear, and an activation in WRITING and in no state of it. -/
theorem test_supervisorRestarts_met :
    let i : Item := { id := 3, sq := 0, slot := 0, cq := 0, opcode := 0x0602, desc := 0, auth := 0, target := 1, phase := .working }
    let f (u : Bool) (w : Bool) (st : UpdSt) : State := ({ tSq 0 with sys := { (tSq 0).sys with supRun := u }, flt := { State.reset.flt with wdog := w }, upd := { State.reset.upd with st := st, act := some 3 }, hif := { (tSq 0).hif with items := [i] } } : State).elapse 0
    (f true false .idle).sys.supRun = true ∧ (f true false .idle).upd.st ≠ .writing ∧ (f true false .writing).upd.st = .writing ∧ (f true false .writing).upd.act = some 3 ∧ (f true false .writing).item? 3 = some i ∧
      (f false true .idle).sys.supRun = false ∧ (f false true .idle).flt.wdog = true ∧ (f false false .idle).flt.wdog = false := by decide +kernel

/-! ### Calibration and spares -/

def tCal (x : Cal) : State := { tSq 0 with cal := x, thp := tOk }

/-- ReferenceAndSram: CALREF at both ends of its range and beyond them, a run that ends in time, late and with too large a residual, and macros with spares of both kinds, without, and with a correction within the hour and on its bound. -/
theorem test_referenceAndSram_met :
    let e := (tCal { macros := [(0, { corr := [(5, 1)] }), (1, { rows := 2, corr := [(5, 0)] }), (2, { rows := 2, cols := 2, usedUp := true })] }).elapse (hour - 1000 * secU)
    let r (t : Nat) : State := (tCal { running := true, startAt := t }).elapse 0
    let x (n : Nat) : Macro := tget {} e.cal.macros n
    let hit (n row : Nat) : Bool := (x n).corr.any fun y => decide (e.clk < y.2 + hour) && y.1 == row
    bit (1 : Word) 0 = true ∧ bit (2 : Word) 0 = false ∧ e.cal.running = false ∧ e.writesOk = true ∧ 1150000 ≤ 1150000 ∧ 1250000 ≤ 1250000 ∧ 1149999 < 1150000 ∧ 1250000 < 1250001 ∧ (r 0).cal.running = true ∧ ((tThp {}).elapse 0).writesOk = false ∧
      (r (1000 * secU - 200 * msU)).clk ≤ (r (1000 * secU - 200 * msU)).cal.startAt + 200 * msU ∧ (-100 : Int).natAbs ≤ 100 ∧ 100 < (-101 : Int).natAbs ∧ (r 0).cal.startAt + 200 * msU < (r 0).clk ∧
      hit 0 5 = true ∧ (x 0).usedUp = false ∧ hit 0 6 = false ∧ hit 1 5 = false ∧ (x 2).usedUp = true ∧ (x 0).rows < 2 ∧ 2 ≤ (x 1).rows ∧ SramUser.pageCache 0 1 ≠ .engine 0 := by decide +kernel

/-- UnitsRestoredAndReplaced: a unit of each state and number, a self-test of the lowest unit, bring-ins of an engine and of the encoder with a further spare, and a record that waits. -/
theorem test_unitsRestoredAndReplaced_met :
    let f (k : Word) (u : Tab UnitRec) : State := ({ tCal { units := u, pend := true } with regs := [(0xD0C0, k)] } : State).elapse 0
    let b := f 0 [(0, { st := .retired }), (16, { st := .spare, bringing := some 0 }), (40, { st := .spare, bringing := some 32 })]
    let m := f 40 [(3, { st := .retired, testing := true }), (39, { st := .degraded })]
    tabWf unitDflt b.cal.units = true ∧ tabWf unitDflt m.cal.units = true ∧ bit (1 : Word) 0 = true ∧ bit (0 : Word) 0 = false ∧ unitOk 0 = true ∧ unitOk 40 = true ∧ unitOk 18 = false ∧ unitOk 31 = false ∧ (m.unit 39).st = .degraded ∧ (b.unit (b.regBits 0xD0C0 0 6)).st = .retired ∧
      (m.unit (m.regBits 0xD0C0 0 6)).st ≠ .degraded ∧ (m.unit (m.regBits 0xD0C0 0 6)).st ≠ .retired ∧ (m.unit 3).testing = true ∧ (m.unit 0).testing = false ∧ (m.unit 1).testing = false ∧ (m.unit 2).testing = false ∧
      ((List.range 41).all fun j => !(b.unit j).testing) = true ∧ b.sys.supRun = true ∧ (b.unit 16).bringing = some 0 ∧ (b.unit 17).st = .spare ∧ (b.unit 17).bringing = none ∧ (b.unit 15).bringing = none ∧ (b.unit 40).bringing = some 32 ∧ (m.unit 40).bringing = none ∧
      b.cal.pend = true ∧ b.writesOk = true ∧ ((tSq 0).elapse 0).cal.pend = false := by decide +kernel

/-- UnitsRestoredAndReplaced and ReferenceAndSram: a bring-in that fails beside another spare, a record written already, the supervisor in reset, and a word of the page cache and one of an engine at work. -/
theorem test_spares_met :
    let f (u : Tab UnitRec) (x : Cal) : State := (tCal { x with units := u, pend := true }).elapse 0
    let b := f [(0, { st := .retired }), (16, { st := .spare, bringing := some 0 }), (17, { st := .spare })] {}
    let n := f [] { copyA := some (3, State.reset.recordNow) }
    let s := ({ tCal {} with sys := { (tSq 0).sys with supRun := false } } : State).elapse 0
    (b.unit 16).bringing = some 0 ∧ 17 < 18 ∧ 17 ≠ 16 ∧ (b.unit 17).st = .spare ∧ (b.unit 17).bringing = none ∧ n.cal.newer = some (3, State.reset.recordNow) ∧ n.cal.pend = true ∧ n.sys.supRun = true ∧ n.writesOk = true ∧ s.sys.supRun = false ∧
      SramUser.other ≠ .engine 0 ∧ SramUser.other ≠ .pageCache 0 1 ∧ (({ tCal {} with win := { (tPress 0).win with pressCut := true } } : State).elapse 0).win.pressCut = true := by decide +kernel

/-! ### Update, entropy, resets and the start -/

def tStaged : Staged := { total := 3, granules := [(0, [1, 2, 3])], alloc := 7, verified := true }
def tWork : Item := { id := 3, sq := 15, slot := 0, cq := 0, opcode := 0x0602, desc := 0, auth := 0, target := 1, phase := .working }
def tUpd (x : Upd) : State := { tSq 0 with upd := x, thp := tOk, hif := { (tSq 0).hif with items := [tWork] } }

/-- PackagesAndImages (PackageVerified): a package complete under its last block, and none. -/
theorem test_packageVerified_met :
    let g : Staged := { tStaged with item := some 3, verified := false }
    let e := (tUpd { staged := some g }).elapse 0
    e.upd.staged = some g ∧ g.item = some 3 ∧ e.item? 3 = some tWork ∧ ((tUpd {}).elapse 0).upd.staged = none ∧
      ((tUpd { staged := some tStaged }).elapse 0).upd.staged = some tStaged ∧ tStaged.item = none := by decide +kernel

/-- UpdateActivated (ActivationCommits): a write in its first step, one whose condition holds, one held by the lock, both ends of the 60 s, and no activation at work. -/
theorem test_activationCommits_met :
    let f (st : UpdSt) (k : Bool) (t : Option Nat) : State := (tUpd { st := st, lock := k, act := some 3, step1 := t, staged := some tStaged }).elapse 0
    let e := f .writing false none
    e.upd.act = some 3 ∧ e.item? 3 = some tWork ∧ e.upd.staged = some tStaged ∧ e.upd.st = .writing ∧ e.upd.step1 = none ∧ firstDetail e.actDetails = 0 ∧ firstDetail (f .writing true none).actDetails = 1 ∧
      (f .writing false (some 0)).upd.step1.isSome = true ∧ (f .armed false none).upd.st ≠ .writing ∧ (f .writing false (some (940 * secU))).upd.step1 = some (940 * secU) ∧ 940 * secU + 60 * secU ≤ e.clk ∧ e.clk < (940 * secU + 1) + 60 * secU := by decide +kernel

/-- UpdateActivated (ActivationCommits): the end of the 60 s with the condition held and not, and a first step that waits. -/
theorem test_activationWaits_met :
    let f (k : Bool) : State := (tUpd { st := .writing, lock := k, act := some 3, step1 := some (940 * secU), staged := some tStaged }).elapse 0
    (f false).upd.step1.isSome = true ∧ firstDetail (f false).actDetails = 0 ∧ 940 * secU + 60 * secU ≤ (f false).clk ∧ (f true).upd.step1 = some (940 * secU) ∧ firstDetail (f true).actDetails ≠ 0 := by decide +kernel

/-- PackagesAndImages (ImagesAndOwner): an image on trial whose conditions hold in time, with and without writes, one that is not on trial, and registers whose check holds and does not. -/
theorem test_imagesAndOwner_met :
    let f (u : Bool) (t : Nat) (x : Thp) : State := ({ tUpd { trialRun := u, goodImp := true, supStart := t, bankB := { st := .tried, gen := 2 }, runB := true } with thp := x, mem := { State.reset.mem with trained := true }, regs := [(0x00C, 1), (0x6080, 0x10000)], quires := [(0, { st := .running })] } : State).elapse 0
    let o (w : Word) (h : Option (BitVec 384)) : State := ((tUpd { ownerCheck := w, owner := h }).elapse 0)
    let z := crc32c (o 0 none).ownerBytes
    (f true (880 * secU) tOk).onTrial = true ∧ (f true (880 * secU) tOk).confirmOk = true ∧ (f true (880 * secU) tOk).clk ≤ (f true (880 * secU) tOk).upd.supStart + 120 * secU ∧ (f true 0 tOk).upd.supStart + 120 * secU < (f true 0 tOk).clk ∧
      (f true 0 tOk).writesOk = true ∧ (f true 0 {}).writesOk = false ∧ (f false 0 tOk).onTrial = false ∧ bit (1 : Word) 0 = true ∧ bit (2 : Word) 0 = false ∧ bit (2 : Word) 1 = true ∧ (o z none).upd.owner = none ∧ crc32c (o z none).ownerBytes = (o z none).upd.ownerCheck ∧
      (o z none).writesOk = true ∧ crc32c (o (z + 1) none).ownerBytes ≠ (o (z + 1) none).upd.ownerCheck ∧ (o z (some 5)).upd.owner ≠ none := by decide +kernel

/-- EntropySource: the source READY, not READY, after its third failed restart, before the first stage, and T_r not yet known. -/
theorem test_entropySource_met :
    let f (r h : Bool) (g : Nat) : State := ({ State.reset with upd := { State.reset.upd with entReady := r, hardFail := h, restarts := 2 }, sys := { State.reset.sys with stage := g, tP := some 0 } } : State).elapse 0
    (f true false 1).upd.entReady = true ∧ (f true false 1).upd.hardFail = false ∧ tabWf (fun _ => (0 : Word)) (f true false 1).shadows = true ∧ (f false false 1).upd.entReady = false ∧ 1 ≤ (f false false 1).sys.stage ∧ (f false false 1).sys.tR = none ∧ (f false false 1).sys.tP.isSome = true ∧
      (f false false 0).sys.stage = 0 ∧ (f false true 1).upd.hardFail = true ∧ 2 ≤ (f false false 1).upd.restarts ∧ (f false false 1).sys.stage ≠ 0 := by decide +kernel

/-- ModuleResets: PERST_N high with and without the quiet state and low, an armed restart and a trial at their instants and just before. -/
theorem test_moduleResets_met :
    let p (u w : Bool) : State := ({ tUpd {} with sys := { (tSq 0).sys with perstHigh := u }, mem := { State.reset.mem with quiet := w } } : State).elapse 0
    let a (t : Nat) : State := (tUpd { st := .armed, armedAt := t }).elapse 0
    let c (t : Nat) (w : Bool) : State := (tUpd { trialRun := true, supStart := t, confirmPend := w }).elapse 0
    (p true true).sys.perstHigh = true ∧ (p true true).mem.quiet = true ∧ tabWf (fun _ => ({} : Leaf)) (p true true).leaves = true ∧ (p true false).mem.quiet = false ∧ (p false true).sys.perstHigh = false ∧
      (a (1000 * secU - 10 * msU)).upd.st = .armed ∧ (a (1000 * secU - 10 * msU)).upd.armedAt + 10 * msU ≤ (a 0).clk ∧ (a 0).clk < (a (1000 * secU - 10 * msU + 1)).upd.armedAt + 10 * msU ∧ (p true true).upd.st ≠ .armed ∧
      (c (880 * secU) false).onTrial = true ∧ (c (880 * secU) false).upd.confirmPend = false ∧ (c (880 * secU) false).upd.supStart + 120 * secU ≤ (a 0).clk ∧ (c 0 true).upd.confirmPend = true ∧ (a 0).clk < (c (880 * secU + 1) false).upd.supStart + 120 * secU ∧ (a 0).onTrial = false := by decide +kernel

/-- ModuleResets: a trial at its 120 s whose conditions hold, with writes permitted and not. -/
theorem test_trialConfirms_met :
    let f (x : Thp) : State := ({ tUpd { trialRun := true, goodImp := true, supStart := 880 * secU, bankB := { st := .tried, gen := 2 }, runB := true } with thp := x, mem := { State.reset.mem with trained := true }, regs := [(0x00C, 1), (0x6080, 0x10000)], quires := [(0, { st := .running })] } : State).elapse 0
    (f tOk).onTrial = true ∧ (f tOk).upd.confirmPend = false ∧ (f tOk).upd.supStart + 120 * secU ≤ (f tOk).clk ∧ (f tOk).confirmOk = true ∧ (f tOk).writesOk = true ∧ (f { tOk with writeOk := false }).confirmOk = true ∧ (f { tOk with writeOk := false }).writesOk = false ∧
      (((tUpd { trialRun := true, supStart := 880 * secU }).elapse 0).confirmOk = false) := by decide +kernel

/-- StartUpStages: every stage with each condition that lets it end or holds it, and a restart before READY on both sides of its bounds. -/
theorem test_startUpStages_met :
    let f (x : Sys) (y : Thp) (m : Mem) (fl : Flt) : State := ({ State.reset with clk := 1000 * secU, sys := x, thp := y, mem := m, flt := fl } : State).elapse 0
    let g (x : Sys) : State := f x tOk State.reset.mem State.reset.flt
    let two : Sys := { stage := 2, tR := some 0 }
    let four : Sys := { stage := 4, tP := some (999 * secU) }
    let hold : Mem := { State.reset.mem with tempHold := true }
    let pre (n : Int) (t : Nat) : State := f { preShut := true } { samples := tAll n, ok36 := some t } State.reset.mem State.reset.flt
    (g {}).sys.supValid = false ∧ (g { supValid := true }).sys.supValid = true ∧ (g {}).sys.perstHigh = false ∧ (g { perstHigh := true }).sys.perstHigh = true ∧ (g { supValid := true }).sys.stage = 0 ∧ (g { stage := 1 }).sys.stage = 1 ∧ 6 ≤ (g { stage := 6 }).sys.stage ∧
      (g two).sys.stage = 2 ∧ { tStraps with testLock := false }.testLock = false ∧ tStraps.testLock = true ∧ (g two).sys.tR.isSome = true ∧ (g two).sys.noBank = false ∧ (g two).sys.preShut = false ∧ (g two).sys.strapErr = false ∧ (g { two with tR := none }).sys.tR = none ∧
      (g two).upd.boot (g two).writesOk 2 = none ∧ ((g two).upd.boot (g two).writesOk 0).isSome = true ∧ (g { stage := 3 }).sys.stage = 3 ∧ (g four).sys.stage = 4 ∧ (g four).trainTemp = true ∧ (f four {} State.reset.mem State.reset.flt).trainTemp = false ∧
      ((g four).pc 63).unit ≠ .retired ∧ 2 ≤ (f four tOk State.reset.mem { sev := [(0x0604, 2)] }).severity .memPcRetired ∧ (g { stage := 5, tR := some 0 }).sys.stage = 5 ∧ (g { stage := 5, tR := some 0 }).sys.tR = some 0 ∧
      (f four tOk hold State.reset.flt).sys.tP = some (999 * secU) ∧ (f four tOk hold State.reset.flt).mem.tempHold = true ∧ 999 * secU + secU ≤ (g four).clk ∧ (g four).clk < (999 * secU + 1) + secU ∧ (g four).mem.tempHold = false ∧
      (pre 1439 (999 * secU)).sys.preShut = true ∧ (pre 1439 (999 * secU)).thp.ok36 = some (999 * secU) ∧ hottest (pre 1439 (999 * secU)).readings = some (0, 1439) ∧ hottest (pre 1440 0).readings = some (0, 1440) ∧ (g {}).thp.ok36 = none ∧ hottest (f {} {} State.reset.mem State.reset.flt).readings = none := by decide +kernel

/-- StartUpStages: training with the module's own extents held and not, rows at the last pseudo-channel, and a shut-down kept from before READY. -/
theorem test_training_met :
    let f (m : Mem) : State := ({ State.reset with clk := 1000 * secU, sys := { stage := 4 }, thp := tOk, mem := m } : State).elapse 0
    let r (x : Sys) : State := ({ State.reset with clk := 1000 * secU, sys := x } : State).elapse 0
    (f State.reset.mem).trainTemp = true ∧ (f State.reset.mem).mem.own = none ∧ (f { State.reset.mem with own := some 3 }).mem.own.isSome = true ∧ 63 < 64 ∧ ((f State.reset.mem).pc 63).unit ≠ .retired ∧
      (Src.tempShutdown, 0) ∈ (r { stage := 5, tR := some 0, preSrc := [(.tempShutdown, 0)] }).sys.preSrc ∧ (r { stage := 5, tR := some 0 }).sys.preSrc = [] := by decide +kernel

/-- Booting from reset picks bank A, which is CONFIRMED (R497), and a bank B on TRIAL before it. -/
theorem test_boot_picks_trial :
    (State.reset.upd.boot true 0).map (fun x => (x.1, x.2.1)) = some (false, 0) ∧
      (let u : Upd := { State.reset.upd with bankB := { st := .trial, gen := 2, good := true } }
       (u.boot true 0).map (·.1) = some true) := by decide +kernel

/-! ### Every command and the step -/

/-- EveryCommandKeeps, LockedKeyStays, FormStays and StepRunsFront: a step of a well-formed state with a command in front, the key locked and an owner's hash enrolled answers a next state. -/
theorem test_everyCommandKeeps_met :
    let s : State := ({ State.reset with hif := { State.reset.hif with keyLocked := true }, upd := { State.reset.upd with owner := some 5 } } : State).withPending [.supplyValid 7]
    s.pending = [.supplyValid 7] ∧ s.hif.keyLocked = true ∧ s.upd.owner = some 5 ∧ s.wellFormed ∧ (∃ t, step s = .next t) ∧ ∃ t, exec (.supplyValid 7) s = .next t :=
  ⟨rfl, rfl, rfl, ⟨by decide +kernel, by decide +kernel, by decide +kernel⟩, ⟨_, rfl⟩, _, rfl⟩

/-- TimeElapses: module time with RATE 0, with a negative RATE, and no remainder. -/
theorem test_timeElapses_met :
    let s (r : Int) : State := { State.reset with tim := { State.reset.tim with rate := r } }
    (0 : Int) ≤ ((1 : Nat) : Int) * (2 ^ 40 + (s (-(2 ^ 40))).tim.rate) + (s (-(2 ^ 40))).tim.resid ∧ (s 0).tim.rate = 0 ∧ (s 0).tim.resid < 2 ^ 40 := by decide +kernel
end

/-! The host interface (02_host_interface.md): accesses of BAR0 that complete without effect (R46), and opcodes refused at take (R74). -/

namespace Sys2Proof.Machine

open Sys2Proof

/-! ### BAR0 accesses (R46) -/

theorem bar0Ok_eq_false (off size : Nat) : bar0Ok off size = false ↔ size ≠ 4 ∨ off % 4 ≠ 0 := by
  simp only [bar0Ok, Bool.and_eq_false_iff, beq_eq_false_iff_ne]

theorem bar0Ok_of_aligned {off : Nat} (h : off % 4 = 0) : bar0Ok off 4 = true := by
  simp [bar0Ok, h]

/-- A write that is not an aligned 32-bit access lets time pass and nothing else, at any offset. -/
theorem execRegisterWrite_misfit (dt off size : Nat) (v : Word) (s : State) (h : bar0Ok off size = false) :
    execRegisterWrite dt off size v s = .next (s.elapse dt) := by
  simp only [execRegisterWrite, h, Bool.false_eq_true, if_false]

/-- A read that is not an aligned 32-bit access returns 0 and nothing else happens, at any offset. -/
theorem execRolRead_misfit (dt off size : Nat) (s : State) (h : bar0Ok off size = false) :
    execRolRead dt ⟨off, size⟩ s = .next { s.elapse dt with rdata := 0 } := by
  simp only [execRolRead, h, Bool.not_false, if_true]

/-- No register that software may write is at the offset: none at all, or one with an access code that takes no write (Table 0-3). -/
theorem writeBar0_unwritable (off : Nat) (v : Word) (s : State) (h : ∀ a, regAccess off = some a → a.writable = false) :
    s.writeBar0 off v = s := by
  unfold State.writeBar0
  split
  · next a ha => rw [h a ha]; rfl
  · rfl

/-- A write below BAR2 is a write of BAR0. -/
theorem writeAt_bar0 (off : Nat) (v : Word) (s : State) (h : off < bar2Base) : s.writeAt off v = s.writeBar0 off v :=
  if_pos h

/-- An offset that no register occupies reads 0, and its read latches nothing. -/
theorem readBar0_unoccupied (off : Nat) (s : State) (h : regAccess off = none) : s.readBar0 off = { s with rdata := 0 } := by
  have notNonce : off ≠ 0xE028 := by
    rintro rfl
    exact absurd h (by decide)
  simp [State.readBar0, State.readReg, notNonce, h]

/-- An aligned 32-bit read below BAR2 is a read of BAR0. -/
theorem execRolRead_bar0 (dt off : Nat) (s : State) (hb : off < bar2Base) (ha : off % 4 = 0) :
    execRolRead dt ⟨off, 4⟩ s = .next ((s.elapse dt).readBar0 off) := by
  simp [execRolRead, bar0Ok_of_aligned ha, hb]

/-! ### A command taken and refused -/

/-- The common refusals begin with R74's: the opcode is not in Table 2-13, or not permitted on SQ15. -/
theorem commonRefusals_opcode (s : State) (i : Item) (late : Bool) (group : Nat) :
    ∃ l, s.commonRefusals i late group =
      malformed ((cmdInfo (dOp i.desc)).isNone || (i.sq == 15 && !((cmdInfo (dOp i.desc)).getD (true, false, false, false)).1)) :: l := ⟨_, rfl⟩

/-- A malformed descriptor is the first reason in the order of R73. -/
theorem firstRefusal_malformed (l : List Refuse) : firstRefusal (malformed true :: l) = some (.refusedMalformed, 0) := rfl

/-- Refusing a malformed command does nothing beyond its completion. -/
theorem refuseWith_malformed (i : Item) (det : Nat) (s : State) : s.refuseWith i .refusedMalformed det = s.refuse i.id .refusedMalformed det := rfl

/-- A command outside a group spoils none. -/
theorem spoil_noGroup (q : Nat) (s : State) : s.spoil q 0 = s := if_pos (.inl rfl)

/-- A command just taken is found by its number, when no other in flight has it. -/
theorem takeItem_item? (q : Nat) (d a : Slot) (s : State) (h : s.freshId) :
    (s.takeItem q d a).2.item? (s.takeItem q d a).1.id = some (s.takeItem q d a).1 := by
  have none_before : s.hif.items.find? (fun x => x.id == s.nextItem) = none :=
    List.find?_eq_none.2 fun x hx => by simpa using h x hx
  simp [State.item?, takeItem_items, takeItem_id, none_before]

/-- The command just taken, ended, leaves the commands in flight as they were before it. -/
theorem takeItem_items_filter (q : Nat) (d a : Slot) (s : State) (h : s.freshId) :
    (s.takeItem q d a).2.hif.items.filter (fun x => x.id != (s.takeItem q d a).1.id) = s.hif.items := by
  have all_kept : s.hif.items.filter (fun x => x.id != s.nextItem) = s.hif.items :=
    List.filter_eq_self.2 fun x hx => by simpa using h x hx
  simp [takeItem_items, takeItem_id, all_kept]

/-- The command at the head of queue q taken and ended: its slots are used up and its number is given out. -/
def State.consumed (q : Nat) (s : State) : State :=
  { s with
    nextItem := s.nextItem + 1
    hif := { s.hif with sqs := tput {} s.hif.sqs q { s.sq q with head := ((s.sq q).head + slotsOf q) % s.qSize q }, sweepPos := sweepRank q } }

/-- Taking a command, but for the command itself, uses up its slots; the rest is a count (R61). -/
theorem takeItem_body_but_items (q : Nat) (d a : Slot) (s : State) (l : List Item) :
    ({ (s.takeItem q d a).2 with hif := { (s.takeItem q d a).2.hif with items := l } } : State).body =
      ({ s.consumed q with hif := { (s.consumed q).hif with items := l } } : State).body := rfl

/-- A command refused when it is taken has its FINAL completion told (R73, R78). -/
theorem refuse_taken_told (q : Nat) (d a : Slot) (st : Status) (det : Nat) (s : State) (h : s.freshId) (hf : st.final = true) :
    ((s.takeItem q d a).2.refuse (s.takeItem q d a).1.id st det).told (s.takeItem q d a).1.cq ((s.takeItem q d a).1.completion st det 0 0 false) :=
  State.complete_told _ st det 0 0 false _ _ (takeItem_item? q d a s h) hf

/-- A command refused when it is taken has no effect but that its slots are used up, reports apart. -/
theorem refuse_taken_body (q : Nat) (d a : Slot) (st : Status) (det : Nat) (s : State) (h : s.freshId) (hf : st.final = true) :
    ((s.takeItem q d a).2.refuse (s.takeItem q d a).1.id st det).body = (s.consumed q).body := by
  rw [State.refuse_body, takeItem_item? q d a s h, hf, takeItem_items_filter q d a s h]
  exact takeItem_body_but_items q d a s s.hif.items

/-! ### An opcode refused (R74) -/

/-- R74's two cases: the opcode is not in Table 2-13, or it is not permitted on SQ15 and arrives there. -/
def wrongOpcode (q : Nat) (d : Slot) : Prop := cmdInfo (dOp d) = none ∨ q = 15 ∧ ∃ x, cmdInfo (dOp d) = some x ∧ x.1 = false

/-- How a command of a refused opcode is taken: as any other, with no refusals of its own. -/
def opcodeForm (q : Nat) (d a : Slot) : Form := ⟨dOp d, q, d, a, false, 0, fun _ _ => []⟩

/-- OPCODE_REFUSED acts on a wrong opcode as on a command of its own form. -/
theorem execOpcodeRefused_wrong (dt q : Nat) (d a : Slot) (s : State) (h : wrongOpcode q d) :
    execOpcodeRefused dt q d a s = .next ((s.elapse dt).takeCmd (dOp d) q d a false 0 (opcodeForm q d a).own fun _ s => s) := by
  obtain h | ⟨rfl, x, h, hx⟩ := h
  · simp [execOpcodeRefused, opcodeForm, h]
  · simp [execOpcodeRefused, opcodeForm, h, hx]

/-- A wrong opcode is malformed before every other refusal. -/
theorem opcodeForm_refusal (q : Nat) (d a : Slot) (s : State) (h : wrongOpcode q d) :
    (opcodeForm q d a).refusal s = some (.refusedMalformed, 0) := by
  have wrong : ((cmdInfo (dOp d)).isNone || (q == 15 && !((cmdInfo (dOp d)).getD (true, false, false, false)).1)) = true := by
    obtain h | ⟨rfl, x, h, hx⟩ := h
    · simp [h]
    · simp [h, hx]
  obtain ⟨l, hl⟩ := commonRefusals_opcode ((opcodeForm q d a).taken s) ((opcodeForm q d a).item s) false 0
  have head : ((opcodeForm q d a).taken s).commonRefusals ((opcodeForm q d a).item s) false 0 = malformed true :: l := hl.trans (congrArg (malformed · :: l) wrong)
  show firstRefusal (((opcodeForm q d a).taken s).commonRefusals ((opcodeForm q d a).item s) false 0 ++ []) = _
  rw [head, List.append_nil, firstRefusal_malformed]

/-- A wrong opcode taken is refused with REFUSED_MALFORMED and nothing more. -/
theorem takeCmd_wrongOpcode (q : Nat) (d a : Slot) (acc : Item → State → State) (s : State) (h : wrongOpcode q d) (ht : s.takes q = true) :
    s.takeCmd (dOp d) q d a false 0 (opcodeForm q d a).own acc = (s.takeItem q d a).2.refuse (s.takeItem q d a).1.id .refusedMalformed 0 := by
  have due : (opcodeForm q d a).due s = true := by simp [Form.due, opcodeForm, ht]
  have refused := takeCmd_refuse (opcodeForm q d a) acc s .refusedMalformed 0 due (opcodeForm_refusal q d a s h)
  exact refused.trans ((spoil_noGroup q _).trans (refuseWith_malformed _ 0 _))

/-! ### The statements of the family -/

/-- Settles O11: each clause is the rule of R46 or of Table 0-3 for its kind of access. -/
theorem bar0Accesses : Obligations.Bar0Accesses := by
  unfold Obligations.Bar0Accesses
  refine ⟨fun dt off size v s h => ?_, fun dt off size v s hb h => ?_, fun dt off size s h => ?_, fun dt off s hb ha h => ?_⟩
  · exact execRegisterWrite_misfit dt off size v s ((bar0Ok_eq_false off size).2 h)
  · have unwritable : ∀ a, regAccess off = some a → a.writable = false := by
      intro a ha
      obtain h | h | h | h := h <;> simp only [h, reduceCtorEq, Option.some.injEq] at ha <;> subst ha <;> rfl
    have noEffect : (s.elapse dt).writeAt off v = s.elapse dt :=
      (writeAt_bar0 off v _ hb).trans (writeBar0_unwritable off v _ unwritable)
    show execRegisterWrite dt off size v s = _
    simp only [execRegisterWrite, noEffect, ite_self]
  · exact execRolRead_misfit dt off size s ((bar0Ok_eq_false off size).2 h)
  · exact (execRolRead_bar0 dt off s hb ha).trans (congrArg Host.Outcome.next (readBar0_unoccupied off _ h))

/-- Settles O18: the opcode is the first of the refusals in R73's order, and the refusal of a command just taken only tells its completion. -/
theorem opcodeRefused : Obligations.OpcodeRefused := by
  unfold Obligations.OpcodeRefused
  intro dt q d a s wrong takes fresh e i
  refine ⟨e.takeCmd (dOp d) q d a false 0 (opcodeForm q d a).own fun _ s => s, execOpcodeRefused_wrong dt q d a s wrong, ?_⟩
  rw [takeCmd_wrongOpcode q d a _ e wrong takes]
  exact ⟨refuse_taken_told q d a .refusedMalformed 0 e fresh rfl, refuse_taken_body q d a .refusedMalformed 0 e fresh rfl⟩

end Sys2Proof.Machine

/-! The composition of the canvas (04_composition.md): fence.signal and the fenced writes it lets go (R69, R140 to R143). -/

namespace Sys2Proof.Machine

open Sys2Proof

/-! ### The state a command was checked in -/

/-- Authentication moves HIF_FSEQ alone (R85). -/
theorem authenticate_eq (i : Item) (buf : List Byte) (s : State) :
    ∃ n, (s.authenticate i buf).2 = { s with hif := { s.hif with fseq := n } } := by
  unfold State.authenticate
  dsimp only
  split
  · exact ⟨_, rfl⟩
  · split <;> exact ⟨_, rfl⟩

/-- Checking a command just taken moves HIF_FSEQ at most (R85). -/
theorem checked_eq (f : Form) (s : State) : ∃ n, (f.checked s).2 = { f.taken s with hif := { (f.taken s).hif with fseq := n } } := by
  unfold Form.checked
  split
  · exact authenticate_eq (f.item s) [] (f.taken s)
  · exact ⟨(f.taken s).hif.fseq, rfl⟩

/-- Taking and checking a command leaves the commit point where it was. -/
theorem checked_commitDue (f : Form) (s : State) : (f.checked s).2.commitDue = s.commitDue := by
  obtain ⟨n, moved⟩ := checked_eq f s
  rw [moved]
  rfl

/-- Taking and checking a command leaves the first impression whose window has not opened where it was (R27). -/
theorem checked_nextImp (f : Form) (s : State) : (f.checked s).2.nextImp = s.nextImp := by
  obtain ⟨n, moved⟩ := checked_eq f s
  rw [moved]
  rfl

/-- A command taken and checked is found by its number, when no other in flight has it. -/
theorem checked_item? (f : Form) (s : State) (h : s.freshId) : (f.checked s).2.item? (f.item s).id = some (f.item s) := by
  rw [State.item?, checked_items]
  exact takeItem_item? f.q f.desc f.auth s h

/-- The command checked, ended, leaves the commands in flight as they were before it. -/
theorem checked_items_filter (f : Form) (s : State) (h : s.freshId) :
    (f.checked s).2.hif.items.filter (fun x => x.id != (f.item s).id) = s.hif.items := by
  rw [checked_items]
  exact takeItem_items_filter f.q f.desc f.auth s h

/-- A command just taken is being worked on. -/
theorem item_phase (f : Form) (s : State) : (f.item s).phase = .working := rfl

/-! ### A command ended at once -/

/-- A FINAL completion of a command in flight ends it (R78), reports apart. -/
theorem complete_final_body (id : Nat) (st : Status) (detail imp result : Nat) (unknown : Bool) (s : State) (i : Item) (hi : s.item? id = some i) (hf : st.final = true) :
    (s.complete id st detail imp result unknown).body = ({ s with hif := { s.hif with items := s.hif.items.filter fun x => x.id != id } } : State).body := by
  rw [State.complete_body, hi, hf]
  rfl

/-- After a FINAL completion the other commands in flight are left (R78). -/
theorem complete_final_items (id : Nat) (st : Status) (detail imp result : Nat) (unknown : Bool) (s : State) (i : Item) (hi : s.item? id = some i) (hf : st.final = true) :
    (s.complete id st detail imp result unknown).hif.items = s.hif.items.filter fun x => x.id != id :=
  (host_of_body (complete_final_body id st detail imp result unknown s i hi hf)).1

/-! ### Fenced writes let go (R140, R141) -/

/-- What becomes of a command in flight when the fences are looked at: a fenced write whose fence is reached is staged. -/
def State.letGo (s : State) (x : Item) : Item :=
  if x.phase = .fencing ∧ s.fenceReached (fenceOf x).1 (fenceOf x).2 then toPhase .staging x else x

theorem letGo_id (s : State) (x : Item) : (s.letGo x).id = x.id := by
  unfold State.letGo
  split <;> rfl

theorem letGo_of_not_fencing (s : State) (x : Item) (h : x.phase ≠ .fencing) : s.letGo x = x :=
  if_neg fun reached => h reached.1

theorem letGo_of_reached (s : State) (x : Item) (h : x.phase = .fencing) (hr : s.fenceReached (fenceOf x).1 (fenceOf x).2 = true) :
    s.letGo x = toPhase .staging x :=
  if_pos ⟨h, hr⟩

/-- With its commit point here no write is let go: the fence is a miss of that point first (R141). -/
theorem fencesGo_of_due (s : State) (h : s.commitDue = true) : s.fencesGo = s :=
  if_pos h

/-- Before the commit point every fenced write whose fence is reached is let go. -/
theorem fencesGo_of_not_due (s : State) (h : s.commitDue = false) :
    s.fencesGo = { s with hif := { s.hif with items := s.hif.items.map s.letGo } } :=
  if_neg (by rw [h]; exact Bool.false_ne_true)

/-- Looking at the fences changes commands in flight alone. -/
theorem fencesGo_frame (s : State) : s.fencesGo = { s with hif := { s.hif with items := s.fencesGo.hif.items } } := by
  cases h : s.commitDue with
  | true => rw [fencesGo_of_due s h]
  | false => rw [fencesGo_of_not_due s h]

/-- A command in flight that awaits no fence is found as before. -/
theorem fencesGo_item? (s : State) (id : Nat) (i : Item) (hi : s.item? id = some i) (hp : i.phase ≠ .fencing) : s.fencesGo.item? id = some i := by
  cases h : s.commitDue with
  | true => rwa [fencesGo_of_due s h]
  | false =>
    have same_number : ((fun x : Item => x.id == id) ∘ s.letGo) = fun x => x.id == id := funext fun x => congrArg (· == id) (letGo_id s x)
    have found : s.hif.items.find? (fun x => x.id == id) = some i := hi
    rw [fencesGo_of_not_due s h]
    show (s.hif.items.map s.letGo).find? (fun x => x.id == id) = some i
    rw [List.find?_map, same_number, found, Option.map_some, letGo_of_not_fencing s i hp]

/-- A fenced write whose fence is reached before its commit point is being staged. -/
theorem fencesGo_stages (s : State) (h : s.commitDue = false) (x : Item) (hx : x ∈ s.hif.items) (hp : x.phase = .fencing)
    (hr : s.fenceReached (fenceOf x).1 (fenceOf x).2 = true) : toPhase .staging x ∈ s.fencesGo.hif.items := by
  rw [fencesGo_of_not_due s h]
  exact List.mem_map.2 ⟨x, hx, letGo_of_reached s x hp hr⟩

/-! ### A fence signalled (R143) -/

/-- The signalled value of fence f raised to v, and kept where it is higher already (R143). -/
def State.raiseFence (f v : Nat) (s : State) : State :=
  { s with cmp := { s.cmp with fenceSig := tput 0 s.cmp.fenceSig f (BitVec.ofNat 64 (max v (tget 0 s.cmp.fenceSig f).toNat)) } }

/-- A key reads back no less than what was written, whatever the table. -/
theorem le_tget_tput (t : Tab DWord) (k : Nat) (v : DWord) : v.toNat ≤ (tget 0 (tput 0 t k v) k).toNat := by
  by_cases zero : v = 0
  · rw [zero]
    exact Nat.zero_le _
  · exact Nat.le_of_eq (congrArg BitVec.toNat (tget_tput_of_ne 0 0 v k zero t)).symm

/-- VALUE of fence.signal, or what the fence has already, is a 64-bit number. -/
theorem max_prm8_lt (d : Slot) (o : Nat) (w : DWord) : max (prm d o 8) w.toNat < 2 ^ 64 :=
  Nat.max_lt.2 ⟨Nat.mod_lt _ (by decide), w.isLt⟩

/-- A fence raised is reached for every value up to the one it has (R69). -/
theorem raiseFence_reached (s : State) (f v w : Nat) (hv : max v (tget 0 s.cmp.fenceSig f).toNat < 2 ^ 64)
    (hw : w ≤ max v (tget 0 s.cmp.fenceSig f).toNat) : (s.raiseFence f v).fenceReached f w = true := by
  have signalled := le_tget_tput s.cmp.fenceSig f (BitVec.ofNat 64 (max v (tget 0 s.cmp.fenceSig f).toNat))
  rw [BitVec.toNat_ofNat, Nat.mod_eq_of_lt hv] at signalled
  exact Bool.or_eq_true_iff.2 (.inl (decide_eq_true (Nat.le_trans hw signalled)))

/-- A fence.signal accepted raises its fence, lets the fenced writes go, and is DONE. -/
theorem exec_fenceSignal_accepted (dt q : Nat) (d a : Slot) (s : State) (f : Form) (hf : formOf (.fenceSignal dt q d a) = some f) (h : f.accepted (s.elapse dt)) :
    let c := (f.checked (s.elapse dt)).2.raiseFence (prm d 0 2) (prm d 8 8)
    exec (.fenceSignal dt q d a) s = .next (c.fencesGo.complete (f.item (s.elapse dt)).id .done 0 c.nextImp 0 false) := by
  obtain rfl := Option.some.inj hf
  exact congrArg Host.Outcome.next (takeCmd_accept ⟨0x0105, q, d, a, false, 0, fenceRefusals⟩ _ (s.elapse dt) h)

/-! ### The statements of the family -/

/-- Settles O21: the fence raised is reached for every value up to its own, so the writes that await it are let go unless their commit point is here; the command itself then ends. -/
theorem fenceSignalled : Obligations.FenceSignalled := by
  unfold Obligations.FenceSignalled
  intro dt q d a s f hf accepted fresh e b v
  let i := f.item e
  let c := b.raiseFence (prm d 0 2) (prm d 8 8)
  have due_c : c.commitDue = e.commitDue := checked_commitDue f e
  have next_c : c.nextImp = e.nextImp := checked_nextImp f e
  have notFencing : i.phase ≠ .fencing := by
    rw [item_phase f e]
    decide
  have found : c.fencesGo.item? i.id = some i := fencesGo_item? c i.id i (checked_item? f e fresh) notFencing
  have items := complete_final_items i.id .done 0 c.nextImp 0 false c.fencesGo i found rfl
  refine ⟨c.fencesGo.complete i.id .done 0 c.nextImp 0 false, exec_fenceSignal_accepted dt q d a s f hf accepted, ?told, ?staged, ?missed, ?body⟩
  case told =>
    rw [← next_c]
    exact State.complete_told i.id .done 0 c.nextImp 0 false c.fencesGo i found rfl
  case staged =>
    intro notDue x hx fencing sameFence le
    have reached : c.fenceReached (fenceOf x).1 (fenceOf x).2 = true := by
      rw [sameFence]
      exact raiseFence_reached b (prm d 0 2) (prm d 8 8) _ (max_prm8_lt d 8 _) le
    have inFlight : x ∈ c.hif.items := (checked_items f e).symm ▸ List.mem_append_left [i] hx
    have staged := fencesGo_stages c (due_c.trans notDue) x inFlight fencing reached
    have other : (toPhase .staging x).id ≠ i.id := fresh x hx
    rw [items]
    exact List.mem_filter.2 ⟨staged, bne_iff_ne.2 other⟩
  case missed =>
    intro due
    rw [items, fencesGo_of_due c (due_c.trans due)]
    exact checked_items_filter f e fresh
  case body =>
    rw [complete_final_body i.id .done 0 c.nextImp 0 false c.fencesGo i found rfl, items, fencesGo_frame c]
    rfl

end Sys2Proof.Machine

/-! The update engine and the entropy source (15_update_entropy.md): nonces (R507), readiness (R505) and health tests (R506). -/

namespace Sys2Proof.Machine

open Sys2Proof

/-! ### Nonces (R507) -/

/-- While the source is READY a read of UPD_NONCE_LO shows the next value it draws as the live nonce. -/
theorem readNonce_of_ready (s : State) (h : s.upd.entReady = true) :
    s.readNonce = { s with
      fresh := s.fresh + 1
      upd := { s.upd with nonce := Config.entropy s.fresh, nonceLive := true, nonceOnce := true }
      rdata := loW (Config.entropy s.fresh).toNat
      shadows := tput 0 s.shadows 0xE02C (hiW (Config.entropy s.fresh).toNat) } :=
  if_pos h

/-- While it is not, the read returns 0 and issues nothing (R505); the 0 latched for UPD_NONCE_HI is log entry 69. -/
theorem readNonce_of_not_ready (s : State) (h : s.upd.entReady = false) :
    s.readNonce = { s with rdata := 0, shadows := tput 0 s.shadows 0xE02C 0 } :=
  if_neg (by rw [h]; exact Bool.false_ne_true)

/-! ### The instant T_r (R519) -/

/-- Noting T_r changes T_r alone. -/
theorem noteTr_frame (s : State) : s.noteTr = { s with sys := { s.sys with tR := s.noteTr.sys.tR } } := by
  unfold State.noteTr
  split <;> rfl

/-- T_r is now when it is not known yet, T_p is, and stage 2 has ended. -/
theorem noteTr_tR (s : State) (hr : s.sys.tR = none) (hp : s.sys.tP.isSome = true) (hs : 2 ≤ s.sys.stage) : s.noteTr.sys.tR = some s.clk := by
  simp only [State.noteTr, hr, hp, hs, Option.isNone_none, and_self, if_true]

/-! ### Start-up tests passed (R505) -/

/-- The source with its start-up tests passed. -/
def Upd.entropyUp (u : Upd) : Upd := { u with entReady := true, restarts := 0, entEp := false }

/-- The start-up stage once the source is READY: stage 2 has ended. -/
def Sys.entropyUp (y : Sys) : Sys := { y with stage := max 2 y.stage }

/-- The episode of ENTROPY_HEALTH, where one runs, ends with a restart that passes (R506). -/
def State.entropyEpisodeEnds (s : State) : State := if s.upd.entEp then s.clear .entropyHealth 0 else s

/-- Ending the episode is a report. -/
theorem entropyEpisodeEnds_body (s : State) : s.entropyEpisodeEnds.body = s.body := by
  unfold State.entropyEpisodeEnds
  split
  · exact State.clear_body .entropyHealth 0 s
  · rfl

theorem entropyEpisodeEnds_upd (s : State) : s.entropyEpisodeEnds.upd = s.upd :=
  (congrArg State.upd (entropyEpisodeEnds_body s) :)

theorem entropyEpisodeEnds_sys (s : State) : s.entropyEpisodeEnds.sys = s.sys :=
  (congrArg State.sys (entropyEpisodeEnds_body s) :)

theorem entropyEpisodeEnds_clk (s : State) : s.entropyEpisodeEnds.clk = s.clk :=
  (congrArg State.clk (entropyEpisodeEnds_body s) :)

/-- The source is READY, and stage 2 has ended (R505, R519). -/
def State.entropyUp (s : State) : State := { s with upd := s.upd.entropyUp, sys := s.sys.entropyUp }

/-- The start-up tests of the source pass: its episode ends, it is READY, and T_r may be known. -/
def State.entropyPasses (s : State) : State := s.entropyEpisodeEnds.entropyUp.noteTr

/-- Ending the episode does not change what becomes READY. -/
theorem entropyEpisodeEnds_entropyUp (s : State) :
    s.entropyEpisodeEnds.entropyUp = { s.entropyEpisodeEnds with upd := s.upd.entropyUp, sys := s.sys.entropyUp } := by
  simp only [State.entropyUp, entropyEpisodeEnds_upd, entropyEpisodeEnds_sys]

/-- The source is READY once its tests have passed, and T_r alone may join it. -/
theorem entropyPasses_frame (s : State) :
    s.entropyPasses =
      { s.entropyEpisodeEnds with upd := s.upd.entropyUp, sys := { s.sys.entropyUp with tR := s.entropyPasses.sys.tR } } := by
  rw [State.entropyPasses, entropyEpisodeEnds_entropyUp]
  exact noteTr_frame _

theorem entropyPasses_upd (s : State) : s.entropyPasses.upd = s.upd.entropyUp :=
  congrArg State.upd (entropyPasses_frame s)

theorem entropyPasses_sys (s : State) : s.entropyPasses.sys = { s.sys.entropyUp with tR := s.entropyPasses.sys.tR } :=
  congrArg State.sys (entropyPasses_frame s)

/-- T_r is now when the source is READY after T_p (R519). -/
theorem entropyPasses_tR (s : State) (hr : s.sys.tR = none) (hp : s.sys.tP.isSome = true) : s.entropyPasses.sys.tR = some s.clk := by
  rw [State.entropyPasses, entropyEpisodeEnds_entropyUp, ← entropyEpisodeEnds_clk s]
  exact noteTr_tR _ hr hp (Nat.le_max_left 2 s.sys.stage)

/-- Two states with one body still have one when both get the same update block and the same start-up block. -/
theorem body_setUpdSys {s t : State} (u : Upd) (y : Sys) (h : t.body = s.body) :
    ({ t with upd := u, sys := y } : State).body = ({ s with upd := u, sys := y } : State).body := by
  have through (x : State) : ({ x with upd := u, sys := y } : State).body = ({ x.body with upd := u, sys := y } : State).body := rfl
  rw [through t, h, ← through s]

/-- Reports apart, passing the tests changes the update block and the start-up block alone. -/
theorem entropyPasses_body (s : State) :
    s.entropyPasses.body = ({ s with upd := s.entropyPasses.upd, sys := s.entropyPasses.sys } : State).body := by
  rw [entropyPasses_upd, entropyPasses_sys]
  exact (congrArg State.body (entropyPasses_frame s)).trans (body_setUpdSys _ _ (entropyEpisodeEnds_body s))

/-- Powered, not READY and not failed for good, the source passes its tests. -/
theorem execEntropyReady_passes (dt : Nat) (s : State) (hs : 1 ≤ (s.elapse dt).sys.stage) (hr : (s.elapse dt).upd.entReady = false)
    (hf : (s.elapse dt).upd.hardFail = false) : execEntropyReady dt s = .next (s.elapse dt).entropyPasses := by
  have awaited : 1 ≤ (s.elapse dt).sys.stage ∧ ¬(s.elapse dt).upd.entReady = true ∧ ¬(s.elapse dt).upd.hardFail = true := by simp [hs, hr, hf]
  exact congrArg Host.Outcome.next (if_pos awaited)

/-- Before the first stage, READY already, or failed for good, nothing happens. -/
theorem execEntropyReady_idle (dt : Nat) (s : State)
    (h : (s.elapse dt).sys.stage = 0 ∨ (s.elapse dt).upd.entReady = true ∨ (s.elapse dt).upd.hardFail = true) :
    execEntropyReady dt s = .next (s.elapse dt) := by
  have notAwaited : ¬(1 ≤ (s.elapse dt).sys.stage ∧ ¬(s.elapse dt).upd.entReady = true ∧ ¬(s.elapse dt).upd.hardFail = true) := by
    rintro ⟨powered, notReady, notFailed⟩
    obtain h | h | h := h
    · omega
    · exact notReady h
    · exact notFailed h
  exact congrArg Host.Outcome.next (if_neg notAwaited)

/-! ### Health tests failed (R506) -/

/-- From u to v the failure of test n was counted: the repetition count test is 1 and the adaptive proportion test 2 (Tables 15-9 and 15-11). -/
def testCounted (n : Nat) (u v : Upd) : Prop :=
  v.lastTest = n % 4 ∧ (n = 1 → v.rctCnt = satU 16 (u.rctCnt + 1) ∧ v.aptCnt = u.aptCnt) ∧ (n = 2 → v.aptCnt = satU 16 (u.aptCnt + 1) ∧ v.rctCnt = u.rctCnt)

theorem tested_counted (n : Nat) (u : Upd) : testCounted n u (u.tested n) := by
  refine ⟨rfl, ?_, ?_⟩ <;> rintro rfl <;> exact ⟨rfl, rfl⟩

/-- A test fails in service: READY clears and the source restarts. -/
def Upd.failsInService (n : Nat) (u : Upd) : Upd := { u.tested n with entReady := false, restarts := 0, entEp := true }

/-- A restart fails: it counts, and the third in a row is final. -/
def Upd.failsRestart (n : Nat) (u : Upd) : Upd := { u.tested n with restarts := satU 4 (u.restarts + 1), hardFail := decide (3 ≤ u.restarts + 1) }

theorem failsInService_counted (n : Nat) (u : Upd) : testCounted n u (u.failsInService n) := tested_counted n u

theorem failsRestart_counted (n : Nat) (u : Upd) : testCounted n u (u.failsRestart n) := tested_counted n u

/-- The restart that is final comes after two that failed. -/
theorem failsRestart_hardFail (n : Nat) (u : Upd) : (u.failsRestart n).hardFail = true ↔ 2 ≤ u.restarts :=
  decide_eq_true_iff.trans Nat.succ_le_succ_iff

/-- A failure in service raises ENTROPY_HEALTH on the source that restarts. -/
def State.entropyFails (n : Nat) (s : State) : State :=
  ({ s with upd := s.upd.failsInService n } : State).raise .entropyHealth 0 [] true

/-- Reports apart, a failure in service changes the update block alone. -/
theorem entropyFails_body (n : Nat) (s : State) : (s.entropyFails n).body = ({ s with upd := s.upd.failsInService n } : State).body :=
  State.raise_body .entropyHealth 0 [] true _

theorem entropyFails_upd (n : Nat) (s : State) : (s.entropyFails n).upd = s.upd.failsInService n :=
  (congrArg State.upd (entropyFails_body n s) :)

theorem entropyFails_raised (n : Nat) (s : State) : s.raised (s.entropyFails n) .entropyHealth 0 :=
  State.raise_raised .entropyHealth 0 [] true ({ s with upd := s.upd.failsInService n } : State)

/-- A powered source that has not failed for good answers a failed test by whether it was in service. -/
theorem execEntropyHealth_live (dt n : Nat) (s : State) (hs : (s.elapse dt).sys.stage ≠ 0) (hf : (s.elapse dt).upd.hardFail = false) :
    execEntropyHealth dt n s =
      .next (if (s.elapse dt).upd.entReady = true then (s.elapse dt).entropyFails n
        else { s.elapse dt with upd := (s.elapse dt).upd.failsRestart n }) := by
  have live : ¬((s.elapse dt).sys.stage = 0 ∨ (s.elapse dt).upd.hardFail = true) := by simp [hs, hf]
  exact congrArg Host.Outcome.next (if_neg live)

/-- A test of a source not powered, or failed for good, changes nothing. -/
theorem execEntropyHealth_idle (dt n : Nat) (s : State) (h : (s.elapse dt).sys.stage = 0 ∨ (s.elapse dt).upd.hardFail = true) :
    execEntropyHealth dt n s = .next (s.elapse dt) :=
  congrArg Host.Outcome.next (if_pos h)

/-! ### The statements of the family -/

/-- Settles O58: the clauses on a read are R507's and R505's for a source READY or not, those on a pass are R505's with T_r of R519, and those on a failed test are R506's in service, at a restart, and once it has failed for good. -/
theorem entropySource : Obligations.EntropySource := by
  unfold Obligations.EntropySource
  intro dt n s e tests
  refine ⟨fun ready => ?issued, fun notReady => ?withheld, fun powered notReady notFailed => ?passes, execEntropyReady_idle dt s,
    fun powered notFailed ready => ?inService, fun powered notFailed notReady => ?restart, execEntropyHealth_idle dt n s⟩
  case issued =>
    exact ⟨_, congrArg Host.Outcome.next (readNonce_of_ready e ready), rfl, rfl,
      fun canonical => tget_tput_self (fun _ => 0) _ e.shadows 0 0xE02C canonical, rfl⟩
  case withheld =>
    exact congrArg Host.Outcome.next (readNonce_of_not_ready e notReady)
  case passes =>
    exact ⟨e.entropyPasses, execEntropyReady_passes dt s powered notReady notFailed, entropyPasses_upd e, entropyPasses_sys e,
      entropyPasses_tR e, entropyPasses_body e⟩
  case inService =>
    have failed : (e.entropyFails n).upd = e.upd.failsInService n := entropyFails_upd n e
    refine ⟨e.entropyFails n, (execEntropyHealth_live dt n s powered notFailed).trans (congrArg Host.Outcome.next (if_pos ready)),
      entropyFails_raised n e, ?_⟩
    rw [failed]
    exact ⟨rfl, notFailed, rfl, failsInService_counted n e.upd, entropyFails_body n e⟩
  case restart =>
    have waiting : ¬e.upd.entReady = true := by simp [notReady]
    exact ⟨_, (execEntropyHealth_live dt n s powered notFailed).trans (congrArg Host.Outcome.next (if_neg waiting)),
      notReady, rfl, failsRestart_hardFail n e.upd, failsRestart_counted n e.upd, rfl⟩

end Sys2Proof.Machine
